-- ==== Sys2Proof/Word.lean ====
section
/-! DEFINITION. Words of the K44: bytes, positions, the signed comparison of positions (R1), big-endian byte
groups (R198), and the two shapes every block uses: one value per pantograph slot, one value per link. -/

namespace Sys2Proof

/-- A byte on a link. -/
abbrev Byte := BitVec 8

/-- A position: centimetres along the direction of travel, modulo 2^32 (00, Positions; R1). -/
abbrev Pos := BitVec 32

/-- signed(x − y) of R1: the difference modulo 2^32 read as a two's-complement number. -/
def signedDiff (x y : Pos) : Int := (x - y).toInt

/-- "x has reached y" of R1. -/
def reached (x y : Pos) : Bool := decide (0 ≤ signedDiff x y)

/-- A position moved forward by a distance, modulo 2^32. -/
def Pos.plus (x : Pos) (d : Nat) : Pos := x + BitVec.ofNat 32 d

/-- A position moved back by a distance, modulo 2^32. -/
def Pos.minus (x : Pos) (d : Nat) : Pos := x - BitVec.ofNat 32 d

/-- ceil(a / b) for b > 0. -/
def ceilDiv (a b : Nat) : Nat := (a + (b - 1)) / b

/-- Rounding of a quotient to the nearest integer, halves away from zero (00, Rounding). -/
def roundDiv (a : Int) (b : Nat) : Int :=
  if 0 ≤ a then ((2 * a.toNat + b) / (2 * b) : Nat)
  else -((2 * (-a).toNat + b) / (2 * b) : Nat)

/-- The number spelled by bytes, most significant first (R198, byte order). -/
def be : List Byte → Nat
  | [] => 0
  | b :: bs => b.toNat * 256 ^ bs.length + be bs

/-- `w` bytes of a number, most significant first (R198). -/
def toBE : Nat → Nat → List Byte
  | 0, _ => []
  | w + 1, n => BitVec.ofNat 8 (n / 256 ^ w) :: toBE w n

/-- The two host links (11). -/
inductive Link where
  | a
  | b
deriving DecidableEq, Repr

/-- The other link. -/
def Link.other : Link → Link
  | .a => .b
  | .b => .a

/-- The four pantograph slots PS0..PS3 (04). -/
inductive SlotId where
  | ps0
  | ps1
  | ps2
  | ps3
deriving DecidableEq, Repr

/-- The slot's number k, 0..3. -/
def SlotId.num : SlotId → Nat
  | .ps0 => 0
  | .ps1 => 1
  | .ps2 => 2
  | .ps3 => 3

/-- The slot of a number, where one has it. -/
def SlotId.ofNat? : Nat → Option SlotId
  | 0 => some .ps0
  | 1 => some .ps1
  | 2 => some .ps2
  | 3 => some .ps3
  | _ => none

/-- One value for each slot. -/
structure PerSlot (α : Type) where
  ps0 : α
  ps1 : α
  ps2 : α
  ps3 : α
deriving DecidableEq, Repr

/-- The same value for every slot. -/
def PerSlot.all {α : Type} (x : α) : PerSlot α := ⟨x, x, x, x⟩

/-- The value of one slot. -/
def PerSlot.get {α : Type} (p : PerSlot α) : SlotId → α
  | .ps0 => p.ps0
  | .ps1 => p.ps1
  | .ps2 => p.ps2
  | .ps3 => p.ps3

/-- The values with one slot's replaced. -/
def PerSlot.set {α : Type} (p : PerSlot α) (k : SlotId) (x : α) : PerSlot α :=
  match k with
  | .ps0 => { p with ps0 := x }
  | .ps1 => { p with ps1 := x }
  | .ps2 => { p with ps2 := x }
  | .ps3 => { p with ps3 := x }

/-- A function applied slot by slot. -/
def PerSlot.map {α β : Type} (f : α → β) (p : PerSlot α) : PerSlot β :=
  ⟨f p.ps0, f p.ps1, f p.ps2, f p.ps3⟩

/-- Values made from the slot names. -/
def PerSlot.of {α : Type} (f : SlotId → α) : PerSlot α := ⟨f .ps0, f .ps1, f .ps2, f .ps3⟩

/-- The values in slot order. -/
def PerSlot.toList {α : Type} (p : PerSlot α) : List α := [p.ps0, p.ps1, p.ps2, p.ps3]

/-- Some slot's value has the property. -/
def PerSlot.any {α : Type} (p : PerSlot α) (f : α → Bool) : Bool :=
  f p.ps0 || f p.ps1 || f p.ps2 || f p.ps3

/-- Every slot's value has the property. -/
def PerSlot.every {α : Type} (p : PerSlot α) (f : α → Bool) : Bool :=
  f p.ps0 && f p.ps1 && f p.ps2 && f p.ps3

/-- A set of slots as bits 0..3, bit k standing for PSk (R84, AVAIL). -/
def PerSlot.bits (p : PerSlot Bool) : Nat :=
  p.ps0.toNat + 2 * p.ps1.toNat + 4 * p.ps2.toNat + 8 * p.ps3.toNat

/-- A clock: stopped, or running with the microseconds left until it is due (log 3). -/
abbrev Timer := Option Nat

/-- A timer started at a number of milliseconds. -/
def ms (n : Nat) : Timer := some (n * 1000)

/-- A timer after `n` microseconds. It stands at 0 when due. -/
def Timer.after (n : Nat) (t : Timer) : Timer := t.map (· - n)

end Sys2Proof
end

