-- ==== Sys2Proof/Config.lean ====
section
/-! DEFINITION. The free values: what the manual gives no value for, where the part nevertheless goes on.
Each is a constant without a body, so nothing proved here can depend on it. -/

namespace Sys2Proof

/-- Free value (log 7). Whether a time left that is not a whole number of milliseconds reads rounded up.
The readouts carry times left in ms (R113, R137, R159, R175) and no rule states how the rest of a
millisecond is shown. -/
opaque Config.timeLeftRoundsUp : Bool

/-- Free value (log 8). The magnitude of a completed window that holds no sample: R40 says every completed
window holds at least 20 samples, and R41 states no mean of none. -/
opaque Config.emptyWindowMagnitude : Fin 40001

/-- Free value (log 9). The slot state in the reply to a SET_SLOT that names a slot above 3: R56 says a
refused SET_SLOT carries "the status and the slot's state", and there is no such slot. -/
opaque Config.noSlotState : Byte → BitVec 3

end Sys2Proof
end

