-- ==== Sys2Proof/Syntax.lean ====
section
/-! DEFINITION. The commands: one constructor for each row of spec/opcode_table.json, in the table's order,
and the operand types. -/

namespace Sys2Proof

/-- The three levels of the SEL strap: LOW, HIGH, OPEN (R191). -/
inductive SelLevel where
  | low
  | high
  | opened
deriving DecidableEq, Repr

/-- The switch inputs of one slot: DN_k made, CT_k made, ADD_k tripped, DSF_k made (04). -/
structure SlotPins where
  dn : Bool
  ct : Bool
  add : Bool
  dsf : Bool
deriving DecidableEq, Repr

/-- The levels a reset reads: the filtered inputs (R55, R100, R191) and the BAUD strap (R197; true is high). -/
structure Pins where
  slots : PerSlot SlotPins
  aux : Bool
  sel : SelLevel
  baud : Bool
deriving DecidableEq, Repr

/-- A filtered input with its new raw level (R55, R100, R191). For a switch, true is made; for the
auto-drop line, true is tripped. -/
inductive RawInput where
  | dn (k : SlotId) (made : Bool)
  | ct (k : SlotId) (made : Bool)
  | add (k : SlotId) (tripped : Bool)
  | dsf (k : SlotId) (made : Bool)
  | aux (made : Bool)
  | sel (level : SelLevel)
deriving DecidableEq, Repr

/-- The commands. A request row's operand is the link whose oldest buffered request starts service: the
fields of the request are that frame's payload (R189, R200, R202; log 5). -/
inductive Instr where
  /-- POWER_ON (R197): power is applied, with these levels at the pins. -/
  | powerOn (pins : Pins)
  /-- RST_N_LOW (R197). -/
  | rstNLow
  /-- RST_N_RISE (R197): SEL and BAUD are read afresh. -/
  | rstNRise (sel : SelLevel) (baudHigh : Bool)
  /-- FRAME_RECEIVED (R187): the last check byte of the frame in progress arrives. -/
  | frameReceived (l : Link) (b : Byte)
  /-- RX_GAP_TIMEOUT (R187). -/
  | rxGapTimeout (l : Link)
  /-- UNKNOWN_REQ (R189). -/
  | unknownReq (l : Link)
  /-- FRAME_SENT (R190). -/
  | frameSent (l : Link)
  /-- NOTICE_START (R182). -/
  | noticeStart (l : Link)
  /-- REPORT_POSITION (R4). -/
  | reportPosition (l : Link)
  /-- REVERSE (R13). -/
  | reverse (l : Link)
  /-- READ_POSITION (R16). -/
  | readPosition (l : Link)
  /-- POST_EVENT (R22). -/
  | postEvent (l : Link)
  /-- CANCEL_EVENT (R26). -/
  | cancelEvent (l : Link)
  /-- RESUME_QUEUE (R30). -/
  | resumeQueue (l : Link)
  /-- READ_QUEUE (R34). -/
  | readQueue (l : Link)
  /-- READ_CLOSED (R35). -/
  | readClosed (l : Link)
  /-- READ_LINE (R52). -/
  | readLine (l : Link)
  /-- SET_SLOT (R56). -/
  | setSlot (l : Link)
  /-- UNLOCK_SLOT (R58). -/
  | unlockSlot (l : Link)
  /-- READ_SLOT (R59). -/
  | readSlot (l : Link)
  /-- SET_DEMAND (R82). -/
  | setDemand (l : Link)
  /-- WRITE_RULE (R86). -/
  | writeRule (l : Link)
  /-- READ_RULE (R87). -/
  | readRule (l : Link)
  /-- READ_TARGET (R98). -/
  | readTarget (l : Link)
  /-- READ_BREAKER (R113). -/
  | readBreaker (l : Link)
  /-- READ_PASSAGE (R137). -/
  | readPassage (l : Link)
  /-- READ_ICE (R159). -/
  | readIce (l : Link)
  /-- CLEAR_TRO (R168). -/
  | clearTro (l : Link)
  /-- READ_CURRENT (R175). -/
  | readCurrent (l : Link)
  /-- CLEAR_FLAGS (R179). -/
  | clearFlags (l : Link)
  /-- CLEAR_FAULT (R184). -/
  | clearFault (l : Link)
  /-- GET_FLAGS (R180). -/
  | getFlags (l : Link)
  /-- SET_NOTICE_MASK (R181). -/
  | setNoticeMask (l : Link)
  /-- TAKE_COMMAND (R192). -/
  | takeCommand (l : Link)
  /-- GET_STATUS (R195). -/
  | getStatus (l : Link)
  /-- READ_PARAM (R196). -/
  | readParam (l : Link)
  /-- SET_PARAM (R196). -/
  | setParam (l : Link)
  /-- RESET_PART (R197). -/
  | resetPart (l : Link)
  /-- COMMAND_CHANGE_EFFECT (R193). -/
  | commandChangeEffect
  /-- SEL_ACCEPTED_CHANGE (R191). -/
  | selAcceptedChange
  /-- SILENCE_TIMER_EXPIRY (R194). -/
  | silenceTimerExpiry (l : Link)
  /-- POSITION_REFRESH (R7). -/
  | positionRefresh
  /-- PSQ_RAMP_TIMER_EXPIRY (R122). -/
  | psqRampTimerExpiry
  /-- CONFIRM_TIMER_EXPIRY (R130). -/
  | confirmTimerExpiry
  /-- LS_ZC_RISE (R37). -/
  | lsZcRise
  /-- PERIOD_OVERFLOW (R39). -/
  | periodOverflow
  /-- LS_MAG_SAMPLE (R40): the line volts LS_MAG stands for, before the reading stops at full scale. -/
  | lsMagSample (volts : Nat)
  /-- INPUT_RAW_CHANGE (R55). -/
  | inputRawChange (i : RawInput)
  /-- DOWN_SWITCH_MADE (R69). -/
  | downSwitchMade (k : SlotId)
  /-- DOWN_SWITCH_OPEN (R70). -/
  | downSwitchOpen (k : SlotId)
  /-- CONTACT_MADE (R64). -/
  | contactMade (k : SlotId)
  /-- CONTACT_LOST (R68). -/
  | contactLost (k : SlotId)
  /-- AUTODROP_TRIP (R71). -/
  | autodropTrip (k : SlotId)
  /-- AUTODROP_RELEASE (R63). -/
  | autodropRelease (k : SlotId)
  /-- DSF_MADE (R74). -/
  | dsfMade (k : SlotId)
  /-- DSF_RELEASED (R74). -/
  | dsfReleased (k : SlotId)
  /-- RAISE_TIMER_EXPIRY (R65). -/
  | raiseTimerExpiry (k : SlotId)
  /-- LOWER_TIMER_EXPIRY (R69). -/
  | lowerTimerExpiry (k : SlotId)
  /-- RETRY_TIMER_EXPIRY (R65). -/
  | retryTimerExpiry (k : SlotId)
  /-- CONTACT_LOSS_TIMER_EXPIRY (R68). -/
  | contactLossTimerExpiry (k : SlotId)
  /-- TRAVEL_TIMER_EXPIRY (R74). -/
  | travelTimerExpiry (k : SlotId)
  /-- BKI_RAMP_TIMER_EXPIRY (R105). -/
  | bkiRampTimerExpiry
  /-- AUX_MADE (R102). -/
  | auxMade
  /-- AUX_RELEASED (R107). -/
  | auxReleased
  /-- CLOSE_TIMEOUT (R102). -/
  | closeTimeout
  /-- OPEN_TIMEOUT (R107). -/
  | openTimeout
  /-- OPEN_CHECK_END (R108). -/
  | openCheckEnd
  /-- RECLOSE_DELAY_EXPIRY (R109). -/
  | recloseDelayExpiry
  /-- TRIP_WINDOW_EXPIRY (R109). -/
  | tripWindowExpiry
  /-- GATE_END (R140). -/
  | gateEnd
  /-- SCAN_COMPLETION (R153). -/
  | scanCompletion
  /-- HEATER_DRIVE_EDGE (R149). -/
  | heaterDriveEdge (k : SlotId)
  /-- FALL_TIMER_EXPIRY (R155). -/
  | fallTimerExpiry
  /-- CSU_SAMPLE (R161): the amperes IS_0..IS_3 stand for, before the readings stop at full scale. -/
  | csuSample (amps : PerSlot Nat)
  /-- WIDTH_HALF_POINT (R166). -/
  | widthHalfPoint
  /-- WIDTH_TIMER_END (R167). -/
  | widthTimerEnd
  /-- OVERLOAD_TIMER_EXPIRY (R169). -/
  | overloadTimerExpiry
  /-- DROPOUT_TIMER_EXPIRY (R172). -/
  | dropoutTimerExpiry (k : SlotId)
  /-- BUCKET_TURNOVER (R173). -/
  | bucketTurnover
  /-- BYTE_RECEIVED (R187). -/
  | byteReceived (l : Link) (b : Byte) (stopBitError : Bool)
  /-- RFC_CX_RISING_EDGE (R141). -/
  | rfcCxRisingEdge
deriving DecidableEq, Repr

end Sys2Proof
end

