-- ==== Sys2Proof/Decode.lean ====
section
/-! DEFINITION. The command a table word spells. No row of spec/opcode_table.json gives bits (each row's
fields are empty and none has a fixed word), so no word spells a command. The part's own coding of requests,
which does have bits (R199, R200), is read by the link receiver and by the requests' meanings. -/

namespace Sys2Proof

/-- The command that a word spells by the table's bits: none, since no row gives bits. -/
def decodeTableWord (_nbits _w : Nat) : Option Instr := none

end Sys2Proof
end

