-- ==== Sys2Proof/Machine/State.lean ====
section
/-! DEFINITION. The state of the K44, block by block as each chapter's state table gives it, as plain data, with
the state after reset. Times are held in microseconds; a clock is a `Timer`. -/

namespace Sys2Proof.Machine

/-- What can end a run with a fault: nothing. No rule of the spec stops the part, so this type has no
constructor and no meaning raises a fault (safe: nothing is cut short). -/
inductive Fault where
deriving DecidableEq, Repr

/-- What can be refused. -/
inductive Refusal where
  /-- Raised by an arm of `exec` whose command has no meaning yet; no arm is in that case (safe). -/
  | notModelled (mnemonic : String)
deriving DecidableEq, Repr

/-! ### Values the blocks share -/

/-- The four line systems (00, R201). -/
inductive LineSystem where
  | a50
  | a16
  | d30
  | d15
deriving DecidableEq, Repr

/-- A window's class, the candidate and the confirmed system: NONE, a system, or UNKNOWN (R43, R45). -/
inductive LineClass where
  | none
  | sys (x : LineSystem)
  | unknown
deriving DecidableEq, Repr

/-- Slot roles (R53). -/
inductive Role where
  | stow
  | collect
  | sweep
deriving DecidableEq, Repr

/-- Contact force classes (R53). -/
inductive Force where
  | light
  | normal
  | heavy
deriving DecidableEq, Repr

/-- A role and a force, as a Target gives them for one slot (R80). -/
structure RoleForce where
  role : Role
  force : Force
deriving DecidableEq, Repr

/-- A Target: a role and a force per slot, and a profile 0..3 (R80). -/
structure Target where
  slots : PerSlot RoleForce
  profile : Nat
deriving DecidableEq, Repr

/-- The reset Target, which is also the default result of an evaluation (R80, R91). -/
def Target.stowAll : Target := { slots := .all ⟨.stow, .normal⟩, profile := 0 }

/-- A filtered two-level input: its raw level, its accepted level and its wait (R55). -/
structure Filter where
  raw : Bool
  acc : Bool
  wait : Timer
deriving DecidableEq, Repr

/-- A filter at reset: the level present is accepted without a wait (R55). -/
def Filter.atReset (level : Bool) : Filter := { raw := level, acc := level, wait := none }

/-- The filtered SEL strap (R191). -/
structure SelFilter where
  raw : SelLevel
  acc : SelLevel
  wait : Timer
deriving DecidableEq, Repr

/-! ### Position Estimator (R2) -/

/-- Position status (R2, R9). -/
inductive PosStatus where
  | noFix
  | valid
  | coasting
  | lost
deriving DecidableEq, Repr

/-- The end of the half-unit that leads (R12). -/
inductive LeadEnd where
  | aEnd
  | bEnd
deriving DecidableEq, Repr

/-- The Position Estimator's state (R2). `age` is the report age in microseconds, up to 65,535,000. -/
structure Pe where
  p : Pos
  v : Nat
  uRep : Nat
  age : Nat
  e : Pos
  u : Nat
  status : PosStatus
  band : Nat
  lead : LeadEnd
  refresh : Timer
deriving DecidableEq, Repr

/-- The age at which the report age stops, in microseconds (R6). -/
def ageLimit : Nat := 65535000

/-- R2. -/
def Pe.reset : Pe :=
  { p := 0, v := 0, uRep := 0, age := ageLimit, e := 0, u := 65535, status := .noFix, band := 0, lead := .aEnd,
    refresh := ms 10 }

/-! ### Track Event Queue (R17) -/

/-- An entry's kind with the fields only that kind has (R18). -/
inductive Kind where
  | neutral (lowering : Bool)
  | boundary (next : LineSystem)
  | lower
  | iceZone (hint : Nat)
deriving DecidableEq, Repr

/-- The section kinds (R18). -/
def Kind.isSection : Kind → Bool
  | .iceZone _ => false
  | _ => true

/-- The kinds through which the pantographs are lowered (R117, R120). -/
def Kind.lowers : Kind → Bool
  | .neutral l => l
  | .boundary _ => true
  | .lower => true
  | .iceZone _ => false

/-- Entry status (R19). -/
inductive EntryStatus where
  | queued
  | armed
  | active
  | inside
deriving DecidableEq, Repr

/-- A queued entry (R18). -/
structure Entry where
  tag : Byte
  kind : Kind
  start : Pos
  len : Nat
  status : EntryStatus
deriving DecidableEq, Repr

/-- The steps of a passage (R114, R120). -/
inductive Step where
  | ramp
  | openBrk
  | lower
  | coast
  | reraise
  | confirm
deriving DecidableEq, Repr

/-- Reasons of a SKIPPED record (R24). -/
inductive SkipReason where
  | cancelled
  | passed
  | passedHalted
  | reversed
deriving DecidableEq, Repr

/-- Reasons of an ABORTED record (R24). -/
inductive AbortReason where
  | brkNoOpen
  | lowerLate
  | noCollector
  | wrongSystem
  | reversed
deriving DecidableEq, Repr

/-- Outcome of a close with its reason (R24). -/
inductive CloseResult where
  | done
  | doneNoVoltage
  | skipped (r : SkipReason)
  | aborted (r : AbortReason)
deriving DecidableEq, Repr

/-- A closed record (R24). -/
structure ClosedRec where
  tag : Byte
  kind : Kind
  result : CloseResult
  lastStep : Option Step
  eAtClose : Pos
deriving DecidableEq, Repr

/-- The Track Event Queue's state (R17). -/
structure Teq where
  entries : List Entry
  closed : List ClosedRec
  posted : BitVec 32
  closedCount : BitVec 32
  halted : Bool
deriving DecidableEq, Repr

/-- R17. -/
def Teq.reset : Teq := { entries := [], closed := [], posted := 0, closedCount := 0, halted := false }

/-! ### Line Sense Unit (R36) -/

/-- The last window record: period (none for no period), magnitude, class (R36, R42). -/
structure WindowRec where
  period : Option Nat
  magnitude : Nat
  cls : LineClass
deriving DecidableEq, Repr

/-- The Line Sense Unit's state (R36). The magnitude accumulation is the number, the sum and the sum of
squares of the samples, which is all R41 takes from them (DEDUCED, log 30). -/
structure Lsu where
  counter : Nat
  anchored : Bool
  sinceCross : Nat
  accN : Nat
  accSum : Nat
  accSq : Nat
  magTimer : Timer
  last : Option WindowRec
  windows : Nat
  cand : Option LineClass
  candCount : Nat
  confirmed : LineClass
  overCount : Nat
  overvolt : Bool
deriving DecidableEq, Repr

/-- R36. -/
def Lsu.reset : Lsu :=
  { counter := 0, anchored := false, sinceCross := 2000, accN := 0, accSum := 0, accSq := 0, magTimer := some 100,
    last := none, windows := 0, cand := none, candCount := 0, confirmed := .none, overCount := 0, overvolt := false }

/-! ### Pantograph Units (R53, R73) -/

/-- Slot states (R53, R54). -/
inductive SlotState where
  | disabled
  | down
  | raising
  | up
  | lowering
  | dropped
  | retryWait
  | locked
deriving DecidableEq, Repr

/-- Sequencer holds (R53, R62). -/
inductive SeqHold where
  | none
  | lower
  | fast
deriving DecidableEq, Repr

/-- The set of lock reasons (R53, R72). -/
structure Locks where
  raiseFail : Bool
  autodrop : Bool
  stuckUp : Bool
  dscFail : Bool
deriving DecidableEq, Repr

/-- No lock reason. -/
def Locks.empty : Locks := ⟨false, false, false, false⟩

/-- Disconnector states (R73). -/
inductive DscState where
  | opened
  | closing
  | closed
  | opening
  | failed
deriving DecidableEq, Repr

/-- The disconnector sub-record: state, command (true is close), travel timer (R73). Its accepted feedback
is the slot's `dsf` filter. -/
structure Dsc where
  state : DscState
  cmd : Bool
  travel : Timer
deriving DecidableEq, Repr

/-- A slot record (R53). -/
structure Slot where
  enabled : Bool
  offset : Nat
  mask : BitVec 4
  state : SlotState
  tRole : Role
  tForce : Force
  role : Role
  hold : SeqHold
  retryCount : Nat
  retryPending : Bool
  /-- A changed role was delivered in this LOWERING: it is applied where the LOWERING ends, RETRY_WAIT included (the model's own
  field: R78 treats it apart from a role delivered in RAISING; DEDUCED, log 15). -/
  roleDue : Bool
  locks : Locks
  contactLosses : Nat
  down : Filter
  contact : Filter
  add : Filter
  dsf : Filter
  prv : Nat
  dmp : Bool
  raise : Timer
  lower : Timer
  retry : Timer
  contactLoss : Timer
  dsc : Dsc
deriving DecidableEq, Repr

/-- The travel time of a disconnector, 1,500 ms (R73). -/
def travelMs : Nat := 1500

/-- A slot record at reset, with the levels at its pins (R53, R55, R73). -/
def Slot.reset (x : SlotPins) : Slot :=
  { enabled := false, offset := 0, mask := 0, state := .disabled, tRole := .stow, tForce := .normal, role := .stow,
    hold := .none, retryCount := 0, retryPending := false, roleDue := false, locks := .empty, contactLosses := 0,
    down := .atReset x.dn, contact := .atReset x.ct, add := .atReset x.add, dsf := .atReset x.dsf,
    prv := 0, dmp := false, raise := none, lower := none, retry := none, contactLoss := none,
    dsc := if x.dsf then ⟨.opening, false, ms travelMs⟩ else ⟨.opened, false, none⟩ }

/-! ### Configuration Selector (R80) -/

/-- Demand ice (R81). -/
inductive IceDemand where
  | auto
  | off
  | force1
  | force2
  | force3
deriving DecidableEq, Repr

/-- The Demand record (R81). -/
structure Demand where
  collect : Bool
  power : Bool
  ice : IceDemand
  expected : Option LineSystem
deriving DecidableEq, Repr

/-- The Condition Vector (R84). -/
structure CondVec where
  sys : Option LineSystem
  speed : Nat
  ice : Nat
  amb : Nat
  demand : Bool
  avail : PerSlot Bool
  zone : Bool
  lead : LeadEnd
deriving DecidableEq, Repr

/-- The field a rule tests (R85). -/
inductive RuleField where
  | none
  | sys
  | speed
  | ice
  | amb
  | demand
  | avail
  | zone
  | lead
  | mask
deriving DecidableEq, Repr

/-- A rule's comparison (R85). -/
inductive RuleOp where
  | eq
  | ne
  | ge
  | lt
deriving DecidableEq, Repr

/-- A rule's action (R85). -/
inductive Action where
  | absent
  | target (t : Target)
  | refuse
deriving DecidableEq, Repr

/-- A rule record (R85). -/
structure Rule where
  field : RuleField
  op : RuleOp
  value : Byte
  chained : Bool
  action : Action
deriving DecidableEq, Repr

/-- The empty rule (R85). -/
def Rule.empty : Rule := { field := .none, op := .eq, value := 0, chained := false, action := .absent }

/-- The kind of an evaluation's result (R93). -/
inductive EvalKind where
  | target
  | refuse
  | dflt
deriving DecidableEq, Repr

/-- The last evaluation record (R93). -/
structure EvalRec where
  index : Option Nat
  kind : EvalKind
  changed : PerSlot Bool
deriving DecidableEq, Repr

/-- The Configuration Selector's state (R80). -/
structure Cs where
  demand : Demand
  cv : CondVec
  rules : List Rule
  current : Target
  pend : Option Target
  hold : Bool
  lastEval : Option EvalRec
  evals : Nat
deriving DecidableEq, Repr

/-- R80. -/
def Cs.reset : Cs :=
  { demand := { collect := false, power := false, ice := .auto, expected := none },
    cv := { sys := none, speed := 0, ice := 0, amb := 1, demand := false, avail := .all false, zone := false,
            lead := .aEnd },
    rules := List.replicate 48 .empty, current := .stowAll, pend := none, hold := false, lastEval := none, evals := 0 }

/-! ### Breaker Interface (R99) -/

/-- Breaker states (R99). -/
inductive BrkState where
  | opened
  | closing
  | closed
  | opening
  | failed
deriving DecidableEq, Repr

/-- Failure kinds (R99). -/
inductive FailKind where
  | noClose
  | noOpen
deriving DecidableEq, Repr

/-- The results of the interlock items (a) to (g): true is hold (R99, R101). -/
structure Items where
  a : Bool
  b : Bool
  c : Bool
  d : Bool
  e : Bool
  f : Bool
  g : Bool
deriving DecidableEq, Repr

/-- The Breaker Interface's state (R99, R110). -/
structure Bki where
  state : BrkState
  kind : Option FailKind
  hold : Bool
  aux : Filter
  sup : Timer
  ramp : Timer
  reclose : Timer
  tripWindow : Timer
  items : Items
  wrongCond : Bool
  wrongLatch : Bool
  brkFault : Bool
deriving DecidableEq, Repr

/-- R99, with the level at BRK_AUX and T_OPEN_MAX at its default of 200 ms (R203). -/
def Bki.reset (aux : Bool) : Bki :=
  { state := if aux then .opening else .opened, kind := none, hold := false, aux := .atReset aux,
    sup := if aux then ms 200 else none, ramp := none, reclose := none, tripWindow := none,
    items := ⟨true, false, false, true, true, true, true⟩, wrongCond := false, wrongLatch := false, brkFault := false }

/-! ### Passage Sequencer (R114) -/

/-- The plan's phase (R114). -/
inductive Phase where
  | none
  | armed
  | active
deriving DecidableEq, Repr

/-- The planned entry's fields, copied at arming (R114, R119). -/
structure Plan where
  tag : Byte
  kind : Kind
  start : Pos
  len : Nat
deriving DecidableEq, Repr

/-- The last points record (R118, R137). -/
structure Points where
  tag : Byte
  g : Nat
  d : Pos
  a : Pos
  arming : Pos
  deadline : Pos
  c : Pos
  e : Pos
  u : Nat
deriving DecidableEq, Repr

/-- The Passage Sequencer's state (R114). `timeInStep` is in microseconds, up to 65,535,000. -/
structure Psq where
  phase : Phase
  plan : Option Plan
  oLead : Option Nat
  oRear : Option Nat
  tLead : Option Nat
  step : Option Step
  timeInStep : Nat
  rampTimer : Timer
  confirmTimer : Timer
  seqHeld : Bool
  slotHold : SeqHold
  emergency : Bool
  lastPoints : Option Points
deriving DecidableEq, Repr

/-- R114. -/
def Psq.reset : Psq :=
  { phase := .none, plan := none, oLead := none, oRear := none, tLead := none, step := none, timeInStep := 0,
    rampTimer := none, confirmTimer := none, seqHeld := false, slotHold := .none, emergency := false,
    lastPoints := none }

/-! ### Ice Unit (R139) -/

/-- The converter's channels in scan order (R140). -/
inductive Channel where
  | ref
  | strip (k : SlotId)
  | amb
deriving DecidableEq, Repr

/-- A count with its overflow mark (R141). -/
structure Count where
  n : Nat
  ovf : Bool
deriving DecidableEq, Repr

/-- No cycles, no overflow. -/
def Count.zero : Count := ⟨0, false⟩

/-- Fault kinds of a sensor channel (R143). -/
inductive SensorFault where
  | none
  | opened
  | short
deriving DecidableEq, Repr

/-- A sensor channel: fault kind, temperature in 0.1 °C, validity, clamped mark (R139). -/
structure Sensor where
  fault : SensorFault
  temp : Int
  valid : Bool
  clamped : Bool
deriving DecidableEq, Repr

/-- A sensor channel at reset (R139). -/
def Sensor.reset : Sensor := { fault := .none, temp := 0, valid := false, clamped := false }

/-- The Ice Unit's state (R139). -/
structure Icu where
  chan : Channel
  gate : Timer
  count : Count
  lastRef : Count
  lastStrip : PerSlot Count
  lastAmb : Count
  refFault : Bool
  strip : PerSlot Sensor
  amb : Sensor
  ambBand : Nat
  request : PerSlot Bool
  grant : PerSlot Bool
  heaterFault : PerSlot Bool
  htr : PerSlot Bool
  duty : Nat
  computed : Nat
  measured : Nat
  fall : Timer
  iceLevel : Nat
  scans : Nat
  zoneHint : Nat
  iceDemand : IceDemand
  roles : PerSlot Role
  arcs : PerSlot Nat
deriving DecidableEq, Repr

/-- R139. -/
def Icu.reset : Icu :=
  { chan := .ref, gate := ms 50, count := .zero, lastRef := .zero, lastStrip := .all .zero, lastAmb := .zero,
    refFault := false, strip := .all .reset, amb := .reset, ambBand := 1, request := .all false, grant := .all false,
    heaterFault := .all false, htr := .all false, duty := 2, computed := 0, measured := 0, fall := none, iceLevel := 0,
    scans := 0, zoneHint := 0, iceDemand := .auto, roles := .all .stow, arcs := .all 0 }

/-! ### Collection Supervisor (R160) -/

/-- One current sample with its clamped mark (R161). -/
structure Sample where
  amps : Nat
  clamped : Bool
deriving DecidableEq, Repr

/-- The OVER reason (R166). -/
inductive OverReason where
  | idle
  | timing
  | extended
deriving DecidableEq, Repr

/-- The reasons seen: SEQ, DEMAND, OVER (R171). -/
structure Reasons where
  seq : Bool
  demand : Bool
  ovr : Bool
deriving DecidableEq, Repr

/-- The Collection Supervisor's state (R160). An arc watch is IDLE (`none`) or in DROPOUT with its timer.
Histories and buckets stand newest first. -/
structure Csu where
  hist : PerSlot (List Sample)
  mean : PerSlot Nat
  limit : PerSlot Nat
  overMark : PerSlot Bool
  overLimit : Bool
  total : Nat
  seqHeld : Bool
  demandHeld : Bool
  overReason : OverReason
  width : Timer
  half : Timer
  tro : Bool
  seen : Reasons
  overload : Timer
  overloadLatch : Bool
  dropout : PerSlot Timer
  buckets : PerSlot (List Nat)
  sample : Timer
  bucket : Timer
  expected : Option LineSystem
  band : Nat
  profile : Nat
  roles : PerSlot Role
  brk : BrkState
deriving DecidableEq, Repr

/-- R160, with the breaker state as the Breaker Interface resets it. -/
def Csu.reset (brk : BrkState) : Csu :=
  { hist := .all (List.replicate 20 ⟨0, false⟩), mean := .all 0, limit := .all 0, overMark := .all false,
    overLimit := false, total := 0, seqHeld := false, demandHeld := false, overReason := .idle, width := none,
    half := none, tro := false, seen := ⟨false, false, false⟩, overload := none, overloadLatch := false,
    dropout := .all none, buckets := .all (List.replicate 10 0), sample := ms 1, bucket := ms 1000, expected := none,
    band := 0, profile := 0, roles := .all .stow, brk := brk }

/-! ### Flag and Notice Unit (R177) -/

/-- A set of the 26 flags, bit n standing for flag number n (R176, R198). -/
abbrev FlagSet := BitVec 26

/-- One value for each link. -/
structure PerLink (α : Type) where
  a : α
  b : α
deriving DecidableEq, Repr

/-- The value of one link. -/
def PerLink.get {α : Type} (p : PerLink α) : Link → α
  | .a => p.a
  | .b => p.b

/-- The values with one link's replaced. -/
def PerLink.set {α : Type} (p : PerLink α) (l : Link) (x : α) : PerLink α :=
  match l with
  | .a => { p with a := x }
  | .b => { p with b := x }

/-- A function applied link by link. -/
def PerLink.map {α β : Type} (f : α → β) (p : PerLink α) : PerLink β := ⟨f p.a, f p.b⟩

/-- The Flag and Notice Unit's state (R177). -/
structure Fnu where
  flags : FlagSet
  mask : PerLink FlagSet
  notice : PerLink Bool
deriving DecidableEq, Repr

/-- R177. -/
def Fnu.reset : Fnu := { flags := 0, mask := ⟨BitVec.allOnes 26, BitVec.allOnes 26⟩, notice := ⟨false, false⟩ }

/-! ### Link Interface (R186) -/

/-- A receiver: HUNTING, or IN_FRAME with the bytes stored after SYNC, in order (R187). -/
inductive Receiver where
  | hunting
  | inFrame (bytes : List Byte)
deriving DecidableEq, Repr

/-- A buffered request frame: its code and its payload (R189, R199). -/
structure Request where
  code : Nat
  payload : List Byte
deriving DecidableEq, Repr

/-- A transmitter: IDLE, or sending a reply or a notice, with all the bytes of the frame (R190). -/
inductive Transmitter where
  | idle
  | reply (frame : List Byte)
  | notice (frame : List Byte)
deriving DecidableEq, Repr

/-- The four counters of a link (R186). -/
structure Counters where
  accepted : BitVec 16
  checkErrors : BitVec 16
  overruns : BitVec 16
  discards : BitVec 16
deriving DecidableEq, Repr

/-- One link's state (R186). `since` is in microseconds, up to 65,535,000. `ready` is the reply that
stands ready (R190). -/
structure LinkState where
  rx : Receiver
  gap : Timer
  buffer : List Request
  serving : Bool
  tx : Transmitter
  ready : Option (List Byte)
  live : Bool
  silence : Timer
  since : Nat
  counters : Counters
deriving DecidableEq, Repr

/-- R186. -/
def LinkState.reset : LinkState :=
  { rx := .hunting, gap := none, buffer := [], serving := false, tx := .idle, ready := none, live := false,
    silence := none, since := 65535000, counters := ⟨0, 0, 0, 0⟩ }

/-- The Link Interface's state (R186). The pending command change is a granted take, an accepted SEL level,
a pass on silence, or a take and a level together (R193). -/
structure Lif where
  link : PerLink LinkState
  baud : Bool
  sel : SelFilter
  selInForce : SelLevel
  holder : Option Link
  prio : Option Nat
  take : Option (Link × Nat)
  selChange : Option SelLevel
  pass : Option Link
  passDeferred : Bool
  resetDue : Option Link
  params : List Nat
deriving DecidableEq, Repr

/-- The holder the SEL level names at reset (R186). -/
def holderAtReset : SelLevel → Option Link
  | .low => some .a
  | .high => some .b
  | .opened => none

/-- The defaults of the parameter table, in the order of the identifiers 0x00..0x23 (R203). -/
def paramDefaults : List Nat :=
  [40000, 400, 60, 200, 500, 3000, 10000, 8000, 5000, 500, 100000, 200000, 250, 50000, 3000, 80, 1, 0] ++
  [2000, 2000, 1000, 220, 300, 360, 430, 2, 1, 2, 500, 120, 800, 200, 2000, 300, 3500, 500]

/-- R186, with the SEL and BAUD levels present. -/
def Lif.reset (sel : SelLevel) (baud : Bool) : Lif :=
  { link := ⟨.reset, .reset⟩, baud := baud, sel := { raw := sel, acc := sel, wait := none }, selInForce := sel,
    holder := holderAtReset sel, prio := none, take := none, selChange := none, pass := none, passDeferred := false,
    resetDue := none, params := paramDefaults }

/-! ### The part -/

/-- The part's state, with the queue of waiting commands. -/
structure State where
  pending : List Instr
  inReset : Bool
  pe : Pe
  teq : Teq
  psq : Psq
  lsu : Lsu
  slots : PerSlot Slot
  cs : Cs
  bki : Bki
  icu : Icu
  csu : Csu
  fnu : Fnu
  lif : Lif
deriving DecidableEq, Repr

/-- The part with every block at its reset values and these levels at its pins (R2, R17, R36, R53, R80, R99,
R114, R139, R160, R177, R186, R197). -/
def State.resetWith (pins : Pins) (pending : List Instr) : State :=
  { pending := pending, inReset := false, pe := .reset, teq := .reset, psq := .reset, lsu := .reset,
    slots := pins.slots.map .reset, cs := .reset, bki := .reset pins.aux, icu := .reset,
    csu := .reset (if pins.aux then .opening else .opened), fnu := .reset, lif := .reset pins.sel pins.baud }

/-- The pin levels of `State.reset` (DESIGN CHOICE, log 4): every pantograph on its down switch with its
contact open, its auto-drop line normal and its disconnector released; the breaker released; SEL low, so that
LINK A holds command; BAUD high. -/
def Pins.atRest : Pins :=
  { slots := .all ⟨true, false, false, false⟩, aux := false, sel := .low, baud := true }

/-- The part right after reset, at rest, with no command waiting. -/
def State.reset : State := State.resetWith Pins.atRest []

end Sys2Proof.Machine
end

