-- ==== Sys2Proof/Machine/Flags.lean ====
section
/-! DEFINITION. The 26 flags (R176), the rise of a flag (R178), the fault-latch view (R183) and the status
summary (R182). -/

namespace Sys2Proof.Machine

/-- The flags, in the order of R176. -/
inductive Flag where
  | entryDone
  | entryAbort
  | entrySkip
  | queueHalt
  | posLost
  | posJump
  | raiseFail
  | slotLocked
  | autodrop
  | stuckUp
  | sysChange
  | wrongSystem
  | overvolt
  | lineLoss
  | brkFault
  | brkTrip
  | overload
  | troOn
  | iceLevel
  | sensorFault
  | heaterFault
  | noRule
  | ruleConflict
  | linkErr
  | handover
  | linkSilent
deriving DecidableEq, Repr

/-- The flag's number in the table of R176. -/
def Flag.num : Flag → Nat
  | .entryDone => 0
  | .entryAbort => 1
  | .entrySkip => 2
  | .queueHalt => 3
  | .posLost => 4
  | .posJump => 5
  | .raiseFail => 6
  | .slotLocked => 7
  | .autodrop => 8
  | .stuckUp => 9
  | .sysChange => 10
  | .wrongSystem => 11
  | .overvolt => 12
  | .lineLoss => 13
  | .brkFault => 14
  | .brkTrip => 15
  | .overload => 16
  | .troOn => 17
  | .iceLevel => 18
  | .sensorFault => 19
  | .heaterFault => 20
  | .noRule => 21
  | .ruleConflict => 22
  | .linkErr => 23
  | .handover => 24
  | .linkSilent => 25

/-- The set that holds one flag. -/
def Flag.bit (f : Flag) : FlagSet := BitVec.twoPow 26 f.num

/-- The set holds the flag. -/
def FlagSet.has (x : FlagSet) (f : Flag) : Bool := x.getLsbD f.num

/-- R178: a clear flag becomes set and sets the notice pending of each link whose mask enables it; a set flag
changes nothing. -/
def Fnu.raise (x : Fnu) (f : Flag) : Fnu :=
  if FlagSet.has x.flags f then x
  else { x with flags := x.flags ||| f.bit,
                notice := ⟨x.notice.a || FlagSet.has x.mask.a f, x.notice.b || FlagSet.has x.mask.b f⟩ }

/-- A flag raised by any block. -/
def State.raise (s : State) (f : Flag) : State := { s with fnu := s.fnu.raise f }

/-- Several flags raised by one event. -/
def State.raiseAll (s : State) : List Flag → State
  | [] => s
  | f :: fs => (s.raise f).raiseAll fs

/-- A flag raised when a condition holds. -/
def State.raiseIf (s : State) (c : Bool) (f : Flag) : State := if c then s.raise f else s

/-- The fault latches by their name codes 0..7 (R201), as the bits of the first byte of the fault-latch view
(R183, R198). -/
def latchBits (s : State) : Nat :=
  s.lsu.overvolt.toNat + 2 * s.bki.wrongLatch.toNat + 4 * s.csu.overloadLatch.toNat + 8 * s.bki.brkFault.toNat +
    16 * s.icu.heaterFault.bits

/-- The slots that are LOCKED, as the second byte of the fault-latch view, PSk at bit k (R183, R198; DEDUCED, log 37). -/
def lockedBits (s : State) : Nat := (s.slots.map (fun x => decide (x.state = .locked))).bits

end Sys2Proof.Machine
end

