-- ==== Sys2Proof/Machine/Operands.lean ====
section
/-! DEFINITION. What crosses the links: the check (R188), the frame (R199), request codes (R200), status and value
codes (R201), the packing of reply items (R198), the central payloads (R202) and the reading of request fields. -/

namespace Sys2Proof.Machine

/-! ### The check and the frame -/

/-- One bit of the check of R188: the register's top bit is compared with the data bit, the register is shifted
left, and 0x1021 is combined in if they differed. -/
def checkBit (r : BitVec 16) (d : Bool) : BitVec 16 :=
  if r.msb = d then r <<< 1 else (r <<< 1) ^^^ 0x1021#16

/-- One byte of the check, most significant bit first (R188). -/
def checkByte (r : BitVec 16) (b : Byte) : BitVec 16 :=
  [7, 6, 5, 4, 3, 2, 1, 0].foldl (fun r i => checkBit r (b.getLsbD i)) r

/-- The check over the bytes from TYPE through the last payload byte (R188). -/
def check (bs : List Byte) : BitVec 16 := bs.foldl checkByte 0xFFFF#16

/-- A frame: SYNC, TYPE, LEN, payload, check high byte first (R199). -/
def mkFrame (type : Nat) (payload : List Byte) : List Byte :=
  let body := BitVec.ofNat 8 type :: BitVec.ofNat 8 payload.length :: payload
  0xA5#8 :: (body ++ toBE 2 (check body).toNat)

/-! ### Requests (R200) -/

/-- A request of the part: its code, its payload length (R200), and whether it changes state, so that the observer
link is refused (R189). -/
structure Req where
  code : Nat
  len : Nat
  changes : Bool
deriving DecidableEq, Repr

/-- REPORT_POSITION (R200). -/
def Req.reportPosition : Req := ⟨0x01, 8, true⟩
/-- REVERSE (R200). -/
def Req.reverse : Req := ⟨0x02, 0, true⟩
/-- READ_POSITION (R200). -/
def Req.readPosition : Req := ⟨0x03, 0, false⟩
/-- POST_EVENT (R200). -/
def Req.postEvent : Req := ⟨0x10, 13, true⟩
/-- CANCEL_EVENT (R200). -/
def Req.cancelEvent : Req := ⟨0x11, 1, true⟩
/-- RESUME_QUEUE (R200). -/
def Req.resumeQueue : Req := ⟨0x12, 0, true⟩
/-- READ_QUEUE (R200). -/
def Req.readQueue : Req := ⟨0x13, 1, false⟩
/-- READ_CLOSED (R200). -/
def Req.readClosed : Req := ⟨0x14, 1, false⟩
/-- READ_LINE (R200). -/
def Req.readLine : Req := ⟨0x18, 0, false⟩
/-- SET_SLOT (R200). -/
def Req.setSlot : Req := ⟨0x20, 5, true⟩
/-- UNLOCK_SLOT (R200). -/
def Req.unlockSlot : Req := ⟨0x21, 1, true⟩
/-- READ_SLOT (R200). -/
def Req.readSlot : Req := ⟨0x22, 1, false⟩
/-- SET_DEMAND (R200). -/
def Req.setDemand : Req := ⟨0x28, 4, true⟩
/-- WRITE_RULE (R200). -/
def Req.writeRule : Req := ⟨0x29, 11, true⟩
/-- READ_RULE (R200). -/
def Req.readRule : Req := ⟨0x2A, 1, false⟩
/-- READ_TARGET (R200). -/
def Req.readTarget : Req := ⟨0x2B, 0, false⟩
/-- READ_BREAKER (R200). -/
def Req.readBreaker : Req := ⟨0x30, 0, false⟩
/-- READ_PASSAGE (R200). -/
def Req.readPassage : Req := ⟨0x34, 0, false⟩
/-- READ_ICE (R200). -/
def Req.readIce : Req := ⟨0x38, 0, false⟩
/-- CLEAR_TRO (R200). -/
def Req.clearTro : Req := ⟨0x3C, 0, true⟩
/-- READ_CURRENT (R200). -/
def Req.readCurrent : Req := ⟨0x3D, 0, false⟩
/-- CLEAR_FLAGS (R200). -/
def Req.clearFlags : Req := ⟨0x40, 4, true⟩
/-- CLEAR_FAULT (R200). -/
def Req.clearFault : Req := ⟨0x41, 1, true⟩
/-- GET_FLAGS (R200). -/
def Req.getFlags : Req := ⟨0x42, 0, false⟩
/-- SET_NOTICE_MASK (R200); served on either link (R181). -/
def Req.setNoticeMask : Req := ⟨0x43, 4, false⟩
/-- TAKE_COMMAND (R200); served on either link (R189, R192). -/
def Req.takeCommand : Req := ⟨0x50, 1, false⟩
/-- GET_STATUS (R200). -/
def Req.getStatus : Req := ⟨0x51, 0, false⟩
/-- READ_PARAM (R200). -/
def Req.readParam : Req := ⟨0x52, 1, false⟩
/-- SET_PARAM (R200). -/
def Req.setParam : Req := ⟨0x53, 5, true⟩
/-- RESET_PART (R200). -/
def Req.resetPart : Req := ⟨0x5F, 0, true⟩

/-- The requests of the part (R200). -/
def requestTable : List Req :=
  [.reportPosition, .reverse, .readPosition, .postEvent, .cancelEvent, .resumeQueue, .readQueue, .readClosed,
   .readLine, .setSlot, .unlockSlot, .readSlot, .setDemand, .writeRule, .readRule] ++
  [.readTarget, .readBreaker, .readPassage, .readIce, .clearTro, .readCurrent, .clearFlags, .clearFault, .getFlags,
   .setNoticeMask, .takeCommand, .getStatus, .readParam, .setParam, .resetPart]

/-- The code is a request of the part (R189, R200). -/
def isRequestCode (code : Nat) : Bool := requestTable.any (fun r => r.code == code)

/-! ### Status and value codes (R201) -/

/-- Reply statuses (R201). -/
inductive Status where
  | ok
  | clamped
  | unknownReq
  | badLength
  | badValue
  | notCommanding
  | busy
  | full
  | overlap
  | late
  | range
  | dupTag
  | notFound
  | stillPresent
  | motion
  | fixedSel
deriving DecidableEq, Repr

/-- The status code (R201). -/
def Status.code : Status → Nat
  | .ok => 0x00
  | .clamped => 0x01
  | .unknownReq => 0x02
  | .badLength => 0x03
  | .badValue => 0x04
  | .notCommanding => 0x05
  | .busy => 0x06
  | .full => 0x07
  | .overlap => 0x08
  | .late => 0x09
  | .range => 0x0A
  | .dupTag => 0x0B
  | .notFound => 0x0C
  | .stillPresent => 0x0D
  | .motion => 0x0E
  | .fixedSel => 0x0F

/-- System codes A50 1, A16 2, D30 3, D15 4 (R201). -/
def LineSystem.code : LineSystem → Nat
  | .a50 => 1
  | .a16 => 2
  | .d30 => 3
  | .d15 => 4

/-- The system of a code 1..4 (R201). -/
def LineSystem.ofCode : Nat → Option LineSystem
  | 1 => some .a50
  | 2 => some .a16
  | 3 => some .d30
  | 4 => some .d15
  | _ => none

/-- The expected system's code, UNSET 0 (R84, R201). -/
def expectedCode : Option LineSystem → Nat
  | none => 0
  | some x => x.code

/-- The class or confirmed system's code, NONE 0 and UNKNOWN 5 (R201). -/
def LineClass.code : LineClass → Nat
  | .none => 0
  | .sys x => x.code
  | .unknown => 5

/-- The system's place in a system mask: A50 bit 0, A16 bit 1, D30 bit 2, D15 bit 3 (R201). -/
def LineSystem.maskBit (x : LineSystem) : Nat := x.code - 1

/-- The confirmed value is a system of the mask: NONE and UNKNOWN are in none (R45, R101). -/
def LineClass.inMask (c : LineClass) (m : BitVec 4) : Bool :=
  match c with
  | .sys x => m.getLsbD x.maskBit
  | _ => false

/-- Kind codes (R201). -/
def Kind.code : Kind → Nat
  | .neutral _ => 0
  | .boundary _ => 1
  | .lower => 2
  | .iceZone _ => 3

/-- Entry status codes (R201). -/
def EntryStatus.code : EntryStatus → Nat
  | .queued => 1
  | .armed => 2
  | .active => 3
  | .inside => 4

/-- Outcome codes (R201). -/
def CloseResult.outcomeCode : CloseResult → Nat
  | .done => 0
  | .doneNoVoltage => 1
  | .skipped _ => 2
  | .aborted _ => 3

/-- Closed reason codes, absent 0 (R201). -/
def CloseResult.reasonCode : CloseResult → Nat
  | .done => 0
  | .doneNoVoltage => 0
  | .skipped .cancelled => 1
  | .skipped .passed => 2
  | .skipped .passedHalted => 3
  | .skipped .reversed => 4
  | .aborted .brkNoOpen => 5
  | .aborted .lowerLate => 6
  | .aborted .noCollector => 7
  | .aborted .wrongSystem => 8
  | .aborted .reversed => 4

/-- Step codes (R201). -/
def Step.code : Step → Nat
  | .ramp => 1
  | .openBrk => 2
  | .lower => 3
  | .coast => 4
  | .reraise => 5
  | .confirm => 6

/-- A step that may be absent: absent 0 (R201). -/
def stepCode : Option Step → Nat
  | none => 0
  | some x => x.code

/-- Slot state codes (R201). -/
def SlotState.code : SlotState → Nat
  | .disabled => 0
  | .down => 1
  | .raising => 2
  | .up => 3
  | .lowering => 4
  | .dropped => 5
  | .retryWait => 6
  | .locked => 7

/-- Role codes (R201). -/
def Role.code : Role → Nat
  | .stow => 0
  | .collect => 1
  | .sweep => 2

/-- The role of a code (R201). -/
def Role.ofCode : Nat → Option Role
  | 0 => some .stow
  | 1 => some .collect
  | 2 => some .sweep
  | _ => none

/-- Force codes (R201). -/
def Force.code : Force → Nat
  | .light => 0
  | .normal => 1
  | .heavy => 2

/-- The force of a code (R201). -/
def Force.ofCode : Nat → Option Force
  | 0 => some .light
  | 1 => some .normal
  | 2 => some .heavy
  | _ => none

/-- Breaker state codes (R201). -/
def BrkState.code : BrkState → Nat
  | .opened => 0
  | .closing => 1
  | .closed => 2
  | .opening => 3
  | .failed => 4

/-- Demand ice codes (R201). -/
def IceDemand.code : IceDemand → Nat
  | .auto => 0
  | .off => 1
  | .force1 => 2
  | .force2 => 3
  | .force3 => 4

/-- The Demand ice value of a code (R201). -/
def IceDemand.ofCode : Nat → Option IceDemand
  | 0 => some .auto
  | 1 => some .off
  | 2 => some .force1
  | 3 => some .force2
  | 4 => some .force3
  | _ => none

/-- Rule field codes (R201). -/
def RuleField.code : RuleField → Nat
  | .none => 0
  | .sys => 1
  | .speed => 2
  | .ice => 3
  | .amb => 4
  | .demand => 5
  | .avail => 6
  | .zone => 7
  | .lead => 8
  | .mask => 9

/-- The rule field of a code (R201). -/
def RuleField.ofCode : Nat → Option RuleField
  | 0 => some .none
  | 1 => some .sys
  | 2 => some .speed
  | 3 => some .ice
  | 4 => some .amb
  | 5 => some .demand
  | 6 => some .avail
  | 7 => some .zone
  | 8 => some .lead
  | 9 => some .mask
  | _ => Option.none

/-- Rule op codes (R201). -/
def RuleOp.code : RuleOp → Nat
  | .eq => 0
  | .ne => 1
  | .ge => 2
  | .lt => 3

/-- The rule op of a code (R201). -/
def RuleOp.ofCode : Nat → Option RuleOp
  | 0 => some .eq
  | 1 => some .ne
  | 2 => some .ge
  | 3 => some .lt
  | _ => none

/-- Action codes (R201). -/
def Action.code : Action → Nat
  | .absent => 0
  | .target _ => 1
  | .refuse => 2

/-- Position status codes (R201). -/
def PosStatus.code : PosStatus → Nat
  | .noFix => 0
  | .valid => 1
  | .coasting => 2
  | .lost => 3

/-- Lead end codes (R201). -/
def LeadEnd.code : LeadEnd → Nat
  | .aEnd => 0
  | .bEnd => 1

/-- SEL codes of GET_STATUS (R202). -/
def selCode : SelLevel → Nat
  | .low => 0
  | .high => 1
  | .opened => 2

/-- Holder codes of GET_STATUS: none 0, A 1, B 2 (R202). -/
def holderCode : Option Link → Nat
  | none => 0
  | some .a => 1
  | some .b => 2

/-- Disconnector state codes, in the order of R73 (log 10). -/
def DscState.code : DscState → Nat
  | .opened => 0
  | .closing => 1
  | .closed => 2
  | .opening => 3
  | .failed => 4

/-- Sequencer hold codes, in the order of R53 (log 10). -/
def SeqHold.code : SeqHold → Nat
  | .none => 0
  | .lower => 1
  | .fast => 2

/-- Failure kind codes, in the order of R99 after absent (log 10). -/
def FailKind.code : FailKind → Nat
  | .noClose => 0
  | .noOpen => 1

/-- Phase codes, in the order of R114 (log 10). -/
def Phase.code : Phase → Nat
  | .none => 0
  | .armed => 1
  | .active => 2

/-- Evaluation result codes, in the order of R93 (log 10). -/
def EvalKind.code : EvalKind → Nat
  | .target => 0
  | .refuse => 1
  | .dflt => 2

/-- Sensor fault codes, in the order of R139 (log 10). -/
def SensorFault.code : SensorFault → Nat
  | .none => 0
  | .opened => 1
  | .short => 2

/-- OVER reason codes, in the order of R160 (log 10). -/
def OverReason.code : OverReason → Nat
  | .idle => 0
  | .timing => 1
  | .extended => 2

/-! ### Packing of reply items (R198) -/

/-- An item of a reply: a small item of some bits, a field of some bytes, or bytes laid out elsewhere. -/
inductive Item where
  | small (bits value : Nat)
  | wide (bytes value : Nat)
  | raw (bytes : List Byte)
deriving DecidableEq, Repr

/-- A two-valued item; which value reads 1 is the model's choice where chapter 12 gives no code (DESIGN CHOICE, log 33). -/
def Item.bool (b : Bool) : Item := .small 1 b.toNat

/-- Items packed in order: consecutive small items share a byte from bit 0 upward, and a new byte begins when the
next does not fit or a wider field stands between (R198). `used` bits of the byte `cur` are taken. -/
def pack (used cur : Nat) : List Item → List Byte
  | [] => if used = 0 then [] else [BitVec.ofNat 8 cur]
  | .small w v :: r =>
    if used + w ≤ 8 then pack (used + w) (cur + v % 2 ^ w * 2 ^ used) r
    else BitVec.ofNat 8 cur :: pack w (v % 2 ^ w) r
  | .wide n v :: r => (if used = 0 then [] else [BitVec.ofNat 8 cur]) ++ (toBE n v ++ pack 0 0 r)
  | .raw bs :: r => (if used = 0 then [] else [BitVec.ofNat 8 cur]) ++ (bs ++ pack 0 0 r)

/-- What an owner answers: the status and the items after it (R198). -/
structure Answer where
  status : Status
  items : List Item
deriving DecidableEq, Repr

/-- An answer that carries the status alone. -/
def Answer.just (x : Status) : Answer := ⟨x, []⟩

/-- The reply payload: the status byte, then the items (R198). -/
def Answer.payload (x : Answer) : List Byte := BitVec.ofNat 8 x.status.code :: pack 0 0 x.items

/-- An item that may be absent: its presence bit, then the item, with all bits 0 when absent (R198). -/
def optSmall (bits : Nat) : Option Nat → List Item
  | none => [.small 1 0, .small bits 0]
  | some v => [.small 1 1, .small bits v]

/-- A wider item that may be absent (R198). -/
def optWide (bytes : Nat) : Option Nat → List Item
  | none => [.small 1 0, .wide bytes 0]
  | some v => [.small 1 1, .wide bytes v]

/-- Two's complement in two bytes (R198, temperatures). -/
def twos (t : Int) : Nat := (BitVec.ofInt 16 t).toNat

/-- The time left on a timer in ms, 0 when stopped; how the rest of a millisecond shows is a free value (log 7). -/
def timeLeft : Timer → Nat
  | none => 0
  | some us => us / 1000 + (if us % 1000 = 0 then 0 else Config.timeLeftRoundsUp.toNat)

/-! ### Records (R202) -/

/-- The Target layout, 5 bytes (R202). -/
def targetBytes (t : Target) : List Byte :=
  t.slots.toList.map (fun x => BitVec.ofNat 8 (x.role.code + 4 * x.force.code)) ++ [BitVec.ofNat 8 t.profile]

/-- Five zero bytes: a Target that is absent (R198, R202). -/
def noTargetBytes : List Byte := List.replicate 5 0

/-- The Target bytes of an action: all 0 unless the action is TARGET (R202). -/
def Action.bytes : Action → List Byte
  | .target t => targetBytes t
  | .absent => noTargetBytes
  | .refuse => noTargetBytes

/-- The rule record layout, 10 bytes (R202). -/
def ruleBytes (r : Rule) : List Byte :=
  [BitVec.ofNat 8 r.field.code, BitVec.ofNat 8 r.op.code, r.value, BitVec.ofNat 8 r.chained.toNat,
   BitVec.ofNat 8 r.action.code] ++ r.action.bytes

/-- The kind's own three bytes of an entry record: next system, lowering flag, ice hint; absent fields are 0
(R202). -/
def Kind.bytes : Kind → List Byte
  | .neutral l => [0, BitVec.ofNat 8 l.toNat, 0]
  | .boundary x => [BitVec.ofNat 8 x.code, 0, 0]
  | .lower => [0, 0, 0]
  | .iceZone h => [0, 0, BitVec.ofNat 8 h]

/-- The queue entry record, 13 bytes (R202). -/
def entryBytes (e : Entry) : List Byte :=
  [e.tag, BitVec.ofNat 8 (e.kind.code + 4 * e.status.code)] ++ toBE 4 e.start.toNat ++ toBE 4 e.len ++ e.kind.bytes

/-- The closed record, 8 bytes (R202). -/
def closedBytes (r : ClosedRec) : List Byte :=
  [r.tag, BitVec.ofNat 8 (r.kind.code + 4 * r.result.outcomeCode), BitVec.ofNat 8 r.result.reasonCode,
   BitVec.ofNat 8 (stepCode r.lastStep)] ++ toBE 4 r.eAtClose.toNat

/-- A flag set or notice mask, 4 bytes (R198). -/
def flagBytes (x : FlagSet) : List Byte := toBE 4 x.toNat

/-- The head entry's tag and status: tag 0 with status 0 when the queue is empty (R19, R201). -/
def headBytes : List Entry → List Byte
  | [] => [0, 0]
  | e :: _ => [e.tag, BitVec.ofNat 8 e.status.code]

/-- The status summary, 10 bytes (R182, R202). It carries no position status, though R9 and R10 speak of one (DEDUCED, log 32). -/
def summaryBytes (s : State) : List Byte :=
  flagBytes s.fnu.flags ++
  [BitVec.ofNat 8 s.lsu.confirmed.code, BitVec.ofNat 8 s.bki.state.code,
   BitVec.ofNat 8 (s.slots.ps0.state.code + 16 * s.slots.ps1.state.code),
   BitVec.ofNat 8 (s.slots.ps2.state.code + 16 * s.slots.ps3.state.code)] ++ headBytes s.teq.entries

/-! ### Request fields (R198, R202) -/

/-- The number in the bytes `i .. i+n-1` of a payload, most significant first (R198). -/
def field (p : List Byte) (i n : Nat) : Nat := be ((p.drop i).take n)

/-- A value carried as 0 or 1. -/
def boolOf : Nat → Option Bool
  | 0 => some false
  | 1 => some true
  | _ => none

/-- A Target slot byte: role in bits 1..0, force in bits 3..2, bits 7..4 zero (R198, R202). -/
def roleForceOf (n : Nat) : Option RoleForce :=
  if n < 16 then
    match Role.ofCode (n % 4), Force.ofCode (n / 4) with
    | some r, some f => some ⟨r, f⟩
    | _, _ => none
  else none

/-- A Target from its five bytes (R86, R202). -/
def targetOf (p : List Byte) : Option Target :=
  match roleForceOf (field p 0 1), roleForceOf (field p 1 1), roleForceOf (field p 2 1), roleForceOf (field p 3 1) with
  | some a, some b, some c, some d =>
    if field p 4 1 ≤ 3 then some { slots := ⟨a, b, c, d⟩, profile := field p 4 1 } else none
  | _, _, _, _ => none

/-- An action from its code and the Target bytes behind it (R86). -/
def actionOf (code : Nat) (p : List Byte) : Option Action :=
  match code with
  | 0 => some .absent
  | 1 => (targetOf p).map .target
  | 2 => some .refuse
  | _ => none

/-- A rule record from its ten bytes as WRITE_RULE tests and stores it at an index up to 47 (R86, R198): none
is BAD_VALUE. A rule with AND set is stored without its action, of which the Target values alone are tested (R86; log 22). -/
def ruleOf (index : Nat) (p : List Byte) : Option Rule :=
  match RuleField.ofCode (field p 0 1), RuleOp.ofCode (field p 1 1) with
  | some fld, some op =>
    let chained : Bool := field p 3 1 % 2 == 1
    if fld = .none then some .empty
    else if fld = .mask ∧ chained = false then none
    else if chained then
      if index = 47 ∨ (field p 4 1 = 1 ∧ (targetOf (p.drop 5)).isNone) then none
      else some { field := fld, op := op, value := BitVec.ofNat 8 (field p 2 1), chained := true, action := .absent }
    else
      match actionOf (field p 4 1) (p.drop 5) with
      | some .absent => none
      | some act => some { field := fld, op := op, value := BitVec.ofNat 8 (field p 2 1), chained := false, action := act }
      | none => none
  | _, _ => none

/-- An entry's kind from POST_EVENT's bytes, with only that kind's own field tested (R22, R202). -/
def kindOf (code next lowering hint : Nat) : Option Kind :=
  match code with
  | 0 => (boolOf lowering).map .neutral
  | 1 => (LineSystem.ofCode next).map .boundary
  | 2 => some .lower
  | 3 => if 1 ≤ hint ∧ hint ≤ 3 then some (.iceZone hint) else none
  | _ => none

/-- The expected-system field of SET_DEMAND: KEEP, or a value (R82, R201). -/
def expectedOf (code : Nat) (held : Option LineSystem) : Option (Option LineSystem) :=
  if code = 0xFF then some held
  else if code = 0 then some none
  else (LineSystem.ofCode code).map some

end Sys2Proof.Machine
end

