-- ==== Sys2Proof/Machine/Ops.lean ====
section
/-! DEFINITION. The operations every block shares: parameters (R196, R203), filters (R55), reset (R197), the clock
(log 1), and the quantities computed from the state when they are read (R12, R30 to R33, R54, R101, R110). -/

namespace Sys2Proof.Machine

/-- The result of a meaning. -/
abbrev Out := Host.Outcome State Fault Refusal

/-! ### Parameters (R196, R203) -/

/-- The lower and upper end of each parameter's range, by identifier 0x00..0x23 (R203). -/
def paramRanges : List (Nat × Nat) :=
  [(1000, 50000), (0, 2000), (20, 500), (50, 1000), (100, 2000), (1000, 8000), (2000, 15000), (2000, 15000),
   (1000, 30000), (0, 10000), (10000, 500000), (0, 500000)] ++
  [(50, 1000), (5000, 65535), (1000, 10000), (0, 500), (0, 3), (0, 1), (500, 10000), (500, 10000), (200, 5000),
   (150, 300), (200, 500), (200, 500)] ++
  [(200, 500), (0, 3), (0, 3), (0, 3), (0, 4000), (0, 4000), (0, 4000), (0, 4000), (0, 4000), (0, 4000), (0, 4000),
   (0, 4000)]

/-- The value of a parameter. -/
def State.param (s : State) (id : Nat) : Nat := s.lif.params.getD id 0

/-- TRAIN_LENGTH in cm (R203). -/
def State.trainLength (s : State) : Nat := s.param 0x00
/-- T_RAMP in ms (R203). -/
def State.tRamp (s : State) : Nat := s.param 0x01
/-- T_OPEN in ms (R203). -/
def State.tOpen (s : State) : Nat := s.param 0x02
/-- T_OPEN_MAX in ms (R203). -/
def State.tOpenMax (s : State) : Nat := s.param 0x03
/-- T_CLOSE_MAX in ms (R203). -/
def State.tCloseMax (s : State) : Nat := s.param 0x04
/-- T_LOWER in ms (R203). -/
def State.tLower (s : State) : Nat := s.param 0x05
/-- LOWER_TIMEOUT in ms (R203). -/
def State.lowerTimeout (s : State) : Nat := s.param 0x06
/-- RAISE_TIMEOUT in ms (R203). -/
def State.raiseTimeout (s : State) : Nat := s.param 0x07
/-- RETRY_GAP in ms (R203). -/
def State.retryGap (s : State) : Nat := s.param 0x08
/-- MARGIN in cm (R203). -/
def State.margin (s : State) : Nat := s.param 0x09
/-- ARM_LEAD in cm (R203). -/
def State.armLead (s : State) : Nat := s.param 0x0A
/-- ICE_LEAD in cm (R203). -/
def State.iceLead (s : State) : Nat := s.param 0x0B
/-- REPORT_AGE_OK in ms (R203). -/
def State.reportAgeOk (s : State) : Nat := s.param 0x0C
/-- LOST_UNC in cm (R203). -/
def State.lostUnc (s : State) : Nat := s.param 0x0D
/-- CONFIRM_TIMEOUT in ms (R203). -/
def State.confirmTimeout (s : State) : Nat := s.param 0x0E
/-- OPEN_CURRENT in A (R203). -/
def State.openCurrent (s : State) : Nat := s.param 0x0F
/-- The full width W of TRO_WIDTH's code, in ms (R166). -/
def State.troWidth (s : State) : Nat := [100, 500, 1000, 2000].getD (s.param 0x10) 0
/-- TRO_EXTEND (R203). -/
def State.troExtend (s : State) : Bool := s.param 0x11 == 1
/-- OVERLOAD_TIME in ms (R203). -/
def State.overloadTime (s : State) : Nat := s.param 0x12
/-- RECLOSE_DELAY in ms (R203). -/
def State.recloseDelay (s : State) : Nat := s.param 0x13
/-- LINK_SILENT in ms (R203). -/
def State.linkSilent (s : State) : Nat := s.param 0x14
/-- APPROACH_KPA (R203). -/
def State.approachKpa (s : State) : Nat := s.param 0x15
/-- FORCE_KPA of a force (R203). -/
def State.forceKpa (s : State) : Force → Nat
  | .light => s.param 0x16
  | .normal => s.param 0x17
  | .heavy => s.param 0x18
/-- The filter time of a debounce code, in ms (R55, R203). -/
def debounceMs (code : Nat) : Nat := [2, 8, 32, 128].getD code 0
/-- DEBOUNCE_SLOT's filter time in ms (R55). -/
def State.debounceSlot (s : State) : Nat := debounceMs (s.param 0x19)
/-- DEBOUNCE_FB's filter time in ms (R55). -/
def State.debounceFb (s : State) : Nat := debounceMs (s.param 0x1A)
/-- HEATER_DUTY's code (R203). -/
def State.heaterDuty (s : State) : Nat := s.param 0x1B
/-- The LIMIT parameter of a system, running or standstill (R162, R203). -/
def State.limitParam (s : State) (x : LineSystem) (standstill : Bool) : Nat :=
  s.param (0x1C + 2 * (x.code - 1) + standstill.toNat)

/-- A value clamped to a range (00, Rounding). -/
def clampTo (r : Nat × Nat) (v : Nat) : Nat := if v < r.1 then r.1 else if r.2 < v then r.2 else v

/-! ### Filters (R55, R191) -/

/-- A new raw level: equal to the accepted level it stops the wait, otherwise the wait starts from zero at the
filter time (R55). An unchanged raw level is no change. -/
def Filter.feed (f : Filter) (level : Bool) (waitMs : Nat) : Filter :=
  if f.raw = level then f
  else { f with raw := level, wait := if level = f.acc then none else ms waitMs }

/-- The accepted change to a level: it needs the wait toward that level to be in progress (R55, log 6). -/
def Filter.accept (f : Filter) (level : Bool) : Option Filter :=
  if f.raw = level ∧ f.acc ≠ level ∧ f.wait.isSome then some { f with acc := level, wait := none } else none

/-- A filter's clock. -/
def Filter.after (n : Nat) (f : Filter) : Filter := { f with wait := f.wait.after n }

/-- A new raw SEL level: any change restarts the 20 ms wait (R191). -/
def SelFilter.feed (f : SelFilter) (level : SelLevel) : SelFilter :=
  if f.raw = level then f
  else { f with raw := level, wait := if level = f.acc then none else ms 20 }

/-! ### Reset (R197) -/

/-- The raw levels at the pins, and the BAUD strap as last read, which a RESET_PART keeps (R197; DEDUCED, log 38). -/
def State.pins (s : State) : Pins :=
  { slots := s.slots.map (fun x => ⟨x.down.raw, x.contact.raw, x.add.raw, x.dsf.raw⟩), aux := s.bki.aux.raw,
    sel := s.lif.sel.raw, baud := s.lif.baud }

/-- The whole part reset at the levels now at its pins (R197). The queue of commands waiting is not the part's. -/
def State.resetPart (s : State) : State := State.resetWith s.pins s.pending

/-- A meaning acts only while RST_N is not held low (R197; DEDUCED, log 20). -/
def whenRunning (f : State → State) (s : State) : State := if s.inReset then s else f s

/-! ### Quantities computed when read -/

/-- The slot k's record with a function applied. -/
def State.updSlot (s : State) (k : SlotId) (f : Slot → Slot) : State :=
  { s with slots := s.slots.set k (f (s.slots.get k)) }

/-- Every slot's record with a function applied. -/
def State.mapSlots (s : State) (f : Slot → Slot) : State := { s with slots := s.slots.map f }

/-- The effective offset of a slot record: the configured offset with lead end A, TRAIN_LENGTH minus it, clamped
at 0, with lead end B (R12). -/
def State.effOffset (s : State) (x : Slot) : Nat :=
  match s.pe.lead with
  | .aEnd => x.offset
  | .bEnd => s.trainLength - x.offset

/-- The effective offsets of the enabled slots (R116). -/
def State.enabledOffsets (s : State) : List Nat :=
  (s.slots.toList.filter (fun x => x.enabled)).map s.effOffset

/-- o_lead: the smallest effective offset among the enabled slots, 0 when none is enabled (R116). -/
def State.oLeadNow (s : State) : Nat :=
  match s.enabledOffsets with
  | [] => 0
  | x :: xs => xs.foldl min x

/-- o_rear: the largest effective offset among the enabled slots, 0 when none is enabled (R116, R27). -/
def State.oRearNow (s : State) : Nat := s.enabledOffsets.foldl max 0

/-- Housed: down switch made and setpoint 0 (R54). -/
def Slot.housed (x : Slot) : Bool := x.down.acc && x.prv == 0

/-- The AVAIL bit: enabled and not LOCKED (R79, R84). -/
def Slot.avail (x : Slot) : Bool := x.enabled && decide (x.state ≠ .locked)

/-- The nearest section entry: the first of section kind (R19). -/
def Teq.nearest (q : Teq) : Option Entry := q.entries.find? (fun e => e.kind.isSection)

/-- The entry is ARMED or ACTIVE. -/
def Entry.held (e : Entry) : Bool := decide (e.status = .armed) || decide (e.status = .active)

/-- Whether a section entry is queued (R33). -/
def Teq.sectionQueued (q : Teq) : Bool := q.entries.any (fun e => e.kind.isSection)

/-- Whether a section entry is ARMED or ACTIVE (R33). -/
def Teq.anyHeld (q : Teq) : Bool := q.entries.any (fun e => e.kind.isSection && e.held)

/-- Whether a section entry is ACTIVE (R33). -/
def Teq.anyActive (q : Teq) : Bool := q.entries.any (fun e => e.kind.isSection && decide (e.status = .active))

/-- The entry that is ACTIVE. -/
def Teq.activeEntry (q : Teq) : Option Entry := q.entries.find? (fun e => e.kind.isSection && decide (e.status = .active))

/-- Whether an ice zone is INSIDE (R33). -/
def Teq.zoneInside (q : Teq) : Bool := q.entries.any (fun e => decide (e.status = .inside))

/-- The hint an entry contributes while INSIDE. -/
def Entry.hintInside (e : Entry) : Nat :=
  match e.kind, e.status with
  | .iceZone h, .inside => h
  | _, _ => 0

/-- The hint of the ice zone that is INSIDE, or 0 (R33). -/
def Teq.hint (q : Teq) : Nat := q.entries.foldl (fun m e => max m e.hintInside) 0

/-- The slot qualifies for item (c): UP, role in effect COLLECT, disconnector CLOSED, the confirmed system in its
mask and, when the expected system is set, equal to it (R101). -/
def Slot.qualifies (x : Slot) (confirmed : LineClass) (expected : Option LineSystem) : Bool :=
  decide (x.state = .up) && decide (x.role = .collect) && decide (x.dsc.state = .closed) && confirmed.inMask x.mask &&
    (match expected with
     | none => true
     | some e => decide (confirmed = .sys e))

/-- A closing inhibit is latched (R101, R183). -/
def State.inhibited (s : State) : Bool :=
  s.bki.wrongLatch || s.lsu.overvolt || s.csu.overloadLatch || s.bki.brkFault

/-- The interlock items (a) to (g) of R101 on the values held. -/
def State.itemsNow (s : State) : Items :=
  { a := !s.inhibited,
    b := s.cs.demand.power && s.lif.holder.isSome,
    c := s.slots.any (fun x => x.qualifies s.lsu.confirmed s.cs.demand.expected),
    d := !s.teq.anyActive,
    e := !s.teq.halted,
    f := decide (s.pe.status ≠ .lost) || !s.teq.sectionQueued,
    g := s.bki.reclose.isNone }

/-- All items hold. -/
def Items.all (i : Items) : Bool := i.a && i.b && i.c && i.d && i.e && i.f && i.g

/-- The wrong-system condition (R110). -/
def State.wrongNow (s : State) : Bool :=
  decide (s.lsu.confirmed ≠ .none) &&
    (match s.cs.demand.expected with
     | none => false
     | some e => decide (s.lsu.confirmed ≠ .sys e)) &&
    s.slots.any (fun x => decide (x.state = .up) && decide (x.role = .collect))

/-- The report age in whole milliseconds (R6). -/
def Pe.ageMs (p : Pe) : Nat := p.age / 1000

/-- The Condition Vector from the owners of its fields (R84). -/
def State.cvNow (s : State) : CondVec :=
  { sys := s.cs.demand.expected, speed := s.pe.band, ice := s.icu.iceLevel, amb := s.icu.ambBand,
    demand := s.cs.demand.collect, avail := s.slots.map Slot.avail, zone := s.teq.zoneInside, lead := s.pe.lead }

/-! ### The clock (log 1) -/

/-- A count of microseconds that stops at 65,535 ms. -/
def msCount (n us : Nat) : Nat := min ageLimit (us + n)

/-- The Position Estimator's clock: the age counts outside NO_FIX and stops at 65,535 ms (R6). -/
def Pe.after (n : Nat) (p : Pe) : Pe :=
  { p with age := if p.status = .noFix then p.age else msCount n p.age, refresh := p.refresh.after n }

/-- The Passage Sequencer's clock (R114). -/
def Psq.after (n : Nat) (p : Psq) : Psq :=
  { p with timeInStep := if p.phase = .active then msCount n p.timeInStep else p.timeInStep,
           rampTimer := p.rampTimer.after n, confirmTimer := p.confirmTimer.after n }

/-- The Line Sense Unit's clock: the period counter and the hold-off count microseconds (R36, R37). -/
def Lsu.after (n : Nat) (l : Lsu) : Lsu :=
  { l with counter := min 65535 (l.counter + n), sinceCross := min 2000 (l.sinceCross + n),
           magTimer := l.magTimer.after n }

/-- A slot's clocks (R53, R55, R73). -/
def Slot.after (n : Nat) (x : Slot) : Slot :=
  { x with down := x.down.after n, contact := x.contact.after n, add := x.add.after n, dsf := x.dsf.after n,
           raise := x.raise.after n, lower := x.lower.after n, retry := x.retry.after n,
           contactLoss := x.contactLoss.after n, dsc := { x.dsc with travel := x.dsc.travel.after n } }

/-- The Breaker Interface's clocks (R99). -/
def Bki.after (n : Nat) (b : Bki) : Bki :=
  { b with aux := b.aux.after n, sup := b.sup.after n, ramp := b.ramp.after n, reclose := b.reclose.after n,
           tripWindow := b.tripWindow.after n }

/-- The Ice Unit's clocks (R140, R155). -/
def Icu.after (n : Nat) (i : Icu) : Icu := { i with gate := i.gate.after n, fall := i.fall.after n }

/-- The Collection Supervisor's clocks (R160). -/
def Csu.after (n : Nat) (c : Csu) : Csu :=
  { c with width := c.width.after n, half := c.half.after n, overload := c.overload.after n,
           dropout := c.dropout.map (Timer.after n), sample := c.sample.after n, bucket := c.bucket.after n }

/-- A link's clocks (R186, R187). -/
def LinkState.after (n : Nat) (l : LinkState) : LinkState :=
  { l with gap := l.gap.after n, silence := l.silence.after n, since := msCount n l.since }

/-- The Link Interface's clocks. -/
def Lif.after (n : Nat) (l : Lif) : Lif :=
  { l with link := l.link.map (LinkState.after n), sel := { l.sel with wait := l.sel.wait.after n } }

/-- `n` microseconds pass. Every clock advances; what falls due stands at 0 until its command comes (log 3). While
RST_N is held low nothing runs. -/
def State.elapse (n : Nat) (s : State) : State :=
  if s.inReset then s
  else { s with pe := s.pe.after n, psq := s.psq.after n, lsu := s.lsu.after n, slots := s.slots.map (Slot.after n),
                bki := s.bki.after n, icu := s.icu.after n, csu := s.csu.after n, lif := s.lif.after n }

end Sys2Proof.Machine
end

