-- ==== Sys2Proof/Machine/SlotOps.lean ====
section
/-! DEFINITION. One Pantograph Unit: how a slot record changes (04, R53 to R79). Each function takes the few values
it reads outside the slot record as a `PuCtx`, and an event's function also answers the flags it raises. -/

namespace Sys2Proof.Machine

/-- What a unit reads outside its slot record: setpoints, timeouts, and whether the Breaker Interface reports
OPEN. -/
structure PuCtx where
  approach : Nat
  light : Nat
  normal : Nat
  heavy : Nat
  raiseTimeout : Nat
  lowerTimeout : Nat
  retryGap : Nat
  brkOpen : Bool
deriving DecidableEq, Repr

/-- The context of the moment. -/
def State.puCtx (s : State) : PuCtx :=
  { approach := s.approachKpa, light := s.forceKpa .light, normal := s.forceKpa .normal, heavy := s.forceKpa .heavy,
    raiseTimeout := s.raiseTimeout, lowerTimeout := s.lowerTimeout, retryGap := s.retryGap,
    brkOpen := decide (s.bki.state = .opened) }

/-- The FORCE_KPA value of a force. -/
def PuCtx.force (c : PuCtx) : Force → Nat
  | .light => c.light
  | .normal => c.normal
  | .heavy => c.heavy

/-- The role in effect of a target role and a disconnector state (R61). -/
def roleFor : Role → DscState → Role
  | .collect, .closed => .collect
  | .sweep, .opened => .sweep
  | _, _ => .stow

/-- The role in effect derived afresh (R61). -/
def Slot.deriveRole (x : Slot) : Slot := { x with role := roleFor x.tRole x.dsc.state }

/-- The disconnector position a role needs: true is CLOSED (R76). -/
def Role.needsClosed : Role → Bool
  | .collect => true
  | .sweep => false
  | .stow => false

/-- A disconnector travel is in progress (R73). -/
def Slot.travelling (x : Slot) : Bool := decide (x.dsc.state = .closing) || decide (x.dsc.state = .opening)

/-- A travel starts: the command changes, the travel timer starts, and the role in effect follows (R61, R73). -/
def Slot.startTravel (x : Slot) (close : Bool) : Slot :=
  { x with dsc := { state := if close then .closing else .opening, cmd := close, travel := ms travelMs } }.deriveRole

/-- Entry to UP (R54, R64). -/
def Slot.enterUp (c : PuCtx) (x : Slot) : Slot :=
  { x with state := .up, raise := none, prv := c.force x.tForce, dmp := false, retryCount := 0, retryPending := false }

/-- Entry to RAISING; with the contact switch already made the slot passes to UP at once (R63, R64). -/
def Slot.enterRaising (c : PuCtx) (x : Slot) : Slot :=
  let x1 : Slot := { x with state := .raising, prv := c.approach, dmp := false, raise := ms c.raiseTimeout,
                            retry := none, contactLoss := none }
  if x1.contact.acc then x1.enterUp c else x1

/-- The raise conditions of R63, read with the slot's state already known to be DOWN or RETRY_WAIT. -/
def Slot.canRaise (x : Slot) : Bool :=
  x.enabled && decide (x.tRole ≠ .stow) && decide (x.role = x.tRole) && decide (x.hold = .none) && !x.travelling &&
    !x.add.acc

/-- The raise test of R63. -/
def Slot.tryRaise (c : PuCtx) (x : Slot) : Slot := if x.canRaise then x.enterRaising c else x

/-- A slot in DOWN applies its target role (R76). -/
def Slot.applyDown (c : PuCtx) (x : Slot) : Slot :=
  match x.dsc.state with
  | .closing => x
  | .opening => x
  | .failed => x
  | .opened => if x.tRole = .collect then x.startTravel true else x.tryRaise c
  | .closed => if x.tRole = .collect then x.tryRaise c else x.startTravel false

/-- The slot enters DOWN and applies its target role (R54, R76). -/
def Slot.enterDown (c : PuCtx) (x : Slot) : Slot :=
  { x with state := .down, prv := 0, dmp := false, lower := none, retry := none, retryPending := false }.applyDown c

/-- The disconnector position the target role needs is not the one commanded (R78; DEDUCED, log 15). -/
def Slot.otherNeed (x : Slot) : Bool := decide (x.tRole.needsClosed ≠ x.dsc.cmd)

/-- A slot in RETRY_WAIT applies its target role: STOW and another need go to DOWN with the retry count kept, the same need
waits on (R78). -/
def Slot.applyRetryWait (c : PuCtx) (x : Slot) : Slot :=
  if x.tRole = .stow ∨ x.otherNeed then x.enterDown c else x

/-- Entry to RETRY_WAIT, its timer at RETRY_GAP (R54, R65). -/
def Slot.enterRetryWait (c : PuCtx) (x : Slot) : Slot :=
  { x with state := .retryWait, prv := 0, dmp := false, lower := none, retryPending := false, retry := ms c.retryGap }

/-- The down switch is made in LOWERING: RETRY_WAIT after a failed raise that may be retried, and otherwise DOWN (R65, R69). A role
delivered in the LOWERING is applied in RETRY_WAIT; one delivered in RAISING waits there for the retry timer (R65, R78; DEDUCED,
log 15). -/
def Slot.arriveDown (c : PuCtx) (x : Slot) : Slot :=
  if x.retryPending ∧ x.tRole ≠ .stow ∧ x.hold = .none then
    if x.roleDue then (x.enterRetryWait c).applyRetryWait c else x.enterRetryWait c
  else x.enterDown c

/-- Entry to LOWERING; a fast lower energises the dump valve, and a down switch already made passes the slot on at
once (R62, R69; under a FAST hold from any state, DEDUCED, log 16). -/
def Slot.enterLowering (c : PuCtx) (x : Slot) : Slot :=
  let x1 : Slot := { x with state := .lowering, prv := 0, dmp := decide (x.hold = .fast), raise := none, retry := none,
                            contactLoss := none, lower := ms c.lowerTimeout, roleDue := false }
  if x1.down.acc then x1.arriveDown c else x1

/-- A slot in UP applies its target role: STOW lowers; a disconnector in position stays; a change of position is made
in place with the breaker reported OPEN, and by lowering otherwise; a travel in progress is finished first, but STOW
lowers at once (R73, R77; DEDUCED, log 14). -/
def Slot.applyUp (c : PuCtx) (x : Slot) : Slot :=
  if x.tRole = .stow then x.enterLowering c
  else
    match x.dsc.state with
    | .closing => x
    | .opening => x
    | .failed => x
    | .opened => if x.tRole = .collect then (if c.brkOpen then x.startTravel true else x.enterLowering c) else x
    | .closed => if x.tRole = .collect then x else (if c.brkOpen then x.startTravel false else x.enterLowering c)

/-- The target role applied from the slot's state, at a release of the hold and at the end of a travel (R62, R74,
R76, R77, R78). -/
def Slot.applyRole (c : PuCtx) (x : Slot) : Slot :=
  match x.state with
  | .down => x.applyDown c
  | .up => x.applyUp c
  | .disabled => x
  | .raising => x
  | .lowering => x
  | .dropped => x
  | .retryWait => x
  | .locked => x

/-- A changed target role applied from the slot's state; in LOWERING it is marked to be applied where the LOWERING ends (R76, R77,
R78; DEDUCED, log 15). -/
def Slot.applyChanged (c : PuCtx) (x : Slot) : Slot :=
  match x.state with
  | .down => x.applyDown c
  | .up => x.applyUp c
  | .raising => if x.tRole = .stow then x.enterLowering c else x
  | .retryWait => x.applyRetryWait c
  | .lowering => { x with roleDue := true }
  | .disabled => x
  | .dropped => x
  | .locked => x

/-- A delivery of a role and a force (R60, R61, R67). -/
def Slot.deliver (c : PuCtx) (t : RoleForce) (x : Slot) : Slot :=
  let x1 := { x with tRole := t.role, tForce := t.force }.deriveRole
  let x2 : Slot := if x.state = .up ∧ t.force ≠ x.tForce then { x1 with prv := c.force t.force } else x1
  if t.role = x.tRole then x2 else x2.applyChanged c

/-- The sequencer hold set to LOWER or FAST (R62). -/
def Slot.setHold (c : PuCtx) (h : SeqHold) (x : Slot) : Slot :=
  let x1 : Slot := { x with hold := h }
  match x.state with
  | .raising => x1.enterLowering c
  | .up => x1.enterLowering c
  | .lowering => { x1 with dmp := x.dmp || decide (h = .fast), retryPending := false }
  | .retryWait => x1.enterDown c
  | .locked => if x.housed then x1 else { x1 with dmp := x.dmp || decide (h = .fast) }
  | .dropped => x1
  | .down => x1
  | .disabled => x1

/-- The sequencer hold released to NONE (R62). -/
def Slot.releaseHold (c : PuCtx) (x : Slot) : Slot := { x with hold := .none }.applyRole c

/-- The down switch becomes made (R69, R71, R72). -/
def Slot.downMade (c : PuCtx) (x : Slot) : Slot × List Flag :=
  match x.state with
  | .lowering => (x.arriveDown c, [])
  | .dropped =>
    ({ x with state := .locked, dmp := false, lower := none, locks := { x.locks with autodrop := true } },
     [.slotLocked])
  | .locked => ({ x with lower := none, dmp := x.locks.stuckUp }, [])
  | .disabled => (x, [])
  | .down => (x, [])
  | .raising => (x, [])
  | .up => (x, [])
  | .retryWait => (x, [])

/-- The down switch opens (R70, R72). -/
def Slot.downOpened (c : PuCtx) (x : Slot) : Slot :=
  match x.state with
  | .down => x.enterLowering c
  | .retryWait => { x with retryPending := true }.enterLowering c
  | .locked => if x.locks.stuckUp then x else { x with lower := ms c.lowerTimeout }
  | .disabled => x
  | .raising => x
  | .up => x
  | .lowering => x
  | .dropped => x

/-- Contact is made (R64, R68, R78). -/
def Slot.contactMade (c : PuCtx) (x : Slot) : Slot :=
  match x.state with
  | .raising => (x.enterUp c).applyUp c
  | .up =>
    if x.contactLoss.isSome then { x with contactLoss := none, contactLosses := min 65535 (x.contactLosses + 1) } else x
  | .disabled => x
  | .down => x
  | .lowering => x
  | .dropped => x
  | .retryWait => x
  | .locked => x

/-- Contact is lost in UP (R68). -/
def Slot.contactLost (x : Slot) : Slot := if x.state = .up then { x with contactLoss := ms 1000 } else x

/-- The contact-loss timer expires (R68). -/
def Slot.contactLossExpiry (c : PuCtx) (x : Slot) : Slot :=
  if x.state = .up ∧ x.contactLoss.isSome then x.enterRaising c else x

/-- The raise timer expires in RAISING (R65, R66). -/
def Slot.raiseExpiry (c : PuCtx) (x : Slot) : Slot × List Flag :=
  if x.state = .raising ∧ x.raise.isSome then
    if x.retryCount + 1 < 3 then
      ({ x with retryCount := x.retryCount + 1, retryPending := true }.enterLowering c, [.raiseFail])
    else
      ({ x with state := .locked, retryCount := 3, locks := { x.locks with raiseFail := true }, prv := 0, dmp := false,
                raise := none, lower := if x.down.acc then none else ms c.lowerTimeout },
       [.raiseFail, .slotLocked])
  else (x, [])

/-- The lower timer expires (R69, R71, R72). -/
def Slot.lowerExpiry (x : Slot) : Slot × List Flag :=
  if x.lower.isSome then
    match x.state with
    | .lowering =>
      ({ x with state := .locked, locks := { x.locks with stuckUp := true }, prv := 0, dmp := true, retryPending := false,
                lower := none }, [.slotLocked, .stuckUp])
    | .dropped =>
      ({ x with state := .locked, locks := { x.locks with autodrop := true, stuckUp := true }, prv := 0, dmp := true,
                lower := none }, [.slotLocked, .stuckUp])
    | .locked => ({ x with locks := { x.locks with stuckUp := true }, dmp := true, lower := none }, [.stuckUp])
    | .disabled => (x, [])
    | .down => (x, [])
    | .raising => (x, [])
    | .up => (x, [])
    | .retryWait => (x, [])
  else (x, [])

/-- RETRY_WAIT after its retry timer: the raise conditions are tested; a disconnector out of position or a travel due
sends the slot to DOWN; with only the auto-drop line tripped it waits (R65). -/
def Slot.retryTest (c : PuCtx) (x : Slot) : Slot :=
  if x.canRaise then x.enterRaising c
  else if x.role ≠ x.tRole ∨ x.travelling then x.enterDown c
  else { x with retry := none }

/-- The retry timer expires (R65). -/
def Slot.retryExpiry (c : PuCtx) (x : Slot) : Slot :=
  if x.state = .retryWait ∧ x.retry.isSome then x.retryTest c else x

/-- Entry to DROPPED: an auto-drop trip in RAISING, UP or LOWERING. With the down switch already made the slot passes
to LOCKED at once (R54, R71; DEDUCED, log 12). -/
def Slot.drop (c : PuCtx) (x : Slot) : Slot × List Flag :=
  let x1 : Slot := { x with state := .dropped, prv := 0, dmp := true, raise := none, contactLoss := none,
                            lower := if x.state = .lowering then x.lower else ms c.lowerTimeout, retryPending := false }
  if x1.down.acc then ((x1.downMade c).1, .autodrop :: (x1.downMade c).2) else (x1, [.autodrop])

/-- The auto-drop line trips (R71). -/
def Slot.autodropTrip (c : PuCtx) (x : Slot) : Slot × List Flag :=
  match x.state with
  | .raising => x.drop c
  | .up => x.drop c
  | .lowering => x.drop c
  | .locked => if x.housed then (x, []) else ({ x with locks := { x.locks with autodrop := true }, dmp := true }, [.autodrop])
  | .disabled => (x, [])
  | .down => (x, [])
  | .dropped => (x, [])
  | .retryWait => (x, [])

/-- The auto-drop line releases: DOWN makes the raise test, and so does RETRY_WAIT once its retry timer has expired
(R63, R65). -/
def Slot.autodropRelease (c : PuCtx) (x : Slot) : Slot :=
  match x.state with
  | .down => x.tryRaise c
  | .retryWait => if x.retry.isNone then x.tryRaise c else x
  | .disabled => x
  | .raising => x
  | .up => x
  | .lowering => x
  | .dropped => x
  | .locked => x

/-- Entry of the disconnector to FAILED: the command, the role in effect and, if enabled, the lock (R75; the dump
valve and the lower timer of the lock, DEDUCED, log 17). -/
def Slot.failDsc (c : PuCtx) (x : Slot) : Slot × List Flag :=
  let release := decide (x.state = .down) || decide (x.state = .disabled) || c.brkOpen
  let x1 := { x with dsc := { state := .failed, cmd := x.dsc.cmd && !release, travel := none } }.deriveRole
  if x.enabled then
    if x.state = .locked then ({ x1 with locks := { x1.locks with dscFail := true } }, [])
    else
      ({ x1 with state := .locked, locks := { x1.locks with dscFail := true }, prv := 0, dmp := x.dmp && !x.down.acc,
                 raise := none, retry := none, contactLoss := none,
                 lower := if x.down.acc then none else ms c.lowerTimeout }, [.slotLocked])
  else (x1, [])

/-- A FAILED sub-record re-derived: the command open, then OPEN with the feedback released, otherwise OPENING with a
fresh travel timer (R75). -/
def Slot.rederiveDsc (x : Slot) : Slot :=
  if x.dsc.state = .failed then
    { x with dsc := if x.dsf.acc then ⟨.opening, false, ms travelMs⟩ else ⟨.opened, false, none⟩ }.deriveRole
  else x

/-- The disconnector feedback becomes made (R74, R75). -/
def Slot.dsfMade (c : PuCtx) (x : Slot) : Slot × List Flag :=
  match x.dsc.state with
  | .closing => ({ x with dsc := { x.dsc with state := .closed, travel := none } }.deriveRole.applyRole c, [])
  | .opened => x.failDsc c
  | .closed => (x, [])
  | .opening => (x, [])
  | .failed => (x, [])

/-- The disconnector feedback becomes released (R74, R75). -/
def Slot.dsfReleased (c : PuCtx) (x : Slot) : Slot × List Flag :=
  match x.dsc.state with
  | .opening => ({ x with dsc := { x.dsc with state := .opened, travel := none } }.deriveRole.applyRole c, [])
  | .closed => x.failDsc c
  | .opened => (x, [])
  | .closing => (x, [])
  | .failed => (x, [])

/-- The travel timer expires (R74, R75). -/
def Slot.travelExpiry (c : PuCtx) (x : Slot) : Slot × List Flag :=
  if x.travelling ∧ x.dsc.travel.isSome then x.failDsc c else (x, [])

/-- A held command of a FAILED disconnector is set open at a report of OPEN from the Breaker Interface (R75). -/
def Slot.brkReport (c : PuCtx) (x : Slot) : Slot :=
  if x.dsc.state = .failed ∧ c.brkOpen then { x with dsc := { x.dsc with cmd := false } } else x

/-- An accepted SET_SLOT (R57). -/
def Slot.configure (c : PuCtx) (enabled : Bool) (offset : Nat) (mask : BitVec 4) (x : Slot) : Slot :=
  let x1 : Slot := { x with enabled := enabled, offset := offset, mask := mask, retryCount := 0, contactLosses := 0 }
  match x.state, enabled with
  | .down, true => x1.applyDown c
  | .down, false =>
    let x2 : Slot := if x.dsc.state = .closed then x1.startTravel false else x1
    { x2 with state := .disabled }.rederiveDsc
  | .disabled, true => if x.down.acc then x1.enterDown c else x1.enterLowering c
  | .disabled, false => x1.rederiveDsc
  | _, _ => x1

/-- Unlocking, with the slot LOCKED and its down switch made (R58). -/
def Slot.unlock (c : PuCtx) (x : Slot) : Slot :=
  let x1 := { x with state := .down, locks := .empty, retryCount := 0, retryPending := false, dmp := false,
                     lower := none }.rederiveDsc
  x1.applyDown c

end Sys2Proof.Machine
end

