-- ==== Sys2Proof/Machine/CurrentOps.lean ====
section
/-! DEFINITION. The Collection Supervisor (09): reasons and TRO, limits, over marks, the OVER reason, the overload
timer, the arc watch and the buckets. The functions act on the `csu` part of the state and raise flags. -/

namespace Sys2Proof.Machine

/-! ### Reasons and TRO (R164, R165, R171) -/

/-- The level TRO has for the reasons held (R164). -/
def Csu.troLevel (c : Csu) : Bool := c.seqHeld || c.demandHeld || decide (c.overReason ≠ .idle)

/-- TRO takes its level; a change from deasserted to asserted raises TRO_ON (R164). -/
def State.troUpdate (s : State) : State :=
  { s with csu := { s.csu with tro := s.csu.troLevel } }.raiseIf (s.csu.troLevel && !s.csu.tro) .troOn

/-- The SEQ reason is held (R165, R171). -/
def State.holdSeq (s : State) : State :=
  { s with csu := { s.csu with seqHeld := true, seen := { s.csu.seen with seq := true } } }.troUpdate

/-- The SEQ reason is released (R165). -/
def State.releaseSeq (s : State) : State := { s with csu := { s.csu with seqHeld := false } }.troUpdate

/-- The DEMAND reason is held (R165, R171). -/
def State.holdDemand (s : State) : State :=
  { s with csu := { s.csu with demandHeld := true, seen := { s.csu.seen with demand := true } } }.troUpdate

/-- The DEMAND reason is released (R165). -/
def State.releaseDemand (s : State) : State := { s with csu := { s.csu with demandHeld := false } }.troUpdate

/-- The width timer starts at full width, with its half point (R166). -/
def Csu.startWidth (c : Csu) (w : Nat) : Csu := { c with width := ms w, half := some (w * 500) }

/-! ### Limits and over marks (R162, R163) -/

/-- The percentage of a profile (R162). -/
def profilePercent (p : Nat) : Nat := [100, 75, 50, 25].getD p 0

/-- The effective limit for the expected system, band and profile in use (R162). -/
def State.limitNow (s : State) : Nat :=
  match s.csu.expected with
  | none => 0
  | some x => s.limitParam x (decide (s.csu.band = 0)) * profilePercent s.csu.profile / 100

/-- The over mark of one slot (R163). -/
def overOf (role : Role) (mean limit : Nat) : Bool := decide (role = .collect) && decide (limit < mean)

/-- The over marks on the values held (R163). -/
def Csu.marksNow (c : Csu) : PerSlot Bool :=
  .of (fun k => overOf (c.roles.get k) (c.mean.get k) (c.limit.get k))

/-- The total collector current: the means of the COLLECT slots summed (R163). -/
def Csu.totalNow (c : Csu) : Nat :=
  (PerSlot.of (fun k => if c.roles.get k = .collect then c.mean.get k else 0)).toList.sum

/-- Over-limit rises: OVER becomes TIMING with a full width timer, OVER is seen, and the overload timer starts
(R166, R169, R171). -/
def State.overRise (s : State) : State :=
  { s with csu := { (s.csu.startWidth s.troWidth) with overReason := .timing, overload := ms s.overloadTime,
                                                        seen := { s.csu.seen with ovr := true } } }

/-- The over marks and over-limit re-evaluated; a rise and a fall act on OVER, the overload timer and TRO (R163,
R164, R166, R169). -/
def State.marksUpdate (s : State) : State :=
  let marks := s.csu.marksNow
  let now := marks.any id
  let s1 : State := { s with csu := { s.csu with overMark := marks, overLimit := now } }
  let s2 : State :=
    if now = s.csu.overLimit then s1
    else if now then s1.overRise
    else { s1 with csu := { s1.csu with overload := none } }
  s2.troUpdate

/-- The inputs as the neighbours hand them on: expected system, band, profile, roles, breaker state. A dropout is
abandoned where the role leaves COLLECT, and everywhere when the breaker leaves CLOSED (R172). The limits, the total,
the over marks and over-limit follow (R162, R163). -/
def State.csuInputs (s : State) : State :=
  let roles := s.slots.map (fun x => x.role)
  let keep : SlotId → Bool := fun k => decide (roles.get k = .collect) && decide (s.bki.state = .closed)
  let c1 : Csu := { s.csu with expected := s.cs.demand.expected, band := s.pe.band, profile := s.cs.current.profile,
                               roles := roles, brk := s.bki.state,
                               dropout := .of (fun k => if keep k then s.csu.dropout.get k else none) }
  let s1 : State := { s with csu := { c1 with total := c1.totalNow } }
  { s1 with csu := { s1.csu with limit := .all s1.limitNow } }.marksUpdate

/-! ### Arcs (R172, R173) -/

/-- The arc sum of ten buckets (R173). -/
def arcSum (buckets : List Nat) : Nat := buckets.sum

/-- One arc added to the current bucket, which stops at 255 (R173). -/
def addArc : List Nat → List Nat
  | [] => []
  | b :: bs => min 255 (b + 1) :: bs

/-- A turnover: the oldest bucket is dropped and a new current bucket opens at 0 (R173). -/
def turnOver (buckets : List Nat) : List Nat := 0 :: buckets.take 9

/-- The arc watch of one slot at a sample: the dropout timer and the buckets after it (R172). -/
def arcWatch (role : Role) (brk : BrkState) (mean sample : Nat) (dropout : Timer) (buckets : List Nat) :
    Timer × List Nat :=
  match dropout with
  | none =>
    if sample < 5 ∧ role = .collect ∧ brk = .closed ∧ 50 ≤ mean then (ms 50, buckets) else (none, buckets)
  | some t => if sample < 5 then (some t, buckets) else (none, addArc buckets)

/-- A sample converted: at full scale it reads 4,000 A and carries the clamped mark (R161). -/
def senseSample (amps : Nat) : Sample := if 4000 ≤ amps then ⟨4000, true⟩ else ⟨amps, false⟩

/-- The 20 ms mean of a history (R161). -/
def meanOf (h : List Sample) : Nat := (h.map (fun x => x.amps)).sum / 20

/-- One sample event up to the total, steps 1 to 4 of R161 without the marks. -/
def Csu.sampleAll (c : Csu) (amps : PerSlot Nat) : Csu :=
  let watch := PerSlot.of (fun k => arcWatch (c.roles.get k) c.brk (c.mean.get k) (senseSample (amps.get k)).amps
    (c.dropout.get k) (c.buckets.get k))
  let hist := PerSlot.of (fun k => senseSample (amps.get k) :: (c.hist.get k).take 19)
  let c1 : Csu := { c with dropout := watch.map Prod.fst, buckets := watch.map Prod.snd, hist := hist,
                           mean := hist.map meanOf, sample := ms 1 }
  { c1 with total := c1.totalNow }

end Sys2Proof.Machine
end

