-- ==== Sys2Proof/Machine/BreakerOps.lean ====
section
/-! DEFINITION. The Breaker Interface's moves (06): entering OPENING, OPEN, CLOSING and FAILED, the opens of R104 to
R106, the ramp, and the latches. The level-based tests of the interlock and of the wrong-system condition are in
HandOn.lean. -/

namespace Sys2Proof.Machine

/-- Entry to OPEN: the hold deasserted, the timer and the ramp ended, the DEMAND reason released (R100, R105, R107). -/
def State.brkEnterOpen (s : State) : State :=
  { s with bki := { s.bki with state := .opened, kind := none, hold := false, sup := none, ramp := none } }.releaseDemand

/-- Entry to OPENING: the hold deasserted, supervision at T_OPEN_MAX, a running ramp ended; with aux already released
the state passes at once to OPEN (R104, R106, R107). -/
def State.brkEnterOpening (s : State) : State :=
  let s1 : State := { s with bki := { s.bki with state := .opening, hold := false, sup := ms s.tOpenMax, ramp := none } }
  if s1.bki.aux.acc then s1 else s1.brkEnterOpen

/-- Entry to CLOSING: the hold asserted, supervision at T_CLOSE_MAX (R101). -/
def State.brkEnterClosing (s : State) : State :=
  { s with bki := { s.bki with state := .closing, hold := true, sup := ms s.tCloseMax } }

/-- The BRK_FAULT latch is set; its flag rises if the latch was clear (R102, R107, R109). -/
def State.latchBrkFault (s : State) : State :=
  { s with bki := { s.bki with brkFault := true } }.raiseIf (!s.bki.brkFault) .brkFault

/-- Entry to FAILED with a kind: the hold deasserted, the DEMAND reason released, BRK_FAULT latched. With kind
NO_CLOSE the open check starts at T_OPEN_MAX (R102, R105, R107, R108, R109). -/
def State.brkEnterFailed (kind : FailKind) (s : State) : State :=
  let sup := match kind with
    | .noClose => ms s.tOpenMax
    | .noOpen => none
  { s with bki := { s.bki with state := .failed, kind := some kind, hold := false, sup := sup, ramp := none } }.releaseDemand.latchBrkFault

/-- The breaker is CLOSING or CLOSED. -/
def Bki.shut (b : Bki) : Bool := decide (b.state = .closing) || decide (b.state = .closed)

/-- An immediate open (R104). -/
def State.openNow (s : State) : State := if s.bki.shut then s.brkEnterOpening else s

/-- A sequencer-class open (R106). -/
def State.openBySequencer (s : State) : State := if s.bki.shut then s.brkEnterOpening else s

/-- The ramped open ends by opening, if a ramp is running (R105). -/
def State.rampEnd (s : State) : State :=
  if s.bki.ramp.isSome ∧ s.bki.state = .closed then s.brkEnterOpening else s

/-- The total collector current is reported to a ramped open (R105). -/
def State.rampReport (s : State) : State := if s.csu.total ≤ s.openCurrent then s.rampEnd else s

/-- A ramped open starts: DEMAND held, the ramp timer at T_RAMP; with T_RAMP 0 or the total already at or below
OPEN_CURRENT the hold is deasserted at this event (R105). -/
def State.rampStart (s : State) : State :=
  let s1 := { s with bki := { s.bki with ramp := ms s.tRamp } }.holdDemand
  if s.tRamp = 0 then s1.rampEnd else s1.rampReport

/-- Demand power returns to 1: a running ramp is abandoned and its DEMAND reason released (R105). -/
def State.rampAbandon (s : State) : State :=
  if s.bki.ramp.isSome then { s with bki := { s.bki with ramp := none } }.releaseDemand else s

/-- Demand power is written: a change to 0 in CLOSED starts a ramped open, a change to 1 abandons one (R83, R105). -/
def State.powerWritten (before : Bool) (s : State) : State :=
  if before = s.cs.demand.power then s
  else if s.cs.demand.power then s.rampAbandon
  else if s.bki.state = .closed then s.rampStart
  else s

/-- The expected system is written: a change sets the over-window count to 0 (R48, R81). -/
def State.expectedWritten (before : Option LineSystem) (s : State) : State :=
  if before = s.cs.demand.expected then s else { s with lsu := { s.lsu with overCount := 0 } }

/-- A write of the Demand record, with the effects of its changes on the Breaker Interface and the Line Sense Unit
(R81, R83). -/
def State.writeDemand (d : Demand) (s : State) : State :=
  ({ s with cs := { s.cs with demand := d } }.expectedWritten s.cs.demand.expected).powerWritten s.cs.demand.power

/-- Aux becomes made (R102, R107, R108, R109). -/
def State.auxMade (s : State) : State :=
  match s.bki.state with
  | .closing => { s with bki := { s.bki with state := .closed, sup := none } }
  | .opened => s.brkEnterFailed .noOpen
  | .closed => s
  | .opening => s
  | .failed => s

/-- An external trip (R109). -/
def State.externalTrip (s : State) : State :=
  let second := s.bki.tripWindow.isSome
  let s1 := s.brkEnterOpen.raise .brkTrip
  let s2 : State := { s1 with bki := { s1.bki with reclose := ms s.recloseDelay, tripWindow := ms 60000 } }
  if second then s2.latchBrkFault else s2

/-- Aux becomes released (R107, R108, R109). -/
def State.auxReleased (s : State) : State :=
  match s.bki.state, s.bki.kind with
  | .closed, _ => s.externalTrip
  | .opening, _ => s.brkEnterOpen
  | .failed, some .noOpen => s.brkEnterOpen
  | .failed, some .noClose => s
  | .failed, none => s
  | .opened, _ => s
  | .closing, _ => s

/-- The supervision timer expires in CLOSING (R102). -/
def State.closeTimeout (s : State) : State :=
  if s.bki.state = .closing ∧ s.bki.sup.isSome then s.brkEnterFailed .noClose else s

/-- The supervision timer expires in OPENING (R107). -/
def State.openTimeout (s : State) : State :=
  if s.bki.state = .opening ∧ s.bki.sup.isSome then s.brkEnterFailed .noOpen else s

/-- The open check ends (R108). -/
def State.openCheckEnd (s : State) : State :=
  if s.bki.state = .failed ∧ s.bki.kind = some .noClose ∧ s.bki.sup.isSome then
    if s.bki.aux.acc then { s with bki := { s.bki with kind := some .noOpen, sup := none } } else s.brkEnterOpen
  else s

end Sys2Proof.Machine
end

