-- ==== Sys2Proof/Machine/TargetOps.lean ====
section
/-! DEFINITION. The Configuration Selector (05): the evaluation of the rule table (R88 to R93), the delivery of a
Target (R94), the hold and its release (R95 to R97). -/

namespace Sys2Proof.Machine

/-! ### Evaluation -/

/-- The value of a Condition Vector field (R84). NONE and MASK name no field. -/
def CondVec.value (cv : CondVec) : RuleField → Nat
  | .none => 0
  | .mask => 0
  | .sys => expectedCode cv.sys
  | .speed => cv.speed
  | .ice => cv.ice
  | .amb => cv.amb
  | .demand => cv.demand.toNat
  | .avail => cv.avail.bits
  | .zone => cv.zone.toNat
  | .lead => cv.lead.code

/-- A comparison, unsigned (R85, R88). -/
def RuleOp.test : RuleOp → Nat → Nat → Bool
  | .eq, x, v => x == v
  | .ne, x, v => x != v
  | .ge, x, v => decide (v ≤ x)
  | .lt, x, v => decide (x < v)

/-- One member of a chain: whether it matches, and the mask after it (R88). -/
def Rule.take (cv : CondVec) (mask : Nat) (r : Rule) : Bool × Nat :=
  match r.field with
  | .none => (false, mask)
  | .mask => (true, r.value.toNat)
  | f => (r.op.test (cv.value f &&& mask) r.value.toNat, mask)

/-- The chains from index `i` on. `base` is the mask when the chain began, `mask` the mask now, `alive` whether every
member so far matched. The answer is the index of the last member of the first chain that matches, and its action
(R88, R89, R90). -/
def evalFrom (cv : CondVec) (i base mask : Nat) (alive : Bool) : List Rule → Option (Nat × Action)
  | [] => none
  | r :: rs =>
    let hit := alive && (r.take cv mask).1
    let mask' := if alive then (r.take cv mask).2 else mask
    if r.chained then evalFrom cv (i + 1) base mask' hit rs
    else if hit && decide (r.action ≠ .absent) then some (i, r.action)
    else evalFrom cv (i + 1) base base true rs

/-- An evaluation of the table against the Condition Vector (R88). -/
def evalTable (cv : CondVec) (rules : List Rule) : Option (Nat × Action) := evalFrom cv 0 0xFF 0xFF true rules

/-- The latest Target the CS holds: the Pending Target when one is held, otherwise the current one (R90). -/
def Cs.latest (c : Cs) : Target := c.pend.getD c.current

/-- The result of an evaluation before the post-checks, with its index and kind (R90, R91). -/
def Cs.evalResult (c : Cs) : Option Nat × EvalKind × Target :=
  match evalTable c.cv c.rules with
  | some (i, .target t) => (some i, .target, t)
  | some (i, .refuse) => (some i, .refuse, c.latest)
  | some (_, .absent) => (none, .dflt, .stowAll)
  | none => (none, .dflt, .stowAll)

/-- The system is in a slot's mask; UNSET passes with any mask (R92). -/
def sysAllowed (sys : Option LineSystem) (mask : BitVec 4) : Bool :=
  match sys with
  | none => true
  | some x => mask.getLsbD x.maskBit

/-- The post-check of one slot: what the result becomes (R92). -/
def postCheck (sys : Option LineSystem) (avail : Bool) (mask : BitVec 4) (x : RoleForce) : RoleForce :=
  if x.role ≠ .stow ∧ avail = false then { x with role := .stow }
  else if x.role = .collect ∧ sysAllowed sys mask = false then { x with role := .stow }
  else x

/-- A result after the post-checks (R92). -/
def State.postChecked (s : State) (t : Target) : Target :=
  { t with slots := .of (fun k => postCheck s.cs.cv.sys (s.cs.cv.avail.get k) (s.slots.get k).mask (t.slots.get k)) }

/-! ### Delivery -/

/-- A Target becomes the current Target and is delivered to the four units (R60, R94). The Collection Supervisor takes
the profile from the current Target. -/
def State.deliver (t : Target) (s : State) : State :=
  { s with cs := { s.cs with current := t },
           slots := .of (fun k => (s.slots.get k).deliver s.puCtx (t.slots.get k)) }

/-- A result is held while the hold is on, and otherwise delivered when it differs from the current Target (R94,
R95). -/
def State.holdOrDeliver (t : Target) (s : State) : State :=
  if s.cs.hold then { s with cs := { s.cs with pend := some t } }
  else if t = s.cs.current then s
  else s.deliver t

/-- One evaluation on the Condition Vector as its owners now give it: the fields are written, the table is evaluated,
the result post-checked, counted, recorded, and delivered or held (R84, R88 to R95). -/
def State.evaluate (s : State) : State :=
  let s1 : State := { s with cs := { s.cs with cv := s.cvNow } }
  let r := s1.cs.evalResult
  let t := s1.postChecked r.2.2
  let changed := PerSlot.of (fun k => decide (t.slots.get k ≠ r.2.2.slots.get k))
  let s2 : State := { s1 with cs := { s1.cs with lastEval := some ⟨r.1, r.2.1, changed⟩,
                                                 evals := (s1.cs.evals + 1) % 65536 } }
  ((s2.raiseIf (decide (r.2.1 = .dflt)) .noRule).raiseIf (changed.any id) .ruleConflict).holdOrDeliver t

/-- A change of any Condition Vector field starts one evaluation (R93). -/
def State.csReact (s : State) : State := if s.cvNow = s.cs.cv then s else s.evaluate

/-- The Pending Target is delivered when present and different, and becomes absent (R96, R97). -/
def State.deliverPending (s : State) : State :=
  let p := s.cs.pend
  let s1 : State := { s with cs := { s.cs with pend := none } }
  match p with
  | none => s1
  | some t => if t = s1.cs.current then s1 else s1.deliver t

/-- The target hold comes on at arming, with the Pending Target absent (R95). -/
def State.csHoldOn (s : State) : State := { s with cs := { s.cs with hold := true, pend := none } }

/-- The target hold goes off when no section entry is ARMED or ACTIVE (R97). -/
def State.csHoldOff (s : State) : State :=
  if s.teq.anyHeld then s
  else if s.cs.hold then { s with cs := { s.cs with hold := false } }.deliverPending
  else s

/-- The release request of RERAISE, with the next system for a BOUNDARY entry (R96, R128). Without a Pending Target the
current Target is delivered again unchanged, which leaves every unit as it is (R60). The evaluation of a BOUNDARY release reads every
field of the Condition Vector as it now is, also one that the same event changed (DESIGN CHOICE, log 43). -/
def State.csRelease (next : Option LineSystem) (s : State) : State :=
  match next with
  | none => s.deliverPending
  | some x => (s.writeDemand { s.cs.demand with expected := some x }).csReact.deliverPending

end Sys2Proof.Machine
end

