-- ==== Sys2Proof/Machine/QueueOps.lean ====
section
/-! DEFINITION. The Track Event Queue (02) and the close of an entry: the close itself (R24, R29), what the Passage
Sequencer does at it (R134) and the end of the target hold (R97); then placing (R20), overlap (R21), skipping (R27)
and the ice zones (R31). -/

namespace Sys2Proof.Machine

/-! ### Closing -/

/-- The reason of a PSQ abort halts the queue; REVERSED does not (R29). -/
def AbortReason.halts : AbortReason → Bool
  | .reversed => false
  | .brkNoOpen => true
  | .lowerLate => true
  | .noCollector => true
  | .wrongSystem => true

/-- The flags a close raises (R24, R29). -/
def closeFlags (isSection : Bool) : CloseResult → List Flag
  | .done => if isSection then [.entryDone] else []
  | .doneNoVoltage => if isSection then [.entryDone] else []
  | .skipped .passed => [.entrySkip]
  | .skipped .passedHalted => [.entrySkip]
  | .skipped .cancelled => []
  | .skipped .reversed => []
  | .aborted r => if r.halts then [.entryAbort, .queueHalt] else [.entryAbort]

/-- Whether a result halts the queue (R29). -/
def CloseResult.halts : CloseResult → Bool
  | .aborted r => r.halts
  | .done => false
  | .doneNoVoltage => false
  | .skipped _ => false

/-- The queue's part of a close: the entry leaves, its record goes to the front of the closed list of 8, the Closed
counter adds one, the flags rise, and an abort by the sequencer halts the queue (R24, R29). -/
def State.recordClose (e : Entry) (r : CloseResult) (last : Option Step) (s : State) : State :=
  { s with teq := { s.teq with
      entries := s.teq.entries.erase e,
      closed := (ClosedRec.mk e.tag e.kind r last s.pe.e :: s.teq.closed).take 8,
      closedCount := s.teq.closedCount + 1,
      halted := s.teq.halted || r.halts } }.raiseAll (closeFlags e.kind.isSection r)

/-- Every slot's sequencer hold set (R62). -/
def State.setHolds (h : SeqHold) (s : State) : State :=
  { s with psq := { s.psq with slotHold := h }, slots := s.slots.map (Slot.setHold s.puCtx h) }

/-- Every slot's sequencer hold released (R62). -/
def State.releaseHolds (s : State) : State :=
  { s with psq := { s.psq with slotHold := .none }, slots := s.slots.map (Slot.releaseHold s.puCtx) }

/-- What the Passage Sequencer does when the entry it has planned is closed: SEQ released, the holds released, the
timers stopped and the plan at its reset values (R134). -/
def State.planClosed (s : State) : State :=
  let s1 := if s.psq.seqHeld then s.releaseSeq else s
  let s2 := if s1.psq.slotHold = .none then s1 else s1.releaseHolds
  { s2 with psq := .reset }

/-- A close of a queued entry, with its effects on the sequencer and the target hold when the entry was ARMED or ACTIVE
(R24, R97, R134). A request for an entry that is not queued finds no entry. -/
def State.closeEntry (e : Entry) (r : CloseResult) (last : Option Step) (s : State) : State :=
  if e ∈ s.teq.entries then
    if e.held then (s.recordClose e r last).planClosed.csHoldOff else s.recordClose e r last
  else s

/-! ### Posting (R20 to R23) -/

/-- The new entry goes after a queued one: a smaller distance from E, or the same with the queued one a section and
the new one an ice zone (R20). -/
def goesAfter (e : Pos) (new old : Entry) : Bool :=
  decide (signedDiff old.start e < signedDiff new.start e) ||
    (decide (signedDiff old.start e = signedDiff new.start e) && old.kind.isSection && !new.kind.isSection)

/-- The number of queued entries the new entry goes after (R20, R23). -/
def placeIndex (e : Pos) (new : Entry) (q : List Entry) : Nat := (q.filter (goesAfter e new)).length

/-- The queue with the new entry behind those it goes after and before all others (R20). -/
def placeEntry (e : Pos) (new : Entry) (q : List Entry) : List Entry :=
  q.take (placeIndex e new q) ++ new :: q.drop (placeIndex e new q)

/-- Two spans overlap (R21). -/
def overlaps (s1 : Pos) (l1 : Nat) (s2 : Pos) (l2 : Nat) : Bool :=
  decide (signedDiff s2 s1 < (l1 : Int)) && decide (signedDiff s1 s2 < (l2 : Int))

/-- The new entry's span overlaps the span of a queued entry of its class (R21, R22). -/
def overlapsClass (new : Entry) (q : List Entry) : Bool :=
  q.any (fun o => (o.kind.isSection == new.kind.isSection) && overlaps o.start o.len new.start new.len)

/-- The new section would stand ahead of the entry that is ARMED or ACTIVE (R22, third LATE condition). -/
def aheadOfHeld (new : Entry) (q : List Entry) : Bool :=
  new.kind.isSection &&
    q.any (fun o => o.kind.isSection && o.held && decide (signedDiff new.start o.start < 0))

/-! ### The estimate update in the queue (R27, R31) -/

/-- The cleared point of a section with an o_rear (R27, R118). -/
def State.clearedPoint (s : State) (start : Pos) (len oRear : Nat) : Pos :=
  start.plus (len + oRear + s.margin + s.pe.u)

/-- The o_rear an entry is tested with: fixed at arming for an ARMED one (R27). -/
def State.oRearFor (s : State) (e : Entry) : Nat :=
  if e.status = .queued then s.oRearNow else s.psq.oRear.getD s.oRearNow

/-- The cleared point of a QUEUED or ARMED section is reached (R27, R28). -/
def State.cleared (s : State) (e : Entry) : Bool := reached s.pe.e (s.clearedPoint e.start e.len (s.oRearFor e))

/-- R27 for one entry. -/
def State.skipPassed (s : State) (e : Entry) : State :=
  if e.kind.isSection ∧ (e.status = .queued ∨ e.status = .armed) ∧ s.cleared e then
    s.closeEntry e (.skipped (if s.teq.halted then .passedHalted else .passed)) none
  else s

/-- R27: every section entry in queue order. -/
def State.skipAll (s : State) : State := s.teq.entries.foldl State.skipPassed s

/-- The exit point of an ice zone (R31). -/
def State.exitPoint (s : State) (e : Entry) : Pos := e.start.plus (e.len + s.trainLength)

/-- The lead point of an ice zone (R31). -/
def State.leadPoint (s : State) (e : Entry) : Pos := e.start.minus s.iceLead

/-- R31 for one ice zone. -/
def State.zoneTest (s : State) (e : Entry) : State :=
  if e.kind.isSection then s
  else if reached s.pe.e (s.exitPoint e) then
    s.closeEntry e (if e.status = .inside then .done else .skipped .passed) none
  else if e.status = .queued ∧ reached s.pe.e (s.leadPoint e) ∧ s.teq.zoneInside = false then
    { s with teq := { s.teq with entries := s.teq.entries.map (fun x => if x = e then { x with status := .inside } else x) } }
  else s

/-- R31: the ice zones in queue order. -/
def State.zonesAll (s : State) : State := s.teq.entries.foldl State.zoneTest s

/-! ### Reversal (R32) -/

/-- The close a REVERSE gives one entry (R32). -/
def State.closeReversed (s : State) (e : Entry) : State :=
  if e.status = .active then s.closeEntry e (.aborted .reversed) s.psq.step
  else s.closeEntry e (.skipped .reversed) none

/-- Every queued entry closed, head first, and HALTED cleared (R32). -/
def State.closeAllReversed (s : State) : State :=
  let s1 := s.teq.entries.foldl State.closeReversed s
  { s1 with teq := { s1.teq with halted := false } }

end Sys2Proof.Machine
end

