-- ==== Sys2Proof/Machine/PassageOps.lean ====
section
/-! DEFINITION. The Passage Sequencer (07): the points (R116 to R118), arming and activation (R119, R120), the steps
and their endings (R121 to R130), the aborts (R126, R131 to R133). -/

namespace Sys2Proof.Machine

/-! ### Closing the entry in passage -/

/-- The sequencer closes the ACTIVE entry with the step in progress as the last step (R133, R134). LINE_LOSS rises
with DONE_NO_VOLTAGE (R130). -/
def State.closeActive (r : CloseResult) (last : Option Step) (s : State) : State :=
  match s.teq.activeEntry with
  | some e => (s.raiseIf (decide (r = .doneNoVoltage)) .lineLoss).closeEntry e r last
  | none => s

/-- An abort with its reason (R133). -/
def State.abortWith (r : AbortReason) (last : Option Step) (s : State) : State := s.closeActive (.aborted r) last

/-- BRK_NO_OPEN: FAST holds on every slot, then the abort (R131). -/
def State.abortNoOpen (s : State) : State := (s.setHolds .fast).abortWith .brkNoOpen s.psq.step

/-! ### The points (R116 to R118) -/

/-- T_lead of a kind on the parameters now (R117). -/
def State.tLeadNow (s : State) (k : Kind) : Nat :=
  if k.lowers then s.tRamp + s.tOpen + s.tLower else s.tRamp + s.tOpen

/-- The points of the nearest section entry at an update (R116 to R118). The offsets are those fixed at arming for an
entry in the plan, and T_lead that fixed at activation. -/
def State.pointsOf (s : State) (e : Entry) : Points :=
  let oLead := if e.held then s.psq.oLead.getD s.oLeadNow else s.oLeadNow
  let oRear := if e.held then s.psq.oRear.getD s.oRearNow else s.oRearNow
  let tLead := if e.status = .active then s.psq.tLead.getD (s.tLeadNow e.kind) else s.tLeadNow e.kind
  let g := ceilDiv (s.pe.v * tLead) 1000
  let d := e.start.plus oLead
  let a := d.minus (s.margin + g + s.pe.u)
  { tag := e.tag, g := g, d := d, a := a, arming := a.minus s.armLead, deadline := d.minus s.pe.u,
    c := s.clearedPoint e.start e.len oRear, e := s.pe.e, u := s.pe.u }

/-- The cleared point of the planned entry is reached, with the E and U the Position Estimator holds (R127) and MARGIN as it
then stands (DEDUCED, log 35). -/
def State.planCleared (s : State) : Bool :=
  match s.psq.plan with
  | some p => reached s.pe.e (s.clearedPoint p.start p.len (s.psq.oRear.getD 0))
  | none => false

/-! ### The steps -/

/-- The slot no longer holds LOWER back: housed, or LOCKED with STUCK_UP (R124, R126). -/
def Slot.lowered (x : Slot) : Bool := x.housed || (decide (x.state = .locked) && x.locks.stuckUp)

/-- Every enabled slot is housed or LOCKED with STUCK_UP (R124, R126). -/
def State.allLowered (s : State) : Bool := s.slots.every (fun x => !x.enabled || x.lowered)

/-- LOCKED, or DOWN or RETRY_WAIT with a tripped auto-drop line, as rows 2 and 4 of R129 count it. -/
def Slot.countsLocked (x : Slot) : Bool :=
  decide (x.state = .locked) ||
    ((decide (x.state = .down) || decide (x.state = .retryWait)) && x.add.acc)

/-- A property of every slot whose role in the current Target is one of some. -/
def State.everyTarget (s : State) (roles : Role → Bool) (f : Slot → Bool) : Bool :=
  [SlotId.ps0, .ps1, .ps2, .ps3].all (fun k => !roles (s.cs.current.slots.get k).role || f (s.slots.get k))

/-- Some COLLECT slot is UP with role in effect COLLECT (R129, row 4). -/
def State.someCollecting (s : State) : Bool :=
  [SlotId.ps0, .ps1, .ps2, .ps3].any (fun k =>
    decide ((s.cs.current.slots.get k).role = .collect) && decide ((s.slots.get k).state = .up) &&
      decide ((s.slots.get k).role = .collect))

/-- The event at which a step's ending is tested: its start, a report from another block, a report of the total
collector current, or an estimate update (R121). -/
inductive Cause where
  | start
  | report
  | total
  | update
deriving DecidableEq, Repr

/-- What a step does at a test: wait, go on to a step, close, or abort with FAST holds. -/
inductive Move where
  | stay
  | go (next : Step)
  | close (r : CloseResult)
  | noOpen
deriving DecidableEq, Repr

/-- R129, from the top; row 4's "every other" are those not UP collecting (DEDUCED, log 23). -/
def State.reraiseMove (s : State) : Move :=
  if s.everyTarget (fun r => decide (r = .collect)) (fun _ => false) then .close .done
  else if s.everyTarget (fun r => decide (r = .collect)) Slot.countsLocked then .close (.aborted .noCollector)
  else if s.everyTarget (fun r => decide (r ≠ .stow)) (fun x => decide (x.state = .up) && decide (x.role = x.tRole))
  then .go .confirm
  else if s.someCollecting ∧
    s.everyTarget (fun r => decide (r ≠ .stow)) (fun x => (decide (x.state = .up) && decide (x.role = .collect)) || x.countsLocked)
  then .go .confirm
  else .stay

/-- The confirmation tests of R130. -/
def State.confirmMove (s : State) : Move :=
  match s.cs.demand.expected, s.lsu.confirmed with
  | some x, c => if c = .sys x then .close .done else .stay
  | none, .sys _ => .close .done
  | none, .none => .stay
  | none, .unknown => .stay

/-- The ending test of the step in progress. The total counts for RAMP at its start and at each report of it, the position
for COAST at its start and at each estimate update (R121 to R130). -/
def State.stepMove (c : Cause) (s : State) : Move :=
  match s.psq.step with
  | none => .stay
  | some .ramp =>
    if s.bki.state ≠ .closed then .go .openBrk
    else if (c = .start ∨ c = .total) ∧ s.csu.total ≤ s.openCurrent then .go .openBrk
    else if c = .start ∧ s.tRamp = 0 then .go .openBrk
    else .stay
  | some .openBrk =>
    match s.bki.state with
    | .opened => .go (if (s.psq.plan.map (fun p => p.kind.lowers)).getD false then .lower else .coast)
    | .failed => if s.bki.kind = some .noOpen then .noOpen else .stay
    | .closing => .stay
    | .closed => .stay
    | .opening => .stay
  | some .lower => if s.bki.state = .failed ∧ s.bki.kind = some .noOpen then .noOpen
                   else if s.allLowered then .go .coast else .stay
  | some .coast => if s.bki.state = .failed ∧ s.bki.kind = some .noOpen then .noOpen
                   else if (c = .start ∨ c = .update) ∧ s.planCleared then
                     .go (if (s.psq.plan.map (fun p => p.kind.lowers)).getD false then .reraise else .confirm)
                   else .stay
  | some .reraise => if s.bki.state = .failed ∧ s.bki.kind = some .noOpen then .noOpen else s.reraiseMove
  | some .confirm => if s.bki.state = .failed ∧ s.bki.kind = some .noOpen then .noOpen else s.confirmMove

/-- The next system that RERAISE of a BOUNDARY writes (R83, R128). -/
def Psq.nextSystem (p : Psq) : Option LineSystem :=
  match p.plan with
  | some q =>
    match q.kind with
    | .boundary x => some x
    | .neutral _ => none
    | .lower => none
    | .iceZone _ => none
  | none => none

/-- A step starts: the time in step restarts, the timers of the step before stop, and the start actions are made
(R121 to R130). -/
def State.startStep (st : Step) (s : State) : State :=
  let s1 : State := { s with psq := { s.psq with step := some st, timeInStep := 0, rampTimer := none, confirmTimer := none } }
  match st with
  | .ramp => if s1.bki.state = .closed then { s1 with psq := { s1.psq with rampTimer := ms s1.tRamp } } else s1
  | .openBrk => s1.openBySequencer
  | .lower => s1.setHolds .lower
  | .coast => s1
  | .reraise => (s1.csRelease s1.psq.nextSystem).releaseHolds
  | .confirm => { s1 with psq := { s1.psq with confirmTimer := ms s1.confirmTimeout } }

/-- The steps followed as far as their endings hold at this event (R121). A passage has six steps, so seven tests
reach the last. -/
def State.advance : Nat → Cause → State → State
  | 0, _, s => s
  | n + 1, c, s =>
    match s.stepMove c with
    | .stay => s
    | .go st => State.advance n .start (s.startStep st)
    | .close r => s.closeActive r s.psq.step
    | .noOpen => s.abortNoOpen

/-- Tests a passage can make at one event. -/
def stepFuel : Nat := 7

/-- The sequencer's reaction to a report from another block (R121, R131). -/
def State.psqReact (s : State) : State := if s.psq.phase = .active then State.advance stepFuel .report s else s

/-- A report of the total collector current: to a ramped open first, then to RAMP (R105, R122, R174; log 2). -/
def State.reportTotal (s : State) : State :=
  let s1 := s.rampReport
  if s1.psq.phase = .active ∧ s1.psq.step = some .ramp then State.advance stepFuel .total s1 else s1

/-- The sequencer's ramp timer expires (R122). -/
def State.psqRampExpiry (s : State) : State :=
  if s.psq.phase = .active ∧ s.psq.step = some .ramp ∧ s.psq.rampTimer.isSome then
    State.advance stepFuel .start (s.startStep .openBrk)
  else s

/-- The confirm timer expires (R130). -/
def State.confirmExpiry (s : State) : State :=
  if s.psq.phase = .active ∧ s.psq.step = some .confirm ∧ s.psq.confirmTimer.isSome then
    if s.lsu.confirmed = .none then s.closeActive .doneNoVoltage s.psq.step
    else s.abortWith .wrongSystem s.psq.step
  else s

/-- A change of the confirmed system restarts the confirm timer (R130), with CONFIRM_TIMEOUT read afresh (DEDUCED, log 36). -/
def State.confirmRestart (s : State) : State :=
  if s.psq.phase = .active ∧ s.psq.step = some .confirm then
    { s with psq := { s.psq with confirmTimer := ms s.confirmTimeout } }
  else s

/-! ### The estimate update (R115) -/

/-- An entry's status replaced in the queue. -/
def State.setStatus (e : Entry) (st : EntryStatus) (s : State) : State :=
  { s with teq := { s.teq with entries := s.teq.entries.map (fun x => if x = e then { x with status := st } else x) } }

/-- Arming (R95, R119). -/
def State.arm (e : Entry) (s : State) : State :=
  let s1 := s.setStatus e .armed
  { s1 with psq := { s1.psq with phase := .armed, plan := some ⟨e.tag, e.kind, e.start, e.len⟩, oLead := some s.oLeadNow,
                                 oRear := some s.oRearNow } }.csHoldOn

/-- Activation: T_lead fixed, SEQ held, RAMP started and followed as far as it goes (R120, R121). -/
def State.activate (e : Entry) (s : State) : State :=
  let s1 := s.setStatus e .active
  let s2 : State := { s1 with psq := { s1.psq with phase := .active, tLead := some (s.tLeadNow e.kind), seqHeld := true,
                                                   emergency := false } }
  State.advance stepFuel .start (s2.holdSeq.startStep .ramp)

/-- The deadline tests of an ACTIVE entry: the emergency open, and for lowering kinds the LOWER_LATE abort in RAMP, OPEN
or LOWER (R125, R126). The last step recorded is the step in progress at the update (log 13). -/
def State.deadlineTests (deadline : Pos) (s : State) : State :=
  if s.psq.phase = .active ∧ reached s.pe.e deadline then
    let wasShut := s.bki.shut
    let s1 : State := if s.bki.state = .opened then s
      else { s with psq := { s.psq with emergency := s.psq.emergency || wasShut } }.openNow
    let late := (s.psq.step = some .ramp ∨ s.psq.step = some .openBrk ∨ s.psq.step = some .lower) ∧
      (s.psq.plan.map (fun p => p.kind.lowers)).getD false ∧ s.allLowered = false
    if late then (s1.setHolds .fast).abortWith .lowerLate s.psq.step else s1
  else s

/-- The sequencer at an estimate update (R115): the points of the nearest section entry, arming, activation, then the
position and deadline tests of an ACTIVE entry. -/
def State.psqUpdate (s : State) : State :=
  if s.teq.halted then s
  else
    match s.teq.nearest with
    | none => s
    | some e =>
      let p := s.pointsOf e
      let s1 : State := { s with psq := { s.psq with lastPoints := some p } }
      let s2 := if e.status = .queued ∧ reached p.e p.arming ∧ s1.cleared e = false then s1.arm e else s1
      let e2 : Entry := if e.status = .queued then { e with status := .armed } else e
      let s3 := if e2 ∈ s2.teq.entries ∧ e2.status = .armed ∧ reached p.e p.a ∧ s2.cleared e2 = false
        then s2.activate e2 else s2
      let s4 := s3.deadlineTests p.deadline
      if s4.psq.phase = .active then State.advance stepFuel .update s4 else s4

/-- The last points are kept only while a section entry is queued and the queue is not HALTED (R114, R115; at every event,
DEDUCED, log 18). -/
def State.pointsTidy (s : State) : State :=
  if s.teq.halted ∨ s.teq.sectionQueued = false then { s with psq := { s.psq with lastPoints := none } } else s

end Sys2Proof.Machine
end

