-- ==== Sys2Proof/Machine/IceOps.lean ====
section
/-! DEFINITION. The Ice Unit (08): counts and gates (R140, R141), the checks and the temperature arithmetic (R142 to
R145), the ambient band (R146), requests, grants and drive (R147 to R149), the heater-fault latch (R150), and the ice
level (R154 to R157). -/

namespace Sys2Proof.Machine

/-! ### Counts and gates -/

/-- One rising edge counted; at 65,535 the overflow mark is set (R141). -/
def Count.edge (c : Count) : Count := if 65535 ≤ c.n then { n := 65535, ovf := true } else { c with n := c.n + 1 }

/-- The channel after one in the scan (R140). -/
def Channel.next : Channel → Channel
  | .ref => .strip .ps0
  | .strip .ps0 => .strip .ps1
  | .strip .ps1 => .strip .ps2
  | .strip .ps2 => .strip .ps3
  | .strip .ps3 => .amb
  | .amb => .ref

/-- The start of a channel's gate in scan time, in ms (R140). -/
def Channel.startMs : Channel → Nat
  | .ref => 0
  | .strip k => 50 + 50 * k.num
  | .amb => 250

/-- The drive line asserted for a channel: RFC_D0 for REF, RFC_D1 to RFC_D4 for S0 to S3, RFC_D5 for AMB (R140). -/
def Icu.rfcDrive (i : Icu) : Nat :=
  match i.chan with
  | .ref => 0
  | .strip k => 1 + k.num
  | .amb => 5

/-- The count stored as the channel's last count (R140). -/
def Icu.storeCount (i : Icu) : Icu :=
  match i.chan with
  | .ref => { i with lastRef := i.count }
  | .strip k => { i with lastStrip := i.lastStrip.set k i.count }
  | .amb => { i with lastAmb := i.count }

/-- The end of a gate: the count is stored and the next gate begins with a count of 0 (R140, R141). -/
def Icu.gateEnd (i : Icu) : Icu := { i.storeCount with chan := i.chan.next, gate := ms 50, count := .zero }

/-! ### Checks and temperatures -/

/-- The reference state from the last count of REF: true is FAULT (R142). -/
def refFaulty (c : Count) : Bool := c.ovf || decide (c.n < 30000) || decide (50000 < c.n)

/-- The fault kind of a sensor channel (R143). -/
def faultOf (c : Count) : SensorFault := if c.ovf then .short else if c.n < 16000 then .opened else .none

/-- The temperature before the clamp, from the reference count and the channel's count (R144). -/
def rawTemp (nRef nx : Nat) : Int := roundDiv (((10000 * nRef / nx : Nat) - 10000 : Int) * 100) 385

/-- A temperature clamped to −500..1,500 (R144). -/
def clampTemp (t : Int) : Int := if t < -500 then -500 else if 1500 < t then 1500 else t

/-- A sensor channel after a scan (R142 to R144). -/
def Sensor.scan (refFault : Bool) (ref c : Count) (x : Sensor) : Sensor :=
  let f := faultOf c
  if refFault ∨ f ≠ .none then { x with fault := f, valid := false }
  else
    let t := rawTemp ref.n c.n
    { fault := f, temp := clampTemp t, valid := true, clamped := decide (clampTemp t ≠ t) }

/-- A sensor channel newly OPEN or SHORT (R145). -/
def newFault (before after : Sensor) : Bool := decide (after.fault ≠ .none) && decide (after.fault ≠ before.fault)

/-- The ambient band (R146). -/
def bandOf (amb : Sensor) : Nat :=
  if amb.valid then (if amb.temp ≤ -100 then 0 else if amb.temp ≤ 30 then 1 else 2) else 1

/-! ### Requests, grants and drive -/

/-- The target temperature of an ice level above 0 (R147). -/
def heaterTarget : Nat → Int
  | 1 => 30
  | 2 => 80
  | 3 => 150
  | _ => 0

/-- The heater request of a slot at a scan completion (R147). -/
def requestOf (level : Nat) (role : Role) (x : Sensor) (latch granted : Bool) : Bool :=
  decide (level ≠ 0) && decide (role ≠ .stow) && x.valid && !latch &&
    (decide (x.temp < heaterTarget level - 20) || (granted && decide (x.temp < heaterTarget level)))

/-- The slot k comes before the slot j for the arbiter: COLLECT before SWEEP, then the lower temperature, then the
lower number (R148). -/
def arbiterBefore (roles : PerSlot Role) (strip : PerSlot Sensor) (k j : SlotId) : Bool :=
  let ck := decide (roles.get k = .collect)
  let cj := decide (roles.get j = .collect)
  if ck ≠ cj then ck
  else if (strip.get k).temp ≠ (strip.get j).temp then decide ((strip.get k).temp < (strip.get j).temp)
  else decide (k.num < j.num)

/-- The slots, in order of number. -/
def allSlots : List SlotId := [.ps0, .ps1, .ps2, .ps3]

/-- The grants: a requesting slot with fewer than two requesting slots before it (R148). -/
def grantsOf (request : PerSlot Bool) (roles : PerSlot Role) (strip : PerSlot Sensor) : PerSlot Bool :=
  .of (fun k => request.get k &&
    decide ((allSlots.filter (fun j => request.get j && arbiterBefore roles strip j k)).length < 2))

/-- The drive time D of a duty code in ms (R149). -/
def driveMs (code : Nat) : Nat := [50, 67, 100, 200].getD code 0

/-- The start of a slot's blanking window in ms; it lasts 100 ms (R149). -/
def blankStart (k : SlotId) : Nat := 50 * k.num

/-- A granted slot's heater is driven at a scan time in µs: outside the blanking window, for the first D ms outside it
(R149). -/
def drivenAt (k : SlotId) (duty t : Nat) : Bool :=
  let b := blankStart k * 1000
  if t < b then decide (t < driveMs duty * 1000)
  else if t < b + 100000 then false
  else decide (t - 100000 < driveMs duty * 1000)

/-- The scan time in µs: the start of the gate in progress and what of it has passed (R140). -/
def Icu.scanTime (i : Icu) : Nat := i.chan.startMs * 1000 + (50000 - i.gate.getD 0)

/-- HTR_k takes its level for the scan time (R149). -/
def Icu.drive (i : Icu) (k : SlotId) : Bool := i.grant.get k && drivenAt k i.duty i.scanTime

/-- Every HTR_k takes its level for the scan time (R149; at a gate end and a scan completion, DEDUCED, log 21). -/
def Icu.driveAll (i : Icu) : Icu := { i with htr := .of i.drive }

/-! ### The ice level -/

/-- R: the largest arc sum among the slots whose role in effect is COLLECT, or 0 (R154). -/
def Icu.arcPeak (i : Icu) : Nat :=
  (PerSlot.of (fun k => if i.roles.get k = .collect then i.arcs.get k else 0)).toList.foldl max 0

/-- The computed level (R154). -/
def computedOf (band r : Nat) : Nat :=
  if band = 2 then 0
  else if band = 0 ∧ 5 ≤ r then 2
  else if band = 1 ∧ 20 ≤ r then 2
  else if band = 1 ∧ 5 ≤ r then 1
  else 0

/-- The computed level recomputed, and the measured level after it (R154, R155). -/
def Icu.recompute (i : Icu) : Icu :=
  let c := computedOf i.ambBand i.arcPeak
  if i.measured < c then { i with computed := c, measured := c, fall := none }
  else if c = i.measured then { i with computed := c, fall := none }
  else { i with computed := c, fall := if i.fall.isSome then i.fall else ms 30000 }

/-- The term Demand ice adds (R156). -/
def IceDemand.force : IceDemand → Nat
  | .auto => 0
  | .off => 0
  | .force1 => 1
  | .force2 => 2
  | .force3 => 3

/-- The ice level of the inputs (R156). -/
def Icu.levelNow (i : Icu) : Nat :=
  if i.iceDemand = .off then 0 else max (max i.zoneHint i.measured) i.iceDemand.force

/-- The ice level recomputed; a change raises ICE_LEVEL (R156, R157). -/
def State.iceLevelUpdate (s : State) : State :=
  { s with icu := { s.icu with iceLevel := s.icu.levelNow } }.raiseIf (decide (s.icu.levelNow ≠ s.icu.iceLevel)) .iceLevel

/-- The inputs as the neighbours hand them on: roles, zone hint, Demand ice and arc sums; the computed, measured and
ice levels follow (R154 to R158). -/
def State.icuReact (s : State) : State :=
  let i1 : Icu := { s.icu with roles := s.slots.map (fun x => x.role), zoneHint := s.teq.hint, iceDemand := s.cs.demand.ice,
                               arcs := s.csu.buckets.map arcSum }
  { s with icu := i1.recompute }.iceLevelUpdate

/-! ### A scan completion (R153) -/

/-- Over-temperature of a slot that held a grant (R150). -/
def overTemp (granted : Bool) (x : Sensor) : Bool := granted && x.valid && decide (600 < x.temp)

/-- Steps 1 to 6 of R153 on the Ice Unit's own state, without the flags. -/
def Icu.scanChecks (i : Icu) : Icu :=
  let rf := refFaulty i.lastRef
  let strip := PerSlot.of (fun k => (i.strip.get k).scan rf i.lastRef (i.lastStrip.get k))
  let amb := i.amb.scan rf i.lastRef i.lastAmb
  let latch := PerSlot.of (fun k => i.heaterFault.get k || overTemp (i.grant.get k) (strip.get k))
  { i with refFault := rf, strip := strip, amb := amb, scans := (i.scans + 1) % 65536, ambBand := bandOf amb,
           heaterFault := latch }.recompute

/-- SENSOR_FAULT rises (R145). -/
def sensorFaultRises (before after : Icu) : Bool :=
  (after.refFault && !before.refFault) || newFault before.amb after.amb ||
    allSlots.any (fun k => newFault (before.strip.get k) (after.strip.get k))

/-- HEATER_FAULT rises (R150). -/
def heaterFaultRises (before after : Icu) : Bool :=
  allSlots.any (fun k => after.heaterFault.get k && !before.heaterFault.get k)

/-- Steps 7 and 8 of R153: the requests against the ice level, the grants, and the duty of the coming scan. -/
def Icu.scanGrants (duty : Nat) (i : Icu) : Icu :=
  let req := PerSlot.of (fun k => requestOf i.iceLevel (i.roles.get k) (i.strip.get k) (i.heaterFault.get k) (i.grant.get k))
  { i with request := req, grant := grantsOf req i.roles i.strip, duty := duty }

/-- A scan completion, in the order of R153, on a scan whose AMB gate has ended. -/
def State.scanComplete (s : State) : State :=
  let i1 := s.icu.scanChecks
  let s1 := (({ s with icu := i1 }.raiseIf (sensorFaultRises s.icu i1) .sensorFault).raiseIf
    (heaterFaultRises s.icu i1) .heaterFault).iceLevelUpdate
  { s1 with icu := (s1.icu.scanGrants s1.heaterDuty).driveAll }

end Sys2Proof.Machine
end

