-- ==== Sys2Proof/Machine/LineOps.lean ====
section
/-! DEFINITION. The Line Sense Unit (03): samples and magnitude (R40, R41), classification (R43), confirmation (R44,
R45), over-voltage (R47 to R49) and line loss (R51). -/

namespace Sys2Proof.Machine

/-- One bit of the integer square root: the bit is kept when the square stays within n. -/
def sqrtBit (n r i : Nat) : Nat := if (r + 2 ^ i) * (r + 2 ^ i) ≤ n then r + 2 ^ i else r

/-- The floored square root of a number below 2^32, bit by bit (R41). -/
def sqrt32 (n : Nat) : Nat :=
  [15, 14, 13, 12, 11, 10, 9, 8, 7, 6, 5, 4, 3, 2, 1, 0].foldl (sqrtBit n) 0

/-- A sample in volts: at or above full scale it reads 40,000 V (R40). -/
def lineSample (volts : Nat) : Nat := min 40000 volts

/-- A sample added to the accumulation of the window in progress (R40). -/
def Lsu.addSample (l : Lsu) (volts : Nat) : Lsu :=
  { l with accN := l.accN + 1, accSum := l.accSum + lineSample volts,
           accSq := l.accSq + lineSample volts * lineSample volts, magTimer := some 100 }

/-- The magnitude of the window in progress: root mean square with a period, mean absolute value without (R41). A
window without samples has a free value (log 8). -/
def Lsu.magnitude (l : Lsu) (period : Option Nat) : Nat :=
  if l.accN = 0 then Config.emptyWindowMagnitude.val
  else
    match period with
    | some _ => sqrt32 (l.accSq / l.accN)
    | none => l.accSum / l.accN

/-- The period lies in the range. -/
def periodIn (p : Option Nat) (lo hi : Nat) : Bool :=
  match p with
  | some x => decide (lo ≤ x) && decide (x ≤ hi)
  | none => false

/-- The class of a window (R43). -/
def classify (p : Option Nat) (m : Nat) : LineClass :=
  if m < 500 then .none
  else if periodIn p 19000 21000 ∧ 17500 ≤ m ∧ m ≤ 29000 then .sys .a50
  else if periodIn p 56000 64000 ∧ 11000 ≤ m ∧ m ≤ 18000 then .sys .a16
  else if p = none ∧ 2000 ≤ m ∧ m ≤ 3900 then .sys .d30
  else if p = none ∧ 1000 ≤ m ∧ m ≤ 1950 then .sys .d15
  else .unknown

/-- The window is an over window against an expected system (R47). -/
def overWindow (expected : Option LineSystem) (p : Option Nat) (m : Nat) : Bool :=
  match expected with
  | none => false
  | some .a50 => periodIn p 19000 21000 && decide (29000 < m)
  | some .a16 => periodIn p 56000 64000 && decide (18000 < m)
  | some .d30 => p.isNone && decide (3900 < m)
  | some .d15 => p.isNone && decide (3900 < m)

/-- A new window begins (R38, R39). -/
def Lsu.newWindow (l : Lsu) (anchored : Bool) : Lsu :=
  { l with counter := 0, anchored := anchored, accN := 0, accSum := 0, accSq := 0 }

/-- The candidate after a window's class (R44). -/
def Lsu.candidate (l : Lsu) (c : LineClass) : Lsu :=
  if l.cand = some c then { l with candCount := min 3 (l.candCount + 1) }
  else { l with cand := some c, candCount := 1 }

/-- The confirmed system after the candidate (R45). -/
def Lsu.confirm (l : Lsu) : Lsu :=
  match l.cand with
  | some c => if l.candCount = 3 then { l with confirmed := c } else l
  | none => l

/-- The over-window count and the latch after a window (R48, R49). -/
def Lsu.overCheck (l : Lsu) (isOver : Bool) : Lsu :=
  let n := if isOver then min 3 (l.overCount + 1) else 0
  { l with overCount := n, overvolt := l.overvolt || decide (n = 3) }

/-- A completed window processed whole, in the order of R42. -/
def Lsu.complete (l : Lsu) (expected : Option LineSystem) (period : Option Nat) : Lsu :=
  let m := l.magnitude period
  let c := classify period m
  let l1 : Lsu := { l with last := some ⟨period, m, c⟩, windows := (l.windows + 1) % 65536 }
  ((l1.candidate c).confirm).overCheck (overWindow expected period m)

/-- What a completed window hands on: SYS_CHANGE, LINE_LOSS, OVERVOLT, and the restart of the confirm timer (R45, R46,
R49, R51, R130). -/
def State.windowComplete (period : Option Nat) (anchored : Bool) (s : State) : State :=
  let l := s.lsu.complete s.cs.demand.expected period
  let changed := decide (l.confirmed ≠ s.lsu.confirmed)
  let s1 : State := { s with lsu := l.newWindow anchored }
  let s2 := ((s1.raiseIf changed .sysChange).raiseIf
    (changed && decide (l.confirmed = .none) && decide (s.bki.state = .closed) && !s.teq.anyActive) .lineLoss).raiseIf
    (l.overvolt && !s.lsu.overvolt) .overvolt
  if changed then s2.confirmRestart else s2

/-- A rising crossing: ignored within 2,000 µs of the last accepted one; otherwise it completes an ANCHORED window or
abandons an UNANCHORED one, and anchors the next (R37 to R39). -/
def State.crossing (s : State) : State :=
  if s.lsu.sinceCross < 2000 then s
  else
    let s1 : State := { s with lsu := { s.lsu with sinceCross := 0 } }
    if s.lsu.anchored then s1.windowComplete (some s.lsu.counter) true
    else { s1 with lsu := s1.lsu.newWindow true }

/-- The last completed window is an over window against the expected system now held (R50). -/
def State.overvoltPersists (s : State) : Bool :=
  match s.lsu.last with
  | some w => overWindow s.cs.demand.expected w.period w.magnitude
  | none => false

end Sys2Proof.Machine
end

