-- ==== Sys2Proof/Machine/HandOn.lean ====
section
/-! DEFINITION. Handing on: what the blocks do with one another's results inside a step (R15, R33, R46, R79, R112,
R138, R158, R174; log 2). Each reaction compares what it held with what its neighbours now hold. -/

namespace Sys2Proof.Machine

/-- The Collection Supervisor takes its inputs; a change of a role in effect is a report of the total (R163, R174). -/
def State.csuReact (s : State) : State :=
  let s1 := s.csuInputs
  if s1.csu.roles = s.csu.roles then s1 else s1.reportTotal

/-- The wrong-system condition is tested; when it becomes true with the latch clear, the latch is set and its flag rises
(R110). -/
def State.wrongTest (s : State) : State :=
  let w := s.wrongNow
  let sets := w && !s.bki.wrongCond && !s.bki.wrongLatch
  { s with bki := { s.bki with wrongCond := w, wrongLatch := s.bki.wrongLatch || sets } }.raiseIf sets .wrongSystem

/-- In CLOSED: what opens the breaker at once (R103). A section entry that is ACTIVE beyond its RAMP step is in the list
to keep the law whole; OPEN's own request has opened the breaker before it is met (DEDUCED, log 29). -/
def State.mustOpen (s : State) : Bool :=
  !s.itemsNow.a || !s.itemsNow.c || !s.itemsNow.e ||
    (s.teq.anyActive && decide (s.psq.step ≠ some .ramp))

/-- The items (a) to (g) are tested, and the results kept for READ_BREAKER (R99, R101). -/
def State.testItems (s : State) : State := { s with bki := { s.bki with items := s.itemsNow } }

/-- The close interlock: OPEN tests the items and closes when all hold; CLOSING tests them and is abandoned when one fails;
CLOSED opens on the events of R103 and keeps the results as last tested, as OPENING and FAILED do (R101, R102, R103;
DEDUCED, log 29). -/
def State.interlock (s : State) : State :=
  match s.bki.state with
  | .opened =>
    if s.itemsNow.all then s.testItems.brkEnterClosing
    else { s.testItems with bki := { s.testItems.bki with hold := false } }
  | .closing => if s.itemsNow.all then s.testItems else s.testItems.brkEnterOpening
  | .closed => if s.mustOpen then s.brkEnterOpening else s
  | .opening => { s with bki := { s.bki with hold := false } }
  | .failed => { s with bki := { s.bki with hold := false } }

/-- The Breaker Interface's reaction: the wrong-system test, the interlock, and then the abort of a passage on the rise of
the latch (R101 to R103, R110, R132). Where that rise also takes the breaker out of CLOSED in RAMP, the abort comes before RAMP could
end, and records RAMP as the last step (DESIGN CHOICE, log 41). -/
def State.bkiReact (s : State) : State :=
  let s1 := s.wrongTest
  let s2 := s1.interlock
  if s1.bki.wrongLatch ∧ s.bki.wrongLatch = false ∧ s2.psq.phase = .active then s2.abortWith .wrongSystem s2.psq.step
  else s2

/-- The Pantograph Units take the breaker report (R75): the state the Breaker Interface has once all its changes of the event are
made (R112). An OPEN that becomes CLOSING at the same event is no report of OPEN (DESIGN CHOICE, log 42). -/
def State.puReact (s : State) : State := s.mapSlots (Slot.brkReport s.puCtx)

/-- The ice level, the Condition Vector, the limits and the interlock, in that order. -/
def State.settle (s : State) : State := s.icuReact.csReact.csuReact.bkiReact

/-- One round of handing on: the units and the sequencer, then the rest. -/
def State.round (s : State) : State := s.puReact.psqReact.settle

/-- Rounds made at one event. Each hand-over path of 00 is shorter. -/
def roundCount : Nat := 8

/-- A number of rounds. -/
def State.rounds : Nat → State → State
  | 0, s => s
  | n + 1, s => State.rounds n s.round

/-- Everything one event sets going, until nothing is left to hand on (log 2). The Breaker Interface settles before the units take
its report (DESIGN CHOICE, log 42). -/
def State.handOn (s : State) : State := (State.rounds roundCount s.settle).pointsTidy

/-- An estimate update: the sequencer acts, then the queue skips passed sections, then the ice zones are taken, then the
results are handed on (R15, R27, R31, R115; log 2). -/
def State.estimateUpdate (s : State) : State := s.psqUpdate.skipAll.zonesAll.handOn

/-- An event of one Pantograph Unit: the slot's new record, its flags, and the hand-over (R79). -/
def State.slotEvent (k : SlotId) (r : Slot × List Flag) (s : State) : State :=
  ({ s with slots := s.slots.set k r.1 }.raiseAll r.2).handOn

end Sys2Proof.Machine
end

