-- ==== Sys2Proof/Machine/LinkOps.lean ====
section
/-! DEFINITION. The Link Interface (11): the receiver (R187), taking a frame (R189, R194), service (R189), the transmitter
(R190), notices (R182), and the pending command change (R191 to R193). -/

namespace Sys2Proof.Machine

/-- The state of one link replaced. -/
def State.updLink (s : State) (l : Link) (f : LinkState → LinkState) : State :=
  { s with lif := { s.lif with link := s.lif.link.set l (f (s.lif.link.get l)) } }

/-- The state of one link. -/
def State.linkOf (s : State) (l : Link) : LinkState := s.lif.link.get l

/-! ### Command changes (R191 to R193) -/

/-- A command change is pending (R193). -/
def Lif.changePending (x : Lif) : Bool := x.take.isSome || x.selChange.isSome || x.pass.isSome

/-- No request is under service on a link, apart from the pending take itself (R193). -/
def Lif.idleForChange (x : Lif) (l : Link) : Bool :=
  !(x.link.get l).serving ||
    (match x.take with
     | some (t, _) => decide (t = l)
     | none => false)

/-- The pending change is due: no request is under service on either link, apart from the pending take (R193). -/
def Lif.changeDue (x : Lif) : Bool := x.changePending && x.idleForChange .a && x.idleForChange .b

/-- The holder is SILENT (R192, R194). -/
def Lif.holderSilent (x : Lif) : Bool :=
  match x.holder with
  | some h => !(x.link.get h).live
  | none => false

/-- The holder and priority written; HANDOVER rises if the holder changed (R191, R193). -/
def State.setHolder (h : Option Link) (prio : Option Nat) (s : State) : State :=
  { s with lif := { s.lif with holder := h, prio := prio } }.raiseIf (decide (h ≠ s.lif.holder)) .handover

/-- A reply formed for the request under service: it is sent at once if the transmitter is IDLE, and otherwise stands
ready (R190). -/
def State.sendReply (l : Link) (code : Nat) (a : Answer) (s : State) : State :=
  let frame := mkFrame (code + 0x80) a.payload
  s.updLink l (fun x =>
    match x.tx with
    | .idle => { x with tx := .reply frame }
    | .reply _ => { x with ready := some frame }
    | .notice _ => { x with ready := some frame })

/-- The holder and the holder priority, as a TAKE_COMMAND reply carries them (R192; log 10). -/
def Lif.holderItems (x : Lif) : List Item := [.small 2 (holderCode x.holder), .small 3 (x.prio.getD 0)]

/-- A TAKE_COMMAND reply (R192). -/
def State.takeAnswer (s : State) (st : Status) : Answer := ⟨st, s.lif.holderItems⟩

/-- The SEL level applied: LOW and HIGH name the holder with no priority; OPEN keeps the holder with priority 1
(R191). -/
def State.applySel (lvl : SelLevel) (s : State) : State :=
  let s1 : State := { s with lif := { s.lif with selInForce := lvl } }
  match lvl with
  | .low => s1.setHolder (some .a) none
  | .high => s1.setHolder (some .b) none
  | .opened => s1.setHolder s.lif.holder (s.lif.holder.map (fun _ => 1))

/-- The granted take applied, judged again when SEL is driven, and its reply formed (R192, R193). -/
def State.applyTake (l : Link) (prio : Nat) (s : State) : State :=
  if s.lif.selInForce = .opened then
    let s1 := s.setHolder (some l) (some prio)
    s1.sendReply l Req.takeCommand.code (s1.takeAnswer .ok)
  else s.sendReply l Req.takeCommand.code (s.takeAnswer .fixedSel)

/-- The pass on silence applied, unless it lapses (R193, R194). -/
def State.applyPass (l : Link) (s : State) : State :=
  if s.lif.holderSilent ∧ (s.linkOf l).live then s.setHolder (some l) (some 1) else s

/-- The pending change taken out, and its parts applied: the level first, then the take, then the pass (R193). -/
def State.applyParts (s : State) : State :=
  let s0 : State := { s with lif := { s.lif with take := none, selChange := none, pass := none } }
  let s1 := match s.lif.selChange with
    | some lvl => s0.applySel lvl
    | none => s0
  let s2 := match s.lif.take with
    | some (l, p) => s1.applyTake l p
    | none => s1
  match s.lif.pass with
  | some l => s2.applyPass l
  | none => s2

/-- A pass on silence that arose while another change was pending is made pending after it, if SEL is OPEN, the holder
SILENT and the other link LIVE (R193; DEDUCED, log 19). -/
def State.deferredPass (s : State) : State :=
  let s1 : State := { s with lif := { s.lif with passDeferred := false } }
  match s.lif.passDeferred, s.lif.holder with
  | true, some h =>
    if s.lif.sel.acc = .opened ∧ s.lif.holderSilent ∧ (s.linkOf h.other).live then
      { s1 with lif := { s1.lif with pass := some h.other } }
    else s1
  | true, none => s1
  | false, _ => s1

/-- The pending change takes effect if it is due (R193). A deferred pass that is due at the same moment takes effect
behind it. -/
def State.changeEffect (s : State) : State :=
  if s.lif.changeDue then
    let s1 := s.applyParts.deferredPass
    if s1.lif.changeDue then s1.applyParts else s1
  else s

/-- A pass on silence to a link is made pending, or deferred while a take or a level change is pending (R193, R194). -/
def State.makePass (l : Link) (s : State) : State :=
  if s.lif.take.isSome ∨ s.lif.selChange.isSome then { s with lif := { s.lif with passDeferred := true } }
  else { s with lif := { s.lif with pass := some l } }

/-- The accepted SEL level changes to the raw level, and the change is made pending (R191, R193). Back at the level in
force, a pending level change lapses. -/
def State.selAccepted (s : State) : State :=
  let lvl := s.lif.sel.raw
  let lapse := decide (lvl = s.lif.selInForce)
  { s with lif := { s.lif with
      sel := { s.lif.sel with acc := lvl, wait := none }, selChange := if lapse then none else some lvl, pass := none,
      passDeferred := s.lif.passDeferred && (!lapse || s.lif.take.isSome) } }.changeEffect

/-! ### Receiving (R187, R189, R194) -/

/-- A discard of the frame in progress (R187). -/
def LinkState.discard (x : LinkState) : LinkState :=
  { x with rx := .hunting, gap := none, counters := { x.counters with discards := x.counters.discards + 1 } }

/-- The check bytes of a frame match its check (R188). -/
def checkOk (bs : List Byte) : Bool :=
  decide (field bs (bs.length - 2) 2 = (check (bs.take (bs.length - 2))).toNat)

/-- A valid frame makes the link LIVE and restarts its supervision (R194). -/
def State.linkAlive (l : Link) (s : State) : State :=
  let was := (s.linkOf l).live
  let s1 := s.updLink l (fun x => { x with live := true, silence := ms s.linkSilent, since := 0 })
  if was = false ∧ s1.lif.sel.acc = .opened ∧ s1.lif.holderSilent then (s1.makePass l).changeEffect else s1

/-- A valid frame is taken: not a request, overrun, or appended to the buffer (R189). -/
def State.takeFrame (l : Link) (bs : List Byte) (s : State) : State :=
  let type := field bs 0 1
  let x := s.linkOf l
  if 0x80 ≤ type then
    s.updLink l (fun x => { x with counters := { x.counters with discards := x.counters.discards + 1 } })
  else if 2 ≤ x.buffer.length then
    (s.updLink l (fun x => { x with counters := { x.counters with overruns := x.counters.overruns + 1 } })).raise .linkErr
  else
    s.updLink l (fun x => { x with buffer := x.buffer ++ [⟨type, (bs.drop 2).take (field bs 1 1)⟩],
                                   counters := { x.counters with accepted := x.counters.accepted + 1 } })

/-- A change of the command holder is handed on: it is an item of the close interlock (R101, item b). -/
def State.holderHandOn (before : Option Link) (s : State) : State := if s.lif.holder = before then s else s.handOn

/-- A frame completes: the check is tested, and a valid frame restarts supervision and is taken (R187, R189, R194). -/
def State.frameComplete (l : Link) (bs : List Byte) (s : State) : State :=
  let s1 := s.updLink l (fun x => { x with rx := .hunting, gap := none })
  if checkOk bs then ((s1.linkAlive l).takeFrame l bs).holderHandOn s.lif.holder
  else (s1.updLink l (fun x => { x with counters := { x.counters with checkErrors := x.counters.checkErrors + 1 } })).raise .linkErr

/-- The number of bytes from TYPE to the last check byte of a frame, once its LEN byte is there (R199). -/
def frameTotal (bs : List Byte) : Nat := field bs 1 1 + 4

/-- A byte without a stop-bit error (R187). -/
def State.receive (l : Link) (b : Byte) (s : State) : State :=
  match (s.linkOf l).rx with
  | .hunting => if b = 0xA5#8 then s.updLink l (fun x => { x with rx := .inFrame [], gap := some 2000 }) else s
  | .inFrame bs =>
    let bs1 := bs ++ [b]
    if bs1.length = 2 ∧ 56 < field bs1 1 1 then s.updLink l LinkState.discard
    else if 4 ≤ bs1.length ∧ bs1.length = frameTotal bs1 then s.frameComplete l bs1
    else s.updLink l (fun x => { x with rx := .inFrame bs1, gap := some 2000 })

/-- The next byte on the link is the last check byte of a frame (R187). -/
def State.lastByteNext (l : Link) (s : State) : Bool :=
  match (s.linkOf l).rx with
  | .hunting => false
  | .inFrame bs => decide (3 ≤ bs.length) && decide (bs.length + 1 = frameTotal bs)

/-! ### Service (R189, R190) -/

/-- The oldest request of a link can start service: none is under service, the transmitter has finished the previous
reply, and no command change is pending (R189). -/
def State.canServe (l : Link) (s : State) : Option Request :=
  let x := s.linkOf l
  let free := match x.tx with
    | .idle => true
    | .notice _ => true
    | .reply _ => false
  if !x.serving && x.ready.isNone && free && !s.lif.changePending then x.buffer.head? else none

/-- The request is under service (R189). -/
def State.beginService (l : Link) (s : State) : State := s.updLink l (fun x => { x with serving := true })

/-- A request that no test refuses goes to its owner; an owner that answers nothing is a take granted (R189, R192). -/
def State.serveOwner (l : Link) (code : Nat) (p : List Byte) (owner : List Byte → State → State × Option Answer)
    (s : State) : State :=
  match owner p (s.beginService l) with
  | (s1, some a) => s1.sendReply l code a
  | (s1, none) => s1

/-- Service of a request on a link: the tests of R189 in order, then the owner. Without such a request at the front of
the link's buffer, able to start, nothing happens (log 6). -/
def State.serve (l : Link) (r : Req) (owner : List Byte → State → State × Option Answer) (s : State) : State :=
  match s.canServe l with
  | none => s
  | some q =>
    if q.code ≠ r.code then s
    else if q.payload.length ≠ r.len then (s.beginService l).sendReply l r.code (.just .badLength)
    else if r.changes ∧ s.lif.holder ≠ some l then (s.beginService l).sendReply l r.code (.just .notCommanding)
    else s.serveOwner l r.code q.payload owner

/-- An owner that changes nothing and answers. -/
def readOnly (f : List Byte → State → Answer) : List Byte → State → State × Option Answer :=
  fun p s => (s, some (f p s))

/-! ### Sending (R182, R190) -/

/-- A notice is taken for a link: its pending is cleared and the frame carries the contents held (R182, R190). -/
def State.startNotice (l : Link) (s : State) : State :=
  let frame := mkFrame 0xFF (summaryBytes s)
  { s with fnu := { s.fnu with notice := s.fnu.notice.set l false } }.updLink l (fun x => { x with tx := .notice frame })

/-- An IDLE transmitter starts the next frame: a ready reply, else a notice that is pending (R190). -/
def State.startNext (l : Link) (s : State) : State :=
  match (s.linkOf l).tx, (s.linkOf l).ready with
  | .idle, some f => s.updLink l (fun x => { x with tx := .reply f, ready := none })
  | .idle, none => if s.fnu.notice.get l then s.startNotice l else s
  | .reply _, _ => s
  | .notice _, _ => s

/-- The last byte of the frame being sent goes out (R189, R190, R197). A pending change is left to COMMAND_CHANGE_EFFECT
(DESIGN CHOICE, log 28). -/
def State.frameEnd (l : Link) (s : State) : State :=
  match (s.linkOf l).tx with
  | .idle => s
  | .notice _ => (s.updLink l (fun x => { x with tx := .idle })).startNext l
  | .reply _ =>
    if s.lif.resetDue = some l then s.resetPart
    else (s.updLink l (fun x => { x with tx := .idle, serving := false, buffer := x.buffer.tail })).startNext l

end Sys2Proof.Machine
end

