-- ==== Sys2Proof/Machine/Breaker.lean ====
section
/-! DEFINITION. The Breaker Interface's commands (06): READ_BREAKER, the aux changes, and its timers. -/

namespace Sys2Proof.Machine

/-- READ_BREAKER's answer (R113). The four closing inhibit latches stand in the order of R201's latch names (DESIGN CHOICE, log
34); an item that holds and a latch that is set read 1 (DESIGN CHOICE, log 33). -/
def breakerAnswer (_p : List Byte) (s : State) : Answer :=
  let b := s.bki
  let i := b.items
  ⟨.ok,
    [.small 3 b.state.code] ++ optSmall 1 (b.kind.map FailKind.code) ++
    [.bool b.aux.acc, .bool b.hold, .bool b.ramp.isSome, .wide 2 (timeLeft b.sup), .wide 2 (timeLeft b.reclose),
     .wide 2 (timeLeft b.tripWindow)] ++
    [.bool s.lsu.overvolt, .bool b.wrongLatch, .bool s.csu.overloadLatch, .bool b.brkFault] ++
    [.bool i.a, .bool i.b, .bool i.c, .bool i.d, .bool i.e, .bool i.f, .bool i.g, .bool b.wrongCond]⟩

/-- READ_BREAKER (R113). -/
def execReadBreaker (l : Link) (s : State) : Out :=
  .next (whenRunning (fun s => s.serve l .readBreaker (readOnly breakerAnswer)) s)

/-- BKI_RAMP_TIMER_EXPIRY (R105). -/
def execBkiRampTimerExpiry (s : State) : Out :=
  .next (whenRunning (fun s => if s.bki.ramp.isSome then s.rampEnd.handOn else s) s)

/-- AUX_MADE (R102, R107 to R109). -/
def execAuxMade (s : State) : Out :=
  .next (whenRunning (fun s =>
    match s.bki.aux.accept true with
    | none => s
    | some f => { s with bki := { s.bki with aux := f } }.auxMade.handOn) s)

/-- AUX_RELEASED (R107 to R109). -/
def execAuxReleased (s : State) : Out :=
  .next (whenRunning (fun s =>
    match s.bki.aux.accept false with
    | none => s
    | some f => { s with bki := { s.bki with aux := f } }.auxReleased.handOn) s)

/-- CLOSE_TIMEOUT (R102, R108). -/
def execCloseTimeout (s : State) : Out :=
  .next (whenRunning (fun s =>
    if s.bki.state = .closing ∧ s.bki.sup.isSome then s.closeTimeout.handOn else s) s)

/-- OPEN_TIMEOUT (R107). -/
def execOpenTimeout (s : State) : Out :=
  .next (whenRunning (fun s =>
    if s.bki.state = .opening ∧ s.bki.sup.isSome then s.openTimeout.handOn else s) s)

/-- OPEN_CHECK_END (R108). -/
def execOpenCheckEnd (s : State) : Out :=
  .next (whenRunning (fun s =>
    if s.bki.state = .failed ∧ s.bki.kind = some .noClose ∧ s.bki.sup.isSome then s.openCheckEnd.handOn else s) s)

/-- RECLOSE_DELAY_EXPIRY (R109). -/
def execRecloseDelayExpiry (s : State) : Out :=
  .next (whenRunning (fun s =>
    if s.bki.reclose.isSome then { s with bki := { s.bki with reclose := none } }.handOn else s) s)

/-- TRIP_WINDOW_EXPIRY: silent (R109). -/
def execTripWindowExpiry (s : State) : Out :=
  .next (whenRunning (fun s => { s with bki := { s.bki with tripWindow := none } }) s)

end Sys2Proof.Machine
end

