-- ==== Sys2Proof/Machine/Collection.lean ====
section
/-! DEFINITION. The Collection Supervisor's commands (09): CLEAR_TRO, READ_CURRENT, CSU_SAMPLE and its timers. -/

namespace Sys2Proof.Machine

/-- CLEAR_TRO's owner (R168). -/
def ownClearTro (_p : List Byte) (s : State) : State × Option Answer :=
  match s.csu.overReason, s.csu.overLimit with
  | .extended, false => ({ s with csu := { s.csu with overReason := .idle } }.troUpdate, some ⟨.ok, [.wide 1 1]⟩)
  | .timing, true => ({ s with csu := s.csu.startWidth s.troWidth }, some ⟨.ok, [.wide 1 2]⟩)
  | .timing, false => (s, some ⟨.ok, [.wide 1 0]⟩)
  | .idle, _ => (s, some ⟨.ok, [.wide 1 0]⟩)
  | .extended, true => (s, some ⟨.ok, [.wide 1 0]⟩)

/-- CLEAR_TRO (R168). -/
def execClearTro (l : Link) (s : State) : Out :=
  .next (whenRunning (fun s => s.serve l .clearTro ownClearTro) s)

/-- One slot's items of READ_CURRENT (R175); two-valued items as log 33 has them. -/
def Csu.slotItems (c : Csu) (k : SlotId) : List Item :=
  [.wide 2 (((c.hist.get k).head?.map (fun x => x.amps)).getD 0), .wide 2 (c.mean.get k), .wide 2 (c.limit.get k),
   .bool (c.overMark.get k), .small 2 (c.roles.get k).code, .bool (c.dropout.get k).isSome,
   .wide 1 ((c.buckets.get k).headD 0), .wide 2 (arcSum (c.buckets.get k))]

/-- READ_CURRENT's answer (R175). The limit column reads 1 for standstill (DESIGN CHOICE, log 33); the reasons seen stand in
the order of R160 from bit 0 (DESIGN CHOICE, log 39); the speed band and the profile take two bits (DESIGN CHOICE, log 10). -/
def currentAnswer (s : State) : Answer :=
  let c := s.csu
  ⟨if c.hist.any (fun h => h.any (fun x => x.clamped)) then .clamped else .ok,
    allSlots.flatMap c.slotItems ++
    [.bool c.overLimit, .wide 2 c.total, .small 3 (expectedCode c.expected), .small 2 c.band, .small 2 c.profile,
     .bool (decide (c.band = 0)), .bool c.tro, .bool c.seqHeld, .bool c.demandHeld, .small 2 c.overReason.code,
     .wide 2 (timeLeft c.width), .wide 2 (timeLeft c.overload), .bool c.overloadLatch,
     .small 3 (c.seen.seq.toNat + 2 * c.seen.demand.toNat + 4 * c.seen.ovr.toNat)]⟩

/-- The reasons held now (R171). -/
def Csu.reasonsHeld (c : Csu) : Reasons := ⟨c.seqHeld, c.demandHeld, decide (c.overReason ≠ .idle)⟩

/-- READ_CURRENT's owner: on the commanding link the reasons seen become those held now (R171, R175). -/
def ownReadCurrent (l : Link) (_p : List Byte) (s : State) : State × Option Answer :=
  (if s.lif.holder = some l then { s with csu := { s.csu with seen := s.csu.reasonsHeld } } else s,
   some (currentAnswer s))

/-- READ_CURRENT (R175). -/
def execReadCurrent (l : Link) (s : State) : Out :=
  .next (whenRunning (fun s => s.serve l .readCurrent (ownReadCurrent l)) s)

/-- CSU_SAMPLE: the arc watches, the histories, means, marks, the total, OVER, overload and TRO, then the results are
handed on (R161). -/
def execCsuSample (amps : PerSlot Nat) (s : State) : Out :=
  .next (whenRunning (fun s => ({ s with csu := s.csu.sampleAll amps }.marksUpdate).reportTotal.handOn) s)

/-- WIDTH_HALF_POINT (R166). -/
def execWidthHalfPoint (s : State) : Out :=
  .next (whenRunning (fun s =>
    if s.csu.half.isSome then
      if s.csu.overReason = .timing ∧ s.csu.overLimit then { s with csu := s.csu.startWidth s.troWidth }
      else { s with csu := { s.csu with half := none } }
    else s) s)

/-- WIDTH_TIMER_END (R164, R167). -/
def execWidthTimerEnd (s : State) : Out :=
  .next (whenRunning (fun s =>
    if s.csu.width.isSome then
      { s with csu := { s.csu with width := none, half := none,
                                   overReason := if s.troExtend then .extended else .idle } }.troUpdate
    else s) s)

/-- OVERLOAD_TIMER_EXPIRY (R169). -/
def execOverloadTimerExpiry (s : State) : Out :=
  .next (whenRunning (fun s =>
    if s.csu.overload.isSome then
      if s.csu.overloadLatch then { s with csu := { s.csu with overload := none } }
      else ({ s with csu := { s.csu with overload := none, overloadLatch := true } }.raise .overload).handOn
    else s) s)

/-- DROPOUT_TIMER_EXPIRY (R172). -/
def execDropoutTimerExpiry (k : SlotId) (s : State) : Out :=
  .next (whenRunning (fun s => { s with csu := { s.csu with dropout := s.csu.dropout.set k none } }) s)

/-- BUCKET_TURNOVER (R173). -/
def execBucketTurnover (s : State) : Out :=
  .next (whenRunning (fun s =>
    { s with csu := { s.csu with buckets := s.csu.buckets.map turnOver, bucket := ms 1000 } }.handOn) s)

end Sys2Proof.Machine
end

