-- ==== Sys2Proof/Machine/ConfigRules.lean ====
section
/-! DEFINITION. The Configuration Selector's requests (05): SET_DEMAND, WRITE_RULE, READ_RULE, READ_TARGET. -/

namespace Sys2Proof.Machine

/-- The four fields of a Demand record as items (R82, R98). -/
def Demand.items (d : Demand) : List Item :=
  [.bool d.collect, .bool d.power, .small 3 d.ice.code, .small 3 (expectedCode d.expected)]

/-- The Demand record a SET_DEMAND payload names, with KEEP read as the value held (R82). -/
def demandOf (p : List Byte) (held : Option LineSystem) : Option Demand :=
  match boolOf (field p 0 1), boolOf (field p 1 1), IceDemand.ofCode (field p 2 1), expectedOf (field p 3 1) held with
  | some c, some w, some i, some x => some ⟨c, w, i, x⟩
  | _, _, _, _ => none

/-- A SET_DEMAND answer: the status and the record as held (R82). -/
def State.demandAnswer (s : State) (st : Status) : Answer := ⟨st, s.cs.demand.items⟩

/-- SET_DEMAND's owner: BAD_VALUE, BUSY with the expected system locked while an entry is ACTIVE, or OK (R82). -/
def ownSetDemand (p : List Byte) (s : State) : State × Option Answer :=
  match demandOf p s.cs.demand.expected with
  | none => (s, some (s.demandAnswer .badValue))
  | some d =>
    let locked := s.teq.anyActive && decide (d.expected ≠ s.cs.demand.expected)
    let d1 : Demand := if locked then { d with expected := s.cs.demand.expected } else d
    let s1 := (s.writeDemand d1).handOn
    (s1, some (s1.demandAnswer (if locked then .busy else .ok)))

/-- SET_DEMAND (R82). -/
def execSetDemand (l : Link) (s : State) : Out :=
  .next (whenRunning (fun s => s.serve l .setDemand ownSetDemand) s)

/-- A rule of the table; an index beyond it reads as the empty rule. -/
def Cs.rule (c : Cs) (i : Nat) : Rule := c.rules.getD i .empty

/-- WRITE_RULE's owner: the checks of R86, the record replaced, and a rule evaluation (R86, R93). -/
def ownWriteRule (p : List Byte) (s : State) : State × Option Answer :=
  let i := field p 0 1
  if 47 < i then (s, some (.just .badValue))
  else
    match ruleOf i (p.drop 1) with
    | none => (s, some (.just .badValue))
    | some r =>
      ({ s with cs := { s.cs with rules := s.cs.rules.set i r } }.evaluate.handOn,
       some ⟨.ok, [.wide 1 i, .raw (ruleBytes r)]⟩)

/-- WRITE_RULE (R86). -/
def execWriteRule (l : Link) (s : State) : Out :=
  .next (whenRunning (fun s => s.serve l .writeRule ownWriteRule) s)

/-- READ_RULE's answer (R87, R202). -/
def ruleAnswer (p : List Byte) (s : State) : Answer :=
  let i := field p 0 1
  if 47 < i then .just .badValue else ⟨.ok, [.wide 1 i, .raw (ruleBytes (s.cs.rule i))]⟩

/-- READ_RULE (R87). -/
def execReadRule (l : Link) (s : State) : Out :=
  .next (whenRunning (fun s => s.serve l .readRule (readOnly ruleAnswer)) s)

/-- The Condition Vector's fields as items (R84, R98); its grades take two bits (DESIGN CHOICE, log 10). -/
def CondVec.items (c : CondVec) : List Item :=
  [.small 3 (expectedCode c.sys), .small 2 c.speed, .small 2 c.ice, .small 2 c.amb, .bool c.demand, .small 4 c.avail.bits,
   .bool c.zone, .small 1 c.lead.code]

/-- The last evaluation record as items (R93, R98). -/
def evalItems : Option EvalRec → List Item
  | none => [.small 1 0] ++ optWide 1 none ++ [.small 2 0, .small 4 0]
  | some e => [.small 1 1] ++ optWide 1 e.index ++ [.small 2 e.kind.code, .small 4 e.changed.bits]

/-- READ_TARGET's answer (R98). -/
def targetAnswer (_p : List Byte) (s : State) : Answer :=
  ⟨.ok, [.raw (targetBytes s.cs.current), .bool s.cs.pend.isSome,
         .raw ((s.cs.pend.map targetBytes).getD noTargetBytes), .bool s.cs.hold] ++
    s.cs.cv.items ++ s.cs.demand.items ++ evalItems s.cs.lastEval ++ [.wide 2 s.cs.evals]⟩

/-- READ_TARGET (R98). -/
def execReadTarget (l : Link) (s : State) : Out :=
  .next (whenRunning (fun s => s.serve l .readTarget (readOnly targetAnswer)) s)

end Sys2Proof.Machine
end

