-- ==== Sys2Proof/Machine/Ice.lean ====
section
/-! DEFINITION. The Ice Unit's commands (08): READ_ICE, GATE_END, SCAN_COMPLETION, HEATER_DRIVE_EDGE, FALL_TIMER_EXPIRY,
RFC_CX_RISING_EDGE. -/

namespace Sys2Proof.Machine

/-- A count with its overflow mark (R198). -/
def Count.items (c : Count) : List Item := [.wide 2 c.n, .bool c.ovf]

/-- A temperature with its validity and clamped mark, valid and clamped reading 1 (R159; DESIGN CHOICE, log 33). -/
def Sensor.items (x : Sensor) : List Item := [.wide 2 (twos x.temp), .bool x.valid, .bool x.clamped]

/-- One slot's heater items: request, grant, latch, HTR_k (R159). -/
def Icu.heaterItems (i : Icu) (k : SlotId) : List Item :=
  [.bool (i.request.get k), .bool (i.grant.get k), .bool (i.heaterFault.get k), .bool (i.htr.get k)]

/-- A temperature that is valid and carries its clamped mark (R159). -/
def Sensor.clampedNow (x : Sensor) : Bool := x.valid && x.clamped

/-- READ_ICE's answer (R159); a reference in FAULT reads 1 (DESIGN CHOICE, log 33), and the grades (band, duty, levels, zone hint) are
small items of two bits (DESIGN CHOICE, log 10). -/
def iceAnswer (_p : List Byte) (s : State) : Answer :=
  let i := s.icu
  ⟨if i.strip.any Sensor.clampedNow || i.amb.clampedNow then .clamped else .ok,
    i.lastRef.items ++ i.lastStrip.toList.flatMap Count.items ++ i.lastAmb.items ++ [.bool i.refFault] ++
    (i.strip.toList ++ [i.amb]).map (fun x => .small 2 x.fault.code) ++
    (i.strip.toList ++ [i.amb]).flatMap Sensor.items ++ [.small 2 i.ambBand] ++ allSlots.flatMap i.heaterItems ++
    [.small 2 i.duty, .wide 2 i.arcPeak, .small 2 i.computed, .small 2 i.measured, .wide 2 (timeLeft i.fall),
     .small 2 i.zoneHint, .small 3 i.iceDemand.code, .small 2 i.iceLevel, .wide 2 i.scans]⟩

/-- READ_ICE (R159). -/
def execReadIce (l : Link) (s : State) : Out :=
  .next (whenRunning (fun s => s.serve l .readIce (readOnly iceAnswer)) s)

/-- The end of the gate in progress: the count is stored and the next gate begins; the end of the AMB gate is the scan
completion (R140, R153). -/
def State.gateEnded (s : State) : State :=
  let s1 : State := { s with icu := s.icu.gateEnd }
  if s.icu.chan = .amb then s1.scanComplete.handOn else { s1 with icu := s1.icu.driveAll }

/-- GATE_END (R140). -/
def execGateEnd (s : State) : Out := .next (whenRunning State.gateEnded s)

/-- SCAN_COMPLETION: the AMB gate ends (R140, R153). It acts only while the AMB gate is in progress (log 6). -/
def execScanCompletion (s : State) : Out :=
  .next (whenRunning (fun s => if s.icu.chan = .amb then s.gateEnded else s) s)

/-- HEATER_DRIVE_EDGE: HTR_k takes its level for the scan time (R149). -/
def execHeaterDriveEdge (k : SlotId) (s : State) : Out :=
  .next (whenRunning (fun s => { s with icu := { s.icu with htr := s.icu.htr.set k (s.icu.drive k) } }) s)

/-- FALL_TIMER_EXPIRY: the measured level takes the computed level (R155). -/
def execFallTimerExpiry (s : State) : Out :=
  .next (whenRunning (fun s =>
    if s.icu.fall.isSome then
      { s with icu := { s.icu with measured := s.icu.computed, fall := none } }.iceLevelUpdate.handOn
    else s) s)

/-- RFC_CX_RISING_EDGE (R141). -/
def execRfcCxRisingEdge (s : State) : Out :=
  .next (whenRunning (fun s => { s with icu := { s.icu with count := s.icu.count.edge } }) s)

end Sys2Proof.Machine
end

