-- ==== Sys2Proof/Machine/Line.lean ====
section
/-! DEFINITION. The Line Sense Unit's commands (03): READ_LINE, LS_ZC_RISE, PERIOD_OVERFLOW, LS_MAG_SAMPLE. -/

namespace Sys2Proof.Machine

/-- READ_LINE's answer (R52). A period of 0 stands for the no-period mark (R198). -/
def lineAnswer (_p : List Byte) (s : State) : Answer :=
  ⟨.ok,
    [.small 3 s.lsu.confirmed.code] ++ optSmall 3 (s.lsu.cand.map LineClass.code) ++ [.wide 1 s.lsu.candCount] ++
    [.bool s.lsu.last.isSome, .wide 2 ((s.lsu.last.bind (fun w => w.period)).getD 0),
     .wide 2 ((s.lsu.last.map (fun w => w.magnitude)).getD 0), .small 3 ((s.lsu.last.map (fun w => w.cls.code)).getD 0)] ++
    [.wide 2 s.lsu.windows, .wide 1 s.lsu.overCount, .bool s.lsu.overvolt]⟩

/-- READ_LINE (R52). -/
def execReadLine (l : Link) (s : State) : Out :=
  .next (whenRunning (fun s => s.serve l .readLine (readOnly lineAnswer)) s)

/-- LS_ZC_RISE: a rising crossing (R37 to R39). One that is ignored hands nothing on. -/
def execLsZcRise (s : State) : Out :=
  .next (whenRunning (fun s => if s.lsu.sinceCross < 2000 then s else s.crossing.handOn) s)

/-- PERIOD_OVERFLOW: the window completes with no period and an UNANCHORED one begins (R39). -/
def execPeriodOverflow (s : State) : Out :=
  .next (whenRunning (fun s => (s.windowComplete none false).handOn) s)

/-- LS_MAG_SAMPLE (R40). -/
def execLsMagSample (volts : Nat) (s : State) : Out :=
  .next (whenRunning (fun s => { s with lsu := s.lsu.addSample volts }) s)

end Sys2Proof.Machine
end

