-- ==== Sys2Proof/Machine/Links.lean ====
section
/-! DEFINITION. The commands of the links and of the command selection (R187 to R196). -/

namespace Sys2Proof.Machine

/-- FRAME_RECEIVED: the last check byte of the frame in progress arrives (R187). It acts only where that byte is due
(log 6). -/
def execFrameReceived (l : Link) (b : Byte) (s : State) : Out :=
  .next (whenRunning (fun s => if s.lastByteNext l then s.receive l b else s) s)

/-- BYTE_RECEIVED: a byte arrives; a stop-bit error discards the frame in progress and is ignored while HUNTING
(R187). -/
def execByteReceived (l : Link) (b : Byte) (stopBitError : Bool) (s : State) : Out :=
  .next (whenRunning (fun s =>
    if stopBitError then
      match (s.linkOf l).rx with
      | .hunting => s
      | .inFrame _ => s.updLink l LinkState.discard
    else s.receive l b) s)

/-- RX_GAP_TIMEOUT: more than 2 ms after a byte of the frame with no next byte (R187). -/
def execRxGapTimeout (l : Link) (s : State) : Out :=
  .next (whenRunning (fun s => if (s.linkOf l).gap.isSome then s.updLink l LinkState.discard else s) s)

/-- UNKNOWN_REQ: the request that starts service has a code that is not a request of the part (R189, R200). -/
def execUnknownReq (l : Link) (s : State) : Out :=
  .next (whenRunning (fun s =>
    match s.canServe l with
    | some q => if isRequestCode q.code then s else (s.beginService l).sendReply l q.code (.just .unknownReq)
    | none => s) s)

/-- FRAME_SENT: the last byte of the frame being sent goes out (R189, R190, R197). -/
def execFrameSent (l : Link) (s : State) : Out := .next (whenRunning (State.frameEnd l) s)

/-- NOTICE_START: an IDLE transmitter with no reply ready takes the notice that is pending (R182, R190). -/
def execNoticeStart (l : Link) (s : State) : Out :=
  .next (whenRunning (fun s =>
    if (s.linkOf l).tx = .idle ∧ (s.linkOf l).ready.isNone ∧ s.fnu.notice.get l then s.startNotice l else s) s)

/-- COMMAND_CHANGE_EFFECT: the pending change takes effect when no request is under service (R193). -/
def execCommandChangeEffect (s : State) : Out :=
  .next (whenRunning (fun s => s.changeEffect.holderHandOn s.lif.holder) s)

/-- SEL_ACCEPTED_CHANGE: the raw SEL level has stayed unchanged for 20 ms (R191, R193). -/
def execSelAcceptedChange (s : State) : Out :=
  .next (whenRunning (fun s =>
    if s.lif.sel.wait.isSome then s.selAccepted.holderHandOn s.lif.holder else s) s)

/-- The link becomes SILENT, with the effects on the holder (R194). -/
def State.linkSilent? (l : Link) (s : State) : State :=
  let s1 := s.updLink l (fun x => { x with live := false, silence := none })
  if s.lif.holder = some l then
    let s2 := s1.raise .linkSilent
    if s2.lif.sel.acc = .opened ∧ (s2.linkOf l.other).live then (s2.makePass l.other).changeEffect else s2
  else s1

/-- With both links SILENT, Demand power becomes 0 (R83, R194). -/
def State.powerIfSilent (s : State) : State :=
  if (s.linkOf .a).live ∨ (s.linkOf .b).live then s else s.writeDemand { s.cs.demand with power := false }

/-- SILENCE_TIMER_EXPIRY (R194). -/
def execSilenceTimerExpiry (l : Link) (s : State) : Out :=
  .next (whenRunning (fun s =>
    if (s.linkOf l).silence.isSome then ((s.linkSilent? l).powerIfSilent).handOn else s) s)

/-- TAKE_COMMAND's owner (R192). A granted take answers nothing yet: its reply is formed when the change takes
effect. -/
def ownTakeCommand (l : Link) (p : List Byte) (s : State) : State × Option Answer :=
  let prio := field p 0 1
  if s.lif.sel.acc ≠ .opened then (s, some (s.takeAnswer .fixedSel))
  else if prio < 1 ∨ 7 < prio then (s, some (s.takeAnswer .badValue))
  else if s.lif.holder = some l then
    let s1 : State := { s with lif := { s.lif with prio := some prio } }
    (s1, some (s1.takeAnswer .ok))
  else if s.lif.holder = none ∨ s.lif.holderSilent ∨ s.lif.prio.getD 0 < prio then
    ({ s with lif := { s.lif with take := some (l, prio) } }.changeEffect.holderHandOn s.lif.holder, none)
  else (s, some (s.takeAnswer .busy))

/-- TAKE_COMMAND (R192). -/
def execTakeCommand (l : Link) (s : State) : Out :=
  .next (whenRunning (fun s => s.serve l .takeCommand (ownTakeCommand l)) s)

/-- The pending change's code in GET_STATUS: none 0, take 1, SEL 2, pass on silence 3 (R202); of a take and
a level together the take (DEDUCED, log 26). -/
def Lif.changeCode (x : Lif) : Nat :=
  if x.take.isSome then 1 else if x.selChange.isSome then 2 else if x.pass.isSome then 3 else 0

/-- One link's ten bytes of GET_STATUS (R202). -/
def linkBytes (x : LinkState) : List Byte :=
  toBE 2 (x.since / 1000) ++ toBE 2 x.counters.accepted.toNat ++ toBE 2 x.counters.checkErrors.toNat ++
    toBE 2 x.counters.overruns.toNat ++ toBE 2 x.counters.discards.toNat

/-- The GET_STATUS reply behind its status byte (R195, R202). -/
def statusAnswer (l : Link) (_p : List Byte) (s : State) : Answer :=
  { status := .ok,
    items :=
      [.small 1 (if l = .a then 0 else 1), .small 2 (selCode s.lif.sel.acc), .small 2 (holderCode s.lif.holder),
       .small 3 (s.lif.prio.getD 0), .small 2 s.lif.changeCode, .bool (s.linkOf .a).live, .bool s.fnu.notice.a,
       .bool (s.linkOf .b).live, .bool s.fnu.notice.b, .raw (linkBytes (s.linkOf .a)), .raw (linkBytes (s.linkOf .b)),
       .raw (summaryBytes s), .small 2 s.pe.status.code, .small 2 s.pe.band, .small 1 s.pe.lead.code,
       .bool s.csu.tro, .bool s.csu.overloadLatch] }

/-- GET_STATUS (R195). -/
def execGetStatus (l : Link) (s : State) : Out :=
  .next (whenRunning (fun s => s.serve l .getStatus (readOnly (statusAnswer l))) s)

/-- READ_PARAM's answer: the identifier and the value held (R196, R198). -/
def paramAnswer (p : List Byte) (s : State) : Answer :=
  let id := field p 0 1
  if 0x23 < id then .just .badValue else ⟨.ok, [.wide 1 id, .wide 4 (s.param id)]⟩

/-- READ_PARAM (R196). -/
def execReadParam (l : Link) (s : State) : Out :=
  .next (whenRunning (fun s => s.serve l .readParam (readOnly paramAnswer)) s)

/-- The table with one parameter stored (R196). -/
def State.storeParam (id v : Nat) (s : State) : State :=
  { s with lif := { s.lif with params := s.lif.params.set id v } }

/-- SET_PARAM's owner: the value is clamped to its range and stored; a LIMIT value recomputes the limits (R162,
R196; DEDUCED, log 25). -/
def ownSetParam (p : List Byte) (s : State) : State × Option Answer :=
  let id := field p 0 1
  let v := field p 1 4
  if 0x23 < id then (s, some (.just .badValue))
  else
    let w := clampTo (paramRanges.getD id (0, 0)) v
    let s1 := s.storeParam id w
    (if 0x1C ≤ id then s1.handOn else s1, some ⟨if w = v then .ok else .clamped, [.wide 1 id, .wide 4 w]⟩)

/-- SET_PARAM (R196). -/
def execSetParam (l : Link) (s : State) : Out :=
  .next (whenRunning (fun s => s.serve l .setParam ownSetParam) s)

end Sys2Proof.Machine
end

