-- ==== Sys2Proof/Machine/Notices.lean ====
section
/-! DEFINITION. The Flag and Notice Unit's requests (10): CLEAR_FLAGS, CLEAR_FAULT, GET_FLAGS, SET_NOTICE_MASK. -/

namespace Sys2Proof.Machine

/-- A flag set from its 32-bit field; a set that names a number above 25 is none (R179, R200). -/
def flagSetOf (n : Nat) : Option FlagSet := if n < 2 ^ 26 then some (BitVec.ofNat 26 n) else none

/-- A CLEAR_FLAGS answer: the status and the flag set as held (R179). -/
def State.flagsAnswer (s : State) (st : Status) : Answer := ⟨st, [.raw (flagBytes s.fnu.flags)]⟩

/-- CLEAR_FLAGS's owner (R179). -/
def ownClearFlags (p : List Byte) (s : State) : State × Option Answer :=
  match flagSetOf (field p 0 4) with
  | none => (s, some (s.flagsAnswer .badValue))
  | some x =>
    let s1 : State := { s with fnu := { s.fnu with flags := s.fnu.flags &&& ~~~x } }
    (s1, some (s1.flagsAnswer .ok))

/-- CLEAR_FLAGS (R179). -/
def execClearFlags (l : Link) (s : State) : Out :=
  .next (whenRunning (fun s => s.serve l .clearFlags ownClearFlags) s)

/-- The latch names of CLEAR_FAULT (R184). -/
inductive Latch where
  | overvolt
  | wrongSystem
  | overload
  | brkFault
  | heater (k : SlotId)
deriving DecidableEq, Repr

/-- The latch of a name code (R201). -/
def latchOf : Nat → Option Latch
  | 0 => some .overvolt
  | 1 => some .wrongSystem
  | 2 => some .overload
  | 3 => some .brkFault
  | 4 => some (.heater .ps0)
  | 5 => some (.heater .ps1)
  | 6 => some (.heater .ps2)
  | 7 => some (.heater .ps3)
  | _ => none

/-- The latch as its owner holds it (R183). -/
def State.latchSet (s : State) : Latch → Bool
  | .overvolt => s.lsu.overvolt
  | .wrongSystem => s.bki.wrongLatch
  | .overload => s.csu.overloadLatch
  | .brkFault => s.bki.brkFault
  | .heater k => s.icu.heaterFault.get k

/-- The owner finds the cause persisting (R50, R111, R151, R170, R184). -/
def State.causePersists (s : State) : Latch → Bool
  | .overvolt => s.overvoltPersists
  | .wrongSystem => s.wrongNow
  | .overload => s.csu.overLimit
  | .brkFault => decide (s.bki.state = .failed)
  | .heater k => (s.icu.strip.get k).valid && decide (600 < (s.icu.strip.get k).temp)

/-- The owner clears the latch (R50, R111, R151, R170). -/
def State.clearLatch (s : State) : Latch → State
  | .overvolt => { s with lsu := { s.lsu with overvolt := false } }
  | .wrongSystem => { s with bki := { s.bki with wrongLatch := false } }
  | .overload => { s with csu := { s.csu with overloadLatch := false } }
  | .brkFault => { s with bki := { s.bki with brkFault := false, tripWindow := none } }
  | .heater k => { s with icu := { s.icu with heaterFault := s.icu.heaterFault.set k false } }

/-- CLEAR_FAULT's owner, in the order of R184. -/
def ownClearFault (p : List Byte) (s : State) : State × Option Answer :=
  match latchOf (field p 0 1) with
  | none => (s, some (.just .badValue))
  | some x =>
    if s.latchSet x = false then (s, some ⟨.ok, [.wide 1 0]⟩)
    else if s.causePersists x then (s, some (.just .stillPresent))
    else ((s.clearLatch x).handOn, some ⟨.ok, [.wide 1 1]⟩)

/-- CLEAR_FAULT (R184). -/
def execClearFault (l : Link) (s : State) : Out :=
  .next (whenRunning (fun s => s.serve l .clearFault ownClearFault) s)

/-- GET_FLAGS's answer (R180). -/
def flagsReadout (l : Link) (_p : List Byte) (s : State) : Answer :=
  ⟨.ok, [.raw (flagBytes s.fnu.flags), .wide 1 (latchBits s), .wide 1 (lockedBits s),
         .raw (flagBytes (s.fnu.mask.get l)), .bool (s.fnu.notice.get l)]⟩

/-- GET_FLAGS (R180). -/
def execGetFlags (l : Link) (s : State) : Out :=
  .next (whenRunning (fun s => s.serve l .getFlags (readOnly (flagsReadout l))) s)

/-- A SET_NOTICE_MASK answer: the status and the link's mask as held (R181). -/
def State.maskAnswer (s : State) (l : Link) (st : Status) : Answer := ⟨st, [.raw (flagBytes (s.fnu.mask.get l))]⟩

/-- SET_NOTICE_MASK's owner (R181). -/
def ownSetNoticeMask (l : Link) (p : List Byte) (s : State) : State × Option Answer :=
  match flagSetOf (field p 0 4) with
  | none => (s, some (s.maskAnswer l .badValue))
  | some x =>
    let s1 : State := { s with fnu := { s.fnu with mask := s.fnu.mask.set l x } }
    (s1, some (s1.maskAnswer l .ok))

/-- SET_NOTICE_MASK (R181). -/
def execSetNoticeMask (l : Link) (s : State) : Out :=
  .next (whenRunning (fun s => s.serve l .setNoticeMask (ownSetNoticeMask l)) s)

end Sys2Proof.Machine
end

