-- ==== Sys2Proof/Machine/Pantograph.lean ====
section
/-! DEFINITION. The Pantograph Units' commands (04): SET_SLOT, UNLOCK_SLOT, READ_SLOT, INPUT_RAW_CHANGE, and the accepted
input changes and timer expiries of one slot. -/

namespace Sys2Proof.Machine

/-! ### Requests -/

/-- The slot a request names by its number, 0..3. -/
def slotField (p : List Byte) : Option SlotId := SlotId.ofNat? (field p 0 1)

/-- The state code a SET_SLOT reply carries: the slot's, or for a slot above 3 a free value (R56; log 9). -/
def State.slotStateItem (s : State) (p : List Byte) : Item :=
  match slotField p with
  | some k => .small 3 (s.slots.get k).state.code
  | none => .small 3 (Config.noSlotState (BitVec.ofNat 8 (field p 0 1))).toNat

/-- SET_SLOT is refused BUSY (R56, row 2). -/
def State.setSlotBusy (s : State) (x : Slot) (enabled : Bool) : Bool :=
  (decide (x.state ≠ .disabled) && decide (x.state ≠ .down)) || s.teq.anyHeld ||
    (decide (x.state = .down) && !enabled && x.travelling)

/-- SET_SLOT's owner: the tests of R56, then the configuration of R57 with its rule evaluation (R93). -/
def ownSetSlot (p : List Byte) (s : State) : State × Option Answer :=
  match slotField p, boolOf (field p 1 1) with
  | some k, some en =>
    if 40000 < field p 2 2 ∨ 15 < field p 4 1 then (s, some ⟨.badValue, [s.slotStateItem p]⟩)
    else if s.setSlotBusy (s.slots.get k) en then (s, some ⟨.busy, [s.slotStateItem p]⟩)
    else
      let s1 := (s.updSlot k (Slot.configure s.puCtx en (field p 2 2) (BitVec.ofNat 4 (field p 4 1)))).evaluate.handOn
      (s1, some ⟨.ok, [s1.slotStateItem p]⟩)
  | some _, none => (s, some ⟨.badValue, [s.slotStateItem p]⟩)
  | none, _ => (s, some ⟨.badValue, [s.slotStateItem p]⟩)

/-- SET_SLOT (R56, R57). -/
def execSetSlot (l : Link) (s : State) : Out :=
  .next (whenRunning (fun s => s.serve l .setSlot ownSetSlot) s)

/-- UNLOCK_SLOT's owner (R58, R93). -/
def ownUnlockSlot (p : List Byte) (s : State) : State × Option Answer :=
  match slotField p with
  | none => (s, some (.just .badValue))
  | some k =>
    if (s.slots.get k).state ≠ .locked then (s, some ⟨.ok, [.wide 1 0]⟩)
    else if (s.slots.get k).down.acc = false then (s, some (.just .stillPresent))
    else ((s.updSlot k (Slot.unlock s.puCtx)).evaluate.handOn, some ⟨.ok, [.wide 1 1]⟩)

/-- UNLOCK_SLOT (R58). -/
def execUnlockSlot (l : Link) (s : State) : Out :=
  .next (whenRunning (fun s => s.serve l .unlockSlot ownUnlockSlot) s)

/-- The items of a slot's readout (R59). Made, tripped, energised, enabled, pending, housed and the command close read 1 (DESIGN
CHOICE, log 33); the lock reasons stand in the order of R53 from bit 0 (DESIGN CHOICE, log 39). -/
def State.slotItems (s : State) (x : Slot) : List Item :=
  [.bool x.enabled, .wide 2 x.offset, .small 4 x.mask.toNat, .wide 2 (s.effOffset x), .small 3 x.state.code,
   .small 2 x.tRole.code, .small 2 x.tForce.code, .small 2 x.role.code, .small 2 x.hold.code, .wide 1 x.retryCount,
   .bool x.retryPending] ++
  [.small 4 (x.locks.raiseFail.toNat + 2 * x.locks.autodrop.toNat + 4 * x.locks.stuckUp.toNat + 8 * x.locks.dscFail.toNat),
   .wide 2 x.contactLosses, .bool x.down.acc, .bool x.contact.acc, .bool x.add.acc, .bool x.dsf.acc, .bool x.housed,
   .wide 2 x.prv, .bool x.dmp, .small 3 x.dsc.state.code, .bool x.dsc.cmd]

/-- READ_SLOT's answer (R59). -/
def slotAnswer (p : List Byte) (s : State) : Answer :=
  match slotField p with
  | none => .just .badValue
  | some k => ⟨.ok, s.slotItems (s.slots.get k)⟩

/-- READ_SLOT (R59). -/
def execReadSlot (l : Link) (s : State) : Out :=
  .next (whenRunning (fun s => s.serve l .readSlot (readOnly slotAnswer)) s)

/-! ### Raw levels -/

/-- A new raw level at a filtered input, with the filter time of its group (R55, R100, R191). -/
def State.rawLevel (i : RawInput) (s : State) : State :=
  match i with
  | .dn k b => s.updSlot k (fun x => { x with down := x.down.feed b s.debounceSlot })
  | .ct k b => s.updSlot k (fun x => { x with contact := x.contact.feed b s.debounceSlot })
  | .add k b => s.updSlot k (fun x => { x with add := x.add.feed b 20 })
  | .dsf k b => s.updSlot k (fun x => { x with dsf := x.dsf.feed b s.debounceFb })
  | .aux b => { s with bki := { s.bki with aux := s.bki.aux.feed b s.debounceFb } }
  | .sel lvl => { s with lif := { s.lif with sel := s.lif.sel.feed lvl } }

/-- INPUT_RAW_CHANGE (R55). While RST_N is held low the filters take the level present (R55, R197). -/
def execInputRawChange (i : RawInput) (s : State) : Out :=
  .next (if s.inReset then { (s.rawLevel i).resetPart with inReset := true } else s.rawLevel i)

/-! ### Accepted input changes -/

/-- DOWN_SWITCH_MADE (R69, R71, R72). -/
def execDownSwitchMade (k : SlotId) (s : State) : Out :=
  .next (whenRunning (fun s =>
    match (s.slots.get k).down.accept true with
    | none => s
    | some f => s.slotEvent k (Slot.downMade s.puCtx { s.slots.get k with down := f })) s)

/-- DOWN_SWITCH_OPEN (R70, R72). -/
def execDownSwitchOpen (k : SlotId) (s : State) : Out :=
  .next (whenRunning (fun s =>
    match (s.slots.get k).down.accept false with
    | none => s
    | some f => s.slotEvent k (Slot.downOpened s.puCtx { s.slots.get k with down := f }, [])) s)

/-- CONTACT_MADE (R64, R68). -/
def execContactMade (k : SlotId) (s : State) : Out :=
  .next (whenRunning (fun s =>
    match (s.slots.get k).contact.accept true with
    | none => s
    | some f => s.slotEvent k (Slot.contactMade s.puCtx { s.slots.get k with contact := f }, [])) s)

/-- CONTACT_LOST (R68). -/
def execContactLost (k : SlotId) (s : State) : Out :=
  .next (whenRunning (fun s =>
    match (s.slots.get k).contact.accept false with
    | none => s
    | some f => s.slotEvent k (Slot.contactLost { s.slots.get k with contact := f }, [])) s)

/-- AUTODROP_TRIP (R71). -/
def execAutodropTrip (k : SlotId) (s : State) : Out :=
  .next (whenRunning (fun s =>
    match (s.slots.get k).add.accept true with
    | none => s
    | some f => s.slotEvent k (Slot.autodropTrip s.puCtx { s.slots.get k with add := f })) s)

/-- AUTODROP_RELEASE (R63, R65). -/
def execAutodropRelease (k : SlotId) (s : State) : Out :=
  .next (whenRunning (fun s =>
    match (s.slots.get k).add.accept false with
    | none => s
    | some f => s.slotEvent k (Slot.autodropRelease s.puCtx { s.slots.get k with add := f }, [])) s)

/-- DSF_MADE (R74). -/
def execDsfMade (k : SlotId) (s : State) : Out :=
  .next (whenRunning (fun s =>
    match (s.slots.get k).dsf.accept true with
    | none => s
    | some f => s.slotEvent k (Slot.dsfMade s.puCtx { s.slots.get k with dsf := f })) s)

/-- DSF_RELEASED (R74). -/
def execDsfReleased (k : SlotId) (s : State) : Out :=
  .next (whenRunning (fun s =>
    match (s.slots.get k).dsf.accept false with
    | none => s
    | some f => s.slotEvent k (Slot.dsfReleased s.puCtx { s.slots.get k with dsf := f })) s)

/-! ### Timer expiries -/

/-- RAISE_TIMER_EXPIRY (R65, R66). -/
def execRaiseTimerExpiry (k : SlotId) (s : State) : Out :=
  .next (whenRunning (fun s =>
    if (s.slots.get k).raise.isSome then s.slotEvent k (Slot.raiseExpiry s.puCtx (s.slots.get k)) else s) s)

/-- LOWER_TIMER_EXPIRY (R69, R71, R72). -/
def execLowerTimerExpiry (k : SlotId) (s : State) : Out :=
  .next (whenRunning (fun s =>
    if (s.slots.get k).lower.isSome then s.slotEvent k (Slot.lowerExpiry (s.slots.get k)) else s) s)

/-- RETRY_TIMER_EXPIRY (R65). -/
def execRetryTimerExpiry (k : SlotId) (s : State) : Out :=
  .next (whenRunning (fun s =>
    if (s.slots.get k).retry.isSome then s.slotEvent k (Slot.retryExpiry s.puCtx (s.slots.get k), []) else s) s)

/-- CONTACT_LOSS_TIMER_EXPIRY (R68). -/
def execContactLossTimerExpiry (k : SlotId) (s : State) : Out :=
  .next (whenRunning (fun s =>
    if (s.slots.get k).contactLoss.isSome then s.slotEvent k (Slot.contactLossExpiry s.puCtx (s.slots.get k), []) else s) s)

/-- TRAVEL_TIMER_EXPIRY (R74, R75). -/
def execTravelTimerExpiry (k : SlotId) (s : State) : Out :=
  .next (whenRunning (fun s =>
    if (s.slots.get k).dsc.travel.isSome then s.slotEvent k (Slot.travelExpiry s.puCtx (s.slots.get k)) else s) s)

end Sys2Proof.Machine
end

