-- ==== Sys2Proof/Machine/Passage.lean ====
section
/-! DEFINITION. The Passage Sequencer's commands (07): READ_PASSAGE and its two timers. -/

namespace Sys2Proof.Machine

/-- The last points record as items, behind its presence bit (R137, R198). -/
def pointItems : Option Points → List Item
  | none => [.small 1 0, .wide 1 0, .wide 4 0, .wide 4 0, .wide 4 0, .wide 4 0, .wide 4 0, .wide 4 0, .wide 4 0, .wide 2 0]
  | some p => [.small 1 1, .wide 1 p.tag.toNat, .wide 4 p.g, .wide 4 p.d.toNat, .wide 4 p.a.toNat, .wide 4 p.arming.toNat,
               .wide 4 p.deadline.toNat, .wide 4 p.c.toNat, .wide 4 p.e.toNat, .wide 2 p.u]

/-- READ_PASSAGE's answer (R137). -/
def passageAnswer (_p : List Byte) (s : State) : Answer :=
  let q := s.psq
  ⟨.ok,
    [.small 2 q.phase.code] ++ optWide 1 (q.plan.map (fun p => p.tag.toNat)) ++ optSmall 2 (q.plan.map (fun p => p.kind.code)) ++
    optWide 2 q.oLead ++ optWide 2 q.oRear ++ optWide 2 q.tLead ++ optSmall 3 (q.step.map Step.code) ++
    [.wide 2 (q.timeInStep / 1000), .wide 2 (timeLeft q.rampTimer), .wide 2 (timeLeft q.confirmTimer), .bool q.seqHeld,
     .small 2 q.slotHold.code, .bool q.emergency] ++ pointItems q.lastPoints⟩

/-- READ_PASSAGE (R137). -/
def execReadPassage (l : Link) (s : State) : Out :=
  .next (whenRunning (fun s => s.serve l .readPassage (readOnly passageAnswer)) s)

/-- PSQ_RAMP_TIMER_EXPIRY (R122). -/
def execPsqRampTimerExpiry (s : State) : Out :=
  .next (whenRunning (fun s => if s.psq.rampTimer.isSome then s.psqRampExpiry.handOn else s) s)

/-- CONFIRM_TIMER_EXPIRY (R130). -/
def execConfirmTimerExpiry (s : State) : Out :=
  .next (whenRunning (fun s => if s.psq.confirmTimer.isSome then s.confirmExpiry.handOn else s) s)

end Sys2Proof.Machine
end

