-- ==== Sys2Proof/Machine/Position.lean ====
section
/-! DEFINITION. The Position Estimator's commands (01): REPORT_POSITION, REVERSE, READ_POSITION, POSITION_REFRESH. -/

namespace Sys2Proof.Machine

/-- The status of R9 with a report on record, from U and the age in ms. -/
def State.statusFor (s : State) (u ageMs : Nat) : PosStatus :=
  if s.lostUnc ≤ u ∨ 5000 < ageMs then .lost
  else if ageMs ≤ s.reportAgeOk then .valid
  else .coasting

/-- The speed band of a speed with a report on record (R11). -/
def bandFor (v : Nat) : Nat := if v ≤ 50 then 0 else if v ≤ 2778 then 1 else if v ≤ 5556 then 2 else 3

/-- The jump test (R5). -/
def Pe.jumps (p : Pe) (pos : Pos) : Bool :=
  decide (p.status ≠ .noFix) && decide (p.u + 1000 < (signedDiff pos p.e).natAbs)

/-- The Position Estimator's values written, with POS_LOST at a change of status into LOST (R10). -/
def State.setPe (p : Pe) (s : State) : State :=
  { s with pe := p }.raiseIf (decide (p.status = PosStatus.lost) && decide (s.pe.status ≠ PosStatus.lost)) .posLost

/-- An accepted report, after clamping (R4). -/
def State.report (pos : Pos) (v u : Nat) (s : State) : State :=
  ((s.raiseIf (s.pe.jumps pos) .posJump).setPe
    { s.pe with p := pos, v := v, uRep := u, e := pos, u := u, age := 0, status := s.statusFor u 0, band := bandFor v }).estimateUpdate

/-- REPORT_POSITION's owner: the clamps, the report, and the values used (R3, R4, R202). -/
def ownReportPosition (p : List Byte) (s : State) : State × Option Answer :=
  let v := field p 4 2
  let u := field p 6 2
  let v' := min 12000 v
  let u' := min 10000 u
  (s.report (BitVec.ofNat 32 (field p 0 4)) v' u',
   some ⟨if v' = v ∧ u' = u then .ok else .clamped, [.wide 2 v', .wide 2 u']⟩)

/-- REPORT_POSITION (R3, R4). -/
def execReportPosition (l : Link) (s : State) : Out :=
  .next (whenRunning (fun s => s.serve l .reportPosition ownReportPosition) s)

/-- The other lead end. -/
def LeadEnd.toggle : LeadEnd → LeadEnd
  | .aEnd => .bEnd
  | .bEnd => .aEnd

/-- The Position Estimator's part of a REVERSE (R14). -/
def Pe.reversed (p : Pe) : Pe :=
  { p with lead := p.lead.toggle, status := .noFix, u := 65535, age := ageLimit, band := 0 }

/-- REVERSE's owner: refused with MOTION unless the last reported speed is 0 (R13, R14, R32). -/
def ownReverse (_p : List Byte) (s : State) : State × Option Answer :=
  if s.pe.v = 0 then ({ s with pe := s.pe.reversed }.closeAllReversed.handOn, some (.just .ok))
  else (s, some (.just .motion))

/-- REVERSE (R13, R14, R32). -/
def execReverse (l : Link) (s : State) : Out :=
  .next (whenRunning (fun s => s.serve l .reverse ownReverse) s)

/-- READ_POSITION's answer (R16); the band takes two bits, as in GET_STATUS (DESIGN CHOICE, log 10). -/
def positionAnswer (_p : List Byte) (s : State) : Answer :=
  ⟨.ok, [.wide 4 s.pe.e.toNat, .wide 2 s.pe.u, .wide 4 s.pe.p.toNat, .wide 2 s.pe.v, .wide 2 s.pe.uRep,
         .wide 2 s.pe.ageMs, .small 2 s.pe.status.code, .small 2 s.pe.band, .small 1 s.pe.lead.code]⟩

/-- READ_POSITION (R16). -/
def execReadPosition (l : Link) (s : State) : Out :=
  .next (whenRunning (fun s => s.serve l .readPosition (readOnly positionAnswer)) s)

/-- The dead-reckoned distance at an age (R7). -/
def Pe.travelled (p : Pe) : Nat := p.v * p.ageMs / 1000

/-- The estimate recomputed from the last report (R7, R9). -/
def State.refreshed (s : State) : Pe :=
  let u := min 65535 (s.pe.uRep + ceilDiv s.pe.travelled 64)
  { s.pe with e := s.pe.p.plus s.pe.travelled, u := u, status := s.statusFor u s.pe.ageMs, refresh := ms 10 }

/-- POSITION_REFRESH: the estimate recomputed and handed on outside NO_FIX (R7). -/
def execPositionRefresh (s : State) : Out :=
  .next (whenRunning (fun s =>
    if s.pe.status = .noFix then { s with pe := { s.pe with refresh := ms 10 } }
    else (s.setPe s.refreshed).estimateUpdate) s)

end Sys2Proof.Machine
end

