-- ==== Sys2Proof/Machine/Reset.lean ====
section
/-! DEFINITION. The reset commands: POWER_ON, RST_N_LOW, RST_N_RISE, and the RESET_PART request (R197). -/

namespace Sys2Proof.Machine

/-- POWER_ON: every block at its reset values, with the levels at the pins (R197). -/
def execPowerOn (pins : Pins) (s : State) : Out := .next (State.resetWith pins s.pending)

/-- RST_N_LOW: every block at its reset values, and nothing is taken while RST_N is held low (R197). -/
def execRstNLow (s : State) : Out := .next { s.resetPart with inReset := true }

/-- The part as it starts when RST_N rises: SEL and BAUD are read afresh (R197). -/
def State.resetRise (sel : SelLevel) (baudHigh : Bool) (s : State) : State :=
  State.resetWith { s.pins with sel := sel, baud := baudHigh } s.pending

/-- RST_N_RISE: the part starts, with SEL and BAUD read afresh (R197). It acts only while RST_N is held low. -/
def execRstNRise (sel : SelLevel) (baudHigh : Bool) (s : State) : Out :=
  .next (if s.inReset then s.resetRise sel baudHigh else s)

/-- RESET_PART's owner: OK, and the part is reset once the reply is sent (R197). -/
def ownResetPart (l : Link) (_p : List Byte) (s : State) : State × Option Answer :=
  ({ s with lif := { s.lif with resetDue := some l } }, some (.just .ok))

/-- RESET_PART (R197). -/
def execResetPart (l : Link) (s : State) : Out :=
  .next (whenRunning (fun s => s.serve l .resetPart (ownResetPart l)) s)

end Sys2Proof.Machine
end

