-- ==== Sys2Proof/Machine/TrackQueue.lean ====
section
/-! DEFINITION. The Track Event Queue's requests (02): POST_EVENT, CANCEL_EVENT, RESUME_QUEUE, READ_QUEUE,
READ_CLOSED. -/

namespace Sys2Proof.Machine

/-- The entry a POST_EVENT payload announces, QUEUED, if its kind and length have values (R18, R22, R202). -/
def postedEntry (p : List Byte) : Option Entry :=
  match kindOf (field p 1 1) (field p 10 1) (field p 11 1) (field p 12 1) with
  | some k =>
    if 100 ≤ field p 6 4 ∧ field p 6 4 ≤ 300000 then
      some { tag := BitVec.ofNat 8 (field p 0 1), kind := k, start := BitVec.ofNat 32 (field p 2 4), len := field p 6 4,
             status := .queued }
    else none
  | none => none

/-- The entry is announced too late (R22). -/
def State.postLate (s : State) (e : Entry) : Bool :=
  decide (s.pe.status = .noFix) || decide (signedDiff e.start s.pe.e ≤ 0) || aheadOfHeld e s.teq.entries

/-- The refusal of a POST_EVENT, if any, in the order of R22. -/
def State.postRefusal (s : State) (p : List Byte) : Option Status :=
  if 16 ≤ s.teq.entries.length then some .full
  else if s.teq.entries.any (fun o => o.tag == BitVec.ofNat 8 (field p 0 1)) then some .dupTag
  else
    match postedEntry p with
    | none => some .badValue
    | some e =>
      if s.postLate e then some .late
      else if 10000000 < signedDiff e.start s.pe.e then some .range
      else if overlapsClass e s.teq.entries then some .overlap
      else none

/-- The entry inserted at its place, and the Posted counter (R20, R23). -/
def State.post (e : Entry) (s : State) : State :=
  { s with teq := { s.teq with entries := placeEntry s.pe.e e s.teq.entries, posted := s.teq.posted + 1 } }

/-- POST_EVENT's owner (R22, R23, R202). -/
def ownPostEvent (p : List Byte) (s : State) : State × Option Answer :=
  match s.postRefusal p, postedEntry p with
  | none, some e =>
    let s1 := s.post e
    (s1.handOn, some ⟨.ok, [.wide 1 e.tag.toNat, .wide 1 (placeIndex s.pe.e e s.teq.entries),
                            .wide 1 s1.teq.entries.length, .wide 4 s1.teq.posted.toNat]⟩)
  | some st, _ => (s, some (.just st))
  | none, none => (s, some (.just .badValue))

/-- POST_EVENT (R22). -/
def execPostEvent (l : Link) (s : State) : Out :=
  .next (whenRunning (fun s => s.serve l .postEvent ownPostEvent) s)

/-- CANCEL_EVENT's owner (R26); the number of entries takes 1 byte of its reply (DESIGN CHOICE, log 40). -/
def ownCancelEvent (p : List Byte) (s : State) : State × Option Answer :=
  match s.teq.entries.find? (fun e => e.tag == BitVec.ofNat 8 (field p 0 1)) with
  | none => (s, some (.just .notFound))
  | some e =>
    if e.status = .active then (s, some (.just .busy))
    else
      let s1 := (s.closeEntry e (.skipped .cancelled) none).handOn
      (s1, some ⟨.ok, [.wide 1 s1.teq.entries.length, .wide 4 s1.teq.closedCount.toNat]⟩)

/-- CANCEL_EVENT (R26). -/
def execCancelEvent (l : Link) (s : State) : Out :=
  .next (whenRunning (fun s => s.serve l .cancelEvent ownCancelEvent) s)

/-- RESUME_QUEUE's owner (R30). -/
def ownResumeQueue (_p : List Byte) (s : State) : State × Option Answer :=
  if s.teq.halted then
    ({ s with teq := { s.teq with halted := false } }.handOn, some ⟨.ok, [.wide 1 1]⟩)
  else (s, some ⟨.ok, [.wide 1 0]⟩)

/-- RESUME_QUEUE (R30). -/
def execResumeQueue (l : Link) (s : State) : Out :=
  .next (whenRunning (fun s => s.serve l .resumeQueue ownResumeQueue) s)

/-- READ_QUEUE's answer: up to three entries from the start index (R34, R202). -/
def queueAnswer (p : List Byte) (s : State) : Answer :=
  let i := field p 0 1
  if 15 < i then .just .badValue
  else
    let es := (s.teq.entries.drop i).take 3
    ⟨.ok, [.wide 1 s.teq.entries.length, .wide 4 s.teq.posted.toNat, .wide 4 s.teq.closedCount.toNat,
           .bool s.teq.halted, .small 2 es.length, .raw (es.flatMap entryBytes)]⟩

/-- READ_QUEUE (R34). -/
def execReadQueue (l : Link) (s : State) : Out :=
  .next (whenRunning (fun s => s.serve l .readQueue (readOnly queueAnswer)) s)

/-- READ_CLOSED's answer (R35, R202). -/
def closedAnswer (p : List Byte) (s : State) : Answer :=
  let i := field p 0 1
  if 7 < i then .just .badValue
  else
    match s.teq.closed[i]? with
    | some r => ⟨.ok, [.wide 4 s.teq.closedCount.toNat, .raw (closedBytes r)]⟩
    | none => ⟨.notFound, [.wide 4 s.teq.closedCount.toNat]⟩

/-- READ_CLOSED (R35). -/
def execReadClosed (l : Link) (s : State) : Out :=
  .next (whenRunning (fun s => s.serve l .readClosed (readOnly closedAnswer)) s)

end Sys2Proof.Machine
end

