-- ==== Sys2Proof/Machine/Dispatch.lean ====
section
/-! DEFINITION. The dispatch of the commands: one arm for each constructor of `Instr`, one direct call of its meaning. -/

namespace Sys2Proof.Machine

/-- The effect of a command on everything but the queue. -/
def exec (i : Instr) (s : State) : Host.Outcome State Fault Refusal :=
  match i with
  | .powerOn pins => Sys2Proof.Machine.execPowerOn pins s
  | .rstNLow => Sys2Proof.Machine.execRstNLow s
  | .rstNRise sel baudHigh => Sys2Proof.Machine.execRstNRise sel baudHigh s
  | .frameReceived l b => Sys2Proof.Machine.execFrameReceived l b s
  | .rxGapTimeout l => Sys2Proof.Machine.execRxGapTimeout l s
  | .unknownReq l => Sys2Proof.Machine.execUnknownReq l s
  | .frameSent l => Sys2Proof.Machine.execFrameSent l s
  | .noticeStart l => Sys2Proof.Machine.execNoticeStart l s
  | .reportPosition l => Sys2Proof.Machine.execReportPosition l s
  | .reverse l => Sys2Proof.Machine.execReverse l s
  | .readPosition l => Sys2Proof.Machine.execReadPosition l s
  | .postEvent l => Sys2Proof.Machine.execPostEvent l s
  | .cancelEvent l => Sys2Proof.Machine.execCancelEvent l s
  | .resumeQueue l => Sys2Proof.Machine.execResumeQueue l s
  | .readQueue l => Sys2Proof.Machine.execReadQueue l s
  | .readClosed l => Sys2Proof.Machine.execReadClosed l s
  | .readLine l => Sys2Proof.Machine.execReadLine l s
  | .setSlot l => Sys2Proof.Machine.execSetSlot l s
  | .unlockSlot l => Sys2Proof.Machine.execUnlockSlot l s
  | .readSlot l => Sys2Proof.Machine.execReadSlot l s
  | .setDemand l => Sys2Proof.Machine.execSetDemand l s
  | .writeRule l => Sys2Proof.Machine.execWriteRule l s
  | .readRule l => Sys2Proof.Machine.execReadRule l s
  | .readTarget l => Sys2Proof.Machine.execReadTarget l s
  | .readBreaker l => Sys2Proof.Machine.execReadBreaker l s
  | .readPassage l => Sys2Proof.Machine.execReadPassage l s
  | .readIce l => Sys2Proof.Machine.execReadIce l s
  | .clearTro l => Sys2Proof.Machine.execClearTro l s
  | .readCurrent l => Sys2Proof.Machine.execReadCurrent l s
  | .clearFlags l => Sys2Proof.Machine.execClearFlags l s
  | .clearFault l => Sys2Proof.Machine.execClearFault l s
  | .getFlags l => Sys2Proof.Machine.execGetFlags l s
  | .setNoticeMask l => Sys2Proof.Machine.execSetNoticeMask l s
  | .takeCommand l => Sys2Proof.Machine.execTakeCommand l s
  | .getStatus l => Sys2Proof.Machine.execGetStatus l s
  | .readParam l => Sys2Proof.Machine.execReadParam l s
  | .setParam l => Sys2Proof.Machine.execSetParam l s
  | .resetPart l => Sys2Proof.Machine.execResetPart l s
  | .commandChangeEffect => Sys2Proof.Machine.execCommandChangeEffect s
  | .selAcceptedChange => Sys2Proof.Machine.execSelAcceptedChange s
  | .silenceTimerExpiry l => Sys2Proof.Machine.execSilenceTimerExpiry l s
  | .positionRefresh => Sys2Proof.Machine.execPositionRefresh s
  | .psqRampTimerExpiry => Sys2Proof.Machine.execPsqRampTimerExpiry s
  | .confirmTimerExpiry => Sys2Proof.Machine.execConfirmTimerExpiry s
  | .lsZcRise => Sys2Proof.Machine.execLsZcRise s
  | .periodOverflow => Sys2Proof.Machine.execPeriodOverflow s
  | .lsMagSample volts => Sys2Proof.Machine.execLsMagSample volts s
  | .inputRawChange inp => Sys2Proof.Machine.execInputRawChange inp s
  | .downSwitchMade k => Sys2Proof.Machine.execDownSwitchMade k s
  | .downSwitchOpen k => Sys2Proof.Machine.execDownSwitchOpen k s
  | .contactMade k => Sys2Proof.Machine.execContactMade k s
  | .contactLost k => Sys2Proof.Machine.execContactLost k s
  | .autodropTrip k => Sys2Proof.Machine.execAutodropTrip k s
  | .autodropRelease k => Sys2Proof.Machine.execAutodropRelease k s
  | .dsfMade k => Sys2Proof.Machine.execDsfMade k s
  | .dsfReleased k => Sys2Proof.Machine.execDsfReleased k s
  | .raiseTimerExpiry k => Sys2Proof.Machine.execRaiseTimerExpiry k s
  | .lowerTimerExpiry k => Sys2Proof.Machine.execLowerTimerExpiry k s
  | .retryTimerExpiry k => Sys2Proof.Machine.execRetryTimerExpiry k s
  | .contactLossTimerExpiry k => Sys2Proof.Machine.execContactLossTimerExpiry k s
  | .travelTimerExpiry k => Sys2Proof.Machine.execTravelTimerExpiry k s
  | .bkiRampTimerExpiry => Sys2Proof.Machine.execBkiRampTimerExpiry s
  | .auxMade => Sys2Proof.Machine.execAuxMade s
  | .auxReleased => Sys2Proof.Machine.execAuxReleased s
  | .closeTimeout => Sys2Proof.Machine.execCloseTimeout s
  | .openTimeout => Sys2Proof.Machine.execOpenTimeout s
  | .openCheckEnd => Sys2Proof.Machine.execOpenCheckEnd s
  | .recloseDelayExpiry => Sys2Proof.Machine.execRecloseDelayExpiry s
  | .tripWindowExpiry => Sys2Proof.Machine.execTripWindowExpiry s
  | .gateEnd => Sys2Proof.Machine.execGateEnd s
  | .scanCompletion => Sys2Proof.Machine.execScanCompletion s
  | .heaterDriveEdge k => Sys2Proof.Machine.execHeaterDriveEdge k s
  | .fallTimerExpiry => Sys2Proof.Machine.execFallTimerExpiry s
  | .csuSample amps => Sys2Proof.Machine.execCsuSample amps s
  | .widthHalfPoint => Sys2Proof.Machine.execWidthHalfPoint s
  | .widthTimerEnd => Sys2Proof.Machine.execWidthTimerEnd s
  | .overloadTimerExpiry => Sys2Proof.Machine.execOverloadTimerExpiry s
  | .dropoutTimerExpiry k => Sys2Proof.Machine.execDropoutTimerExpiry k s
  | .bucketTurnover => Sys2Proof.Machine.execBucketTurnover s
  | .byteReceived l b stopBitError => Sys2Proof.Machine.execByteReceived l b stopBitError s
  | .rfcCxRisingEdge => Sys2Proof.Machine.execRfcCxRisingEdge s

end Sys2Proof.Machine
end

