-- ==== Sys2Proof/Safety.lean ====
section
/-! DEFINITION. What counts as a safe state of the K44: the laws the manual states over the whole part, in its own
terms. Then the words the statements use: which request a command serves, when a request starts service, a reply on its way,
and the values of a reset. -/

namespace Sys2Proof

open Machine in
/-- The link a request row names, and the request it serves (R189, R200); none for the rows that are no request. -/
def Instr.request? : Instr → Option (Link × Req)
  | .reportPosition l => some (l, .reportPosition)
  | .reverse l => some (l, .reverse)
  | .readPosition l => some (l, .readPosition)
  | .postEvent l => some (l, .postEvent)
  | .cancelEvent l => some (l, .cancelEvent)
  | .resumeQueue l => some (l, .resumeQueue)
  | .readQueue l => some (l, .readQueue)
  | .readClosed l => some (l, .readClosed)
  | .readLine l => some (l, .readLine)
  | .setSlot l => some (l, .setSlot)
  | .unlockSlot l => some (l, .unlockSlot)
  | .readSlot l => some (l, .readSlot)
  | .setDemand l => some (l, .setDemand)
  | .writeRule l => some (l, .writeRule)
  | .readRule l => some (l, .readRule)
  | .readTarget l => some (l, .readTarget)
  | .readBreaker l => some (l, .readBreaker)
  | .readPassage l => some (l, .readPassage)
  | .readIce l => some (l, .readIce)
  | .clearTro l => some (l, .clearTro)
  | .readCurrent l => some (l, .readCurrent)
  | .clearFlags l => some (l, .clearFlags)
  | .clearFault l => some (l, .clearFault)
  | .getFlags l => some (l, .getFlags)
  | .setNoticeMask l => some (l, .setNoticeMask)
  | .takeCommand l => some (l, .takeCommand)
  | .getStatus l => some (l, .getStatus)
  | .readParam l => some (l, .readParam)
  | .setParam l => some (l, .setParam)
  | .resetPart l => some (l, .resetPart)
  | _ => none

end Sys2Proof

namespace Sys2Proof.Machine

/-- R103: BRK_HOLD is asserted only while a slot qualifies for item (c), no closing inhibit is latched, the queue is not
HALTED, and no section entry is ACTIVE other than in the RAMP step of its passage. -/
def State.holdLaw (s : State) : Prop :=
  s.bki.hold = true →
    (s.slots.any (fun x => x.qualifies s.lsu.confirmed s.cs.demand.expected) = true) ∧ s.inhibited = false ∧
      s.teq.halted = false ∧ (s.teq.anyActive = true → s.psq.step = some .ramp)

/-- R25: the Posted counter equals the number of queued entries plus the Closed counter, modulo 2^32. -/
def Teq.countersLaw (q : Teq) : Prop := q.posted = BitVec.ofNat 32 q.entries.length + q.closedCount

/-- R17, R19, R24: at most 16 entries and at most 8 closed records. -/
def Teq.sizeLaw (q : Teq) : Prop := q.entries.length ≤ 16 ∧ q.closed.length ≤ 8

/-- R21: no two queued entries carry the same tag, and the spans of one class are pairwise disjoint. -/
def Teq.disjointLaw (q : Teq) : Prop :=
  q.entries.Pairwise (fun x y => x.tag ≠ y.tag ∧
    (x.kind.isSection = y.kind.isSection → overlaps x.start x.len y.start y.len = false))

/-- R53, R54, R61: the laws of the slot records. The role in effect is the one its target role and its disconnector give;
the setpoint is 0 outside RAISING and UP; the lock reasons are non-empty exactly while LOCKED; DISABLED is exactly not
enabled; the retry count is at most 3. -/
def State.slotLaw (s : State) : Prop :=
  ∀ k, (s.slots.get k).role = roleFor (s.slots.get k).tRole (s.slots.get k).dsc.state ∧
    ((s.slots.get k).state ≠ .raising → (s.slots.get k).state ≠ .up → (s.slots.get k).prv = 0) ∧
    ((s.slots.get k).locks = .empty ↔ (s.slots.get k).state ≠ .locked) ∧
    ((s.slots.get k).state = .disabled ↔ (s.slots.get k).enabled = false) ∧ (s.slots.get k).retryCount ≤ 3

/-- R149: at most two heaters are driven, and none whose slot has a latched heater fault or an invalid strip
temperature. -/
def Icu.heaterLaw (i : Icu) : Prop :=
  (allSlots.filter (fun k => i.htr.get k)).length ≤ 2 ∧
    ∀ k, i.htr.get k = true → i.heaterFault.get k = false ∧ (i.strip.get k).valid = true

/-- R148, R149: the grants that stand keep the heater law through the scan: at most two, to slots without a latched
fault and with a valid temperature, and only granted heaters are driven. -/
def Icu.grantLaw (i : Icu) : Prop :=
  (allSlots.filter (fun k => i.grant.get k)).length ≤ 2 ∧
    (∀ k, i.grant.get k = true → i.heaterFault.get k = false ∧ (i.strip.get k).valid = true) ∧
    ∀ k, i.htr.get k = true → i.grant.get k = true

/-- R173: ten buckets a slot, each at most 255. -/
def Csu.bucketLaw (c : Csu) : Prop :=
  ∀ k, (c.buckets.get k).length = 10 ∧ ∀ b ∈ c.buckets.get k, b ≤ 255

/-- R164: TRO has the level its reasons give. -/
def Csu.troLaw (c : Csu) : Prop := c.tro = c.troLevel

/-- R2, R3, R8: the ranges of the Position Estimator. -/
def Pe.rangeLaw (p : Pe) : Prop := p.v ≤ 12000 ∧ p.uRep ≤ 10000 ∧ p.u ≤ 65535 ∧ p.age ≤ ageLimit

/-- R162: each effective limit is at most the table value for the system and column in use, and 0 while the expected
system is UNSET. -/
def State.limitLaw (s : State) : Prop :=
  ∀ k, match s.csu.expected with
    | none => s.csu.limit.get k = 0
    | some x => s.csu.limit.get k ≤ s.limitParam x (decide (s.csu.band = 0))

/-- R19: at most one ice zone is INSIDE. -/
def Teq.insideLaw (q : Teq) : Prop := (q.entries.filter (fun e => decide (e.status = .inside))).length ≤ 1

/-- R18, R19: a section entry is QUEUED, ARMED or ACTIVE, an ice zone QUEUED or INSIDE, and every length is 100 to 300,000 cm. -/
def Teq.entryLaw (q : Teq) : Prop :=
  ∀ e ∈ q.entries, (e.kind.isSection = true → e.status ≠ .inside) ∧ (e.kind.isSection = false → e.held = false) ∧
    100 ≤ e.len ∧ e.len ≤ 300000

/-- R17 to R25: the laws of the queue together. -/
def Teq.law (q : Teq) : Prop := q.countersLaw ∧ q.sizeLaw ∧ q.disjointLaw ∧ q.insideLaw ∧ q.entryLaw

/-- R20: the order of the queue is the order of signed(S_i - S_j), a section before an ice zone at the same start. -/
def Teq.orderLaw (q : Teq) : Prop :=
  q.entries.Pairwise (fun x y => signedDiff x.start y.start < 0 ∨
    (x.start = y.start ∧ x.kind.isSection = true ∧ y.kind.isSection = false))

/-- R19: at most one entry is ARMED or ACTIVE, that one being the nearest section entry. -/
def Teq.heldLaw (q : Teq) : Prop :=
  (q.entries.filter (fun e => e.held)).length ≤ 1 ∧ ∀ e ∈ q.entries, e.held = true → q.nearest = some e

/-- R19, R20: the order of the queue, and the place of the entry in passage. -/
def Teq.placeLaw (q : Teq) : Prop := q.orderLaw ∧ q.heldLaw

/-- R196, R203: 36 parameters, each within its range. -/
def Lif.paramLaw (x : Lif) : Prop :=
  x.params.length = 36 ∧
    ∀ i < 36, (paramRanges.getD i (0, 0)).1 ≤ x.params.getD i 0 ∧ x.params.getD i 0 ≤ (paramRanges.getD i (0, 0)).2

/-- R7, R8: outside NO_FIX, U is at most what the report's uncertainty and the distance dead-reckoned at the present age
give. -/
def Pe.growthLaw (p : Pe) : Prop :=
  p.status ≠ .noFix → p.u ≤ min 65535 (p.uRep + ceilDiv p.travelled 64)

/-! ### Words of the statements -/

/-- The request r with payload p can start service on a link: the part runs, the request is the oldest in the link's
buffer, none is under service there, no reply is waiting or being sent, and no command change is pending (R189). -/
structure State.Starts (s : State) (l : Link) (r : Req) (p : List Byte) : Prop where
  running : s.inReset = false
  oldest : (s.linkOf l).buffer.head? = some ⟨r.code, p⟩
  idle : (s.linkOf l).serving = false
  noneReady : (s.linkOf l).ready = none
  notReplying : ∀ f, (s.linkOf l).tx ≠ .reply f
  noTake : s.lif.take = none
  noLevel : s.lif.selChange = none
  noPass : s.lif.pass = none

/-- The request starts service on the link that holds command, with the payload length of its row (R189). -/
structure State.Commands (s : State) (l : Link) (r : Req) (p : List Byte) : Prop extends State.Starts s l r p where
  length : p.length = r.len
  holds : s.lif.holder = some l

/-- The reply to a request code, with this payload, on its way: sent at once by an idle transmitter, waiting behind a
notice (R190, R199). -/
def State.replied (l : Link) (code : Nat) (payload : List Byte) (s : State) : State :=
  s.updLink l (fun x =>
    match x.tx with
    | .idle => { x with tx := .reply (mkFrame (code + 0x80) payload) }
    | .notice _ => { x with ready := some (mkFrame (code + 0x80) payload) }
    | .reply _ => { x with ready := some (mkFrame (code + 0x80) payload) })

/-- The request is under service, its reply is on its way, and nothing else has changed (R189, R190). -/
def State.answered (l : Link) (code : Nat) (payload : List Byte) (s : State) : State :=
  (s.beginService l).replied l code payload

/-- A byte that carries a number. -/
abbrev byte (n : Nat) : Byte := BitVec.ofNat 8 n

/-- A two-valued item at a bit of a byte (R198). -/
abbrev at2 (b : Bool) (i : Nat) : Nat := b.toNat * 2 ^ i

/-- The state after a number of steps, each answering a next state. -/
def State.after : Nat → State → Option State
  | 0, s => some s
  | n + 1, s =>
    match step s with
    | .next t => State.after n t
    | .fault _ => none
    | .refused _ => none

/-- A filter that has held this raw level for its time while the other level was accepted (R55). -/
def Filter.due (f : Filter) (level : Bool) : Prop := f.raw = level ∧ f.acc = !level ∧ f.wait.isSome = true

/-- A filter that has accepted this level (R55). -/
def Filter.at (level : Bool) : Filter := ⟨level, level, none⟩

/-- The slot's record and the flags its event raises, before anything is handed on (R79). -/
def State.slotNow (k : SlotId) (x : Slot) (fs : List Flag) (s : State) : State :=
  { s with slots := s.slots.set k x }.raiseAll fs

/-- A chain's members run from a mask on: whether every one of them matches (R88, R89). -/
def chainMatches (cv : CondVec) : Nat → List Rule → Bool
  | _, [] => true
  | m, r :: rs =>
    match r.field with
    | .none => false
    | .mask => chainMatches cv r.value.toNat rs
    | f => r.op.test (cv.value f &&& m) r.value.toNat && chainMatches cv m rs

/-- The chains of a table, each with the index of its last member, where `taken` are the members taken so far of the chain
that runs at index `i` (R85). -/
def chainsFrom : Nat → List Rule → List Rule → List (Nat × List Rule)
  | _, _, [] => []
  | i, taken, r :: rs =>
    if r.chained then chainsFrom (i + 1) (taken ++ [r]) rs else (i, taken ++ [r]) :: chainsFrom (i + 1) [] rs

/-- The rules a WRITE_RULE stores at an index: the empty rule; a chained rule without an action, below index 47; a rule that
ends its chain, no MASK rule, with an action, whose profile is at most 3 (R85, R86). -/
def Rule.storable (i : Nat) (r : Rule) : Prop :=
  r = .empty ∨
    (r.field ≠ .none ∧ r.chained = true ∧ r.action = .absent ∧ i ≠ 47) ∨
    (r.field ≠ .none ∧ r.field ≠ .mask ∧ r.chained = false ∧ r.action ≠ .absent ∧ ∀ t, r.action = .target t → t.profile ≤ 3)

/-- The command at the front of the queue resets the part (R197). -/
def State.resets (s : State) : Prop :=
  ∃ c, s.pending.head? = some c ∧
    ((∃ p, c = .powerOn p) ∨ c = .rstNLow ∨ (∃ x b, c = .rstNRise x b) ∨ (s.inReset = true ∧ ∃ i, c = .inputRawChange i) ∨
      ∃ l, c = .frameSent l ∧ s.lif.resetDue = some l)

/-- Every block at its reset values (R2, R17, R36, R53, R80, R99, R114, R139, R160, R177, R186), where `pins` are the
levels present. -/
structure State.AtReset (t : State) (pins : Pins) : Prop where
  pe : t.pe = { p := 0, v := 0, uRep := 0, age := 65535000, e := 0, u := 65535, status := .noFix, band := 0, lead := .aEnd,
                refresh := some 10000 }
  teq : t.teq = { entries := [], closed := [], posted := 0, closedCount := 0, halted := false }
  lsu : t.lsu = { counter := 0, anchored := false, sinceCross := 2000, accN := 0, accSum := 0, accSq := 0,
                  magTimer := some 100, last := none, windows := 0, cand := none, candCount := 0, confirmed := .none,
                  overCount := 0, overvolt := false }
  slots : ∀ k, (t.slots.get k).enabled = false ∧ (t.slots.get k).offset = 0 ∧ (t.slots.get k).mask = 0 ∧
      (t.slots.get k).state = .disabled ∧ (t.slots.get k).tRole = .stow ∧ (t.slots.get k).tForce = .normal ∧
      (t.slots.get k).role = .stow ∧ (t.slots.get k).hold = .none ∧ (t.slots.get k).retryCount = 0 ∧
      (t.slots.get k).retryPending = false ∧ (t.slots.get k).roleDue = false ∧ (t.slots.get k).locks = .empty ∧ (t.slots.get k).contactLosses = 0
  slotInputs : ∀ k, (t.slots.get k).down = .at (pins.slots.get k).dn ∧ (t.slots.get k).contact = .at (pins.slots.get k).ct ∧
      (t.slots.get k).add = .at (pins.slots.get k).add ∧ (t.slots.get k).dsf = .at (pins.slots.get k).dsf
  slotOutputs : ∀ k, (t.slots.get k).prv = 0 ∧ (t.slots.get k).dmp = false ∧ (t.slots.get k).raise = none ∧
      (t.slots.get k).lower = none ∧ (t.slots.get k).retry = none ∧ (t.slots.get k).contactLoss = none ∧
      (t.slots.get k).dsc = if (pins.slots.get k).dsf then ⟨.opening, false, some 1500000⟩ else ⟨.opened, false, none⟩
  cs : t.cs = { demand := ⟨false, false, .auto, none⟩,
                cv := ⟨none, 0, 0, 1, false, .all false, false, .aEnd⟩,
                rules := List.replicate 48 ⟨.none, .eq, 0, false, .absent⟩,
                current := ⟨.all ⟨.stow, .normal⟩, 0⟩, pend := none, hold := false, lastEval := none, evals := 0 }
  bki : t.bki = { state := if pins.aux then .opening else .opened, kind := none, hold := false, aux := .at pins.aux,
                  sup := if pins.aux then some 200000 else none, ramp := none, reclose := none, tripWindow := none,
                  items := ⟨true, false, false, true, true, true, true⟩, wrongCond := false, wrongLatch := false,
                  brkFault := false }
  psq : t.psq = { phase := .none, plan := none, oLead := none, oRear := none, tLead := none, step := none, timeInStep := 0,
                  rampTimer := none, confirmTimer := none, seqHeld := false, slotHold := .none, emergency := false,
                  lastPoints := none }
  icu : t.icu = { chan := .ref, gate := some 50000, count := ⟨0, false⟩, lastRef := ⟨0, false⟩,
                  lastStrip := .all ⟨0, false⟩, lastAmb := ⟨0, false⟩, refFault := false,
                  strip := .all ⟨.none, 0, false, false⟩, amb := ⟨.none, 0, false, false⟩, ambBand := 1,
                  request := .all false, grant := .all false, heaterFault := .all false, htr := .all false, duty := 2,
                  computed := 0, measured := 0, fall := none, iceLevel := 0, scans := 0, zoneHint := 0,
                  iceDemand := .auto, roles := .all .stow, arcs := .all 0 }
  csu : t.csu = { hist := .all (List.replicate 20 ⟨0, false⟩), mean := .all 0, limit := .all 0, overMark := .all false,
                  overLimit := false, total := 0, seqHeld := false, demandHeld := false, overReason := .idle,
                  width := none, half := none, tro := false, seen := ⟨false, false, false⟩, overload := none,
                  overloadLatch := false, dropout := .all none, buckets := .all (List.replicate 10 0),
                  sample := some 1000, bucket := some 1000000, expected := none, band := 0, profile := 0,
                  roles := .all .stow, brk := if pins.aux then .opening else .opened }
  fnu : t.fnu = { flags := 0, mask := ⟨BitVec.allOnes 26, BitVec.allOnes 26⟩, notice := ⟨false, false⟩ }
  links : ∀ l, t.linkOf l = { rx := .hunting, gap := none, buffer := [], serving := false, tx := .idle, ready := none,
                              live := false, silence := none, since := 65535000, counters := ⟨0, 0, 0, 0⟩ }
  command : t.lif.sel = ⟨pins.sel, pins.sel, none⟩ ∧ t.lif.selInForce = pins.sel ∧
      t.lif.holder = (match pins.sel with
        | .low => some Link.a
        | .high => some Link.b
        | .opened => none) ∧
      t.lif.prio = none ∧ t.lif.take = none ∧ t.lif.selChange = none ∧ t.lif.pass = none ∧ t.lif.passDeferred = false ∧
      t.lif.resetDue = none
  params : t.lif.params =
    [40000, 400, 60, 200, 500, 3000, 10000, 8000, 5000, 500, 100000, 200000, 250, 50000, 3000, 80, 1, 0, 2000, 2000, 1000, 220,
     300, 360, 430, 2, 1, 2, 500, 120, 800, 200, 2000, 300, 3500, 500]

end Sys2Proof.Machine
end

