-- ==== Sys2Proof/Certificates/Slice0/Obligations.lean ====
section
/-! DEFINITION. The statements for the provers. A command of the table is said to complete by an equation `exec … = .next …`,
or by a next state with what it holds. Where the effects of a command are handed on between the blocks, the statement gives the
state that is handed on and `State.handOn` after it; what handing on leaves alone is a statement of its own. -/

open Sys2Proof Sys2Proof.Machine

/-! ### The part: steps, the clock, reset -/

/-- A step runs the command at the front of the queue on the state with the rest of the queue.
The queue is the model's (log 24). -/
def Obligations.StepRunsFrontCommand : Prop :=
  ∀ (s : State) (c : Instr) (rest : List Instr),
    s.pending = c :: rest → step s = exec c { s with pending := rest }

/-- With no command waiting a step lets one microsecond pass (the model's choice, log 1): the report age counts outside
NO_FIX and stops at 65,535 ms (R6), the period counter counts (R36), a running timer has a microsecond less, and what no
clock drives is as it was. While RST_N is held low nothing runs. -/
def Obligations.IdleStepLetsTimePass : Prop :=
  ∀ s : State, s.pending = [] →
    (s.inReset = true → step s = .next s) ∧
    (s.inReset = false → ∃ t, step s = .next t ∧
      t.pe.age = (if s.pe.status = .noFix then s.pe.age else min 65535000 (s.pe.age + 1)) ∧
      t.lsu.counter = min 65535 (s.lsu.counter + 1) ∧ t.lsu.sinceCross = min 2000 (s.lsu.sinceCross + 1) ∧
      t.bki.sup = s.bki.sup.map (· - 1) ∧ t.csu.width = s.csu.width.map (· - 1) ∧
      (∀ k, (t.slots.get k).raise = (s.slots.get k).raise.map (· - 1)) ∧
      (∀ l, (t.linkOf l).silence = (s.linkOf l).silence.map (· - 1)) ∧
      t.pe.e = s.pe.e ∧ t.pe.u = s.pe.u ∧ t.teq = s.teq ∧ t.cs = s.cs ∧ t.fnu = s.fnu ∧
      (∀ k, (t.slots.get k).state = (s.slots.get k).state) ∧ t.bki.state = s.bki.state ∧ t.csu.tro = s.csu.tro)

/-- Power-on, RST_N held low, its rise, and the end of the reply of an accepted RESET_PART set every block to the reset
values of its chapter, with the levels then at the pins. RESET_PART itself is answered OK first. -/
def Obligations.ResetSetsEveryBlock : Prop :=
  ∀ (s : State) (pins : Pins) (sel : SelLevel) (baud : Bool) (l : Link),
    (∃ t, exec (.powerOn pins) s = .next t ∧ t.AtReset pins ∧ t.inReset = false ∧ t.lif.baud = pins.baud) ∧
    (∃ t, exec .rstNLow s = .next t ∧ t.AtReset s.pins ∧ t.inReset = true) ∧
    (s.inReset = true → ∃ t, exec (.rstNRise sel baud) s = .next t ∧ t.AtReset { s.pins with sel := sel, baud := baud } ∧
      t.inReset = false ∧ t.lif.baud = baud) ∧
    (∀ f, s.inReset = false → (s.linkOf l).tx = .reply f → s.lif.resetDue = some l →
      ∃ t, exec (.frameSent l) s = .next t ∧ t.AtReset s.pins ∧ t.inReset = false) ∧
    (s.Commands l .resetPart [] →
      exec (.resetPart l) s = .next ({ s with lif := { s.lif with resetDue := some l } }.answered l 0x5F [0x00]))

/-- The state the model starts from has every block at its reset values, with the pin levels the model chooses (log 4), no
command waiting, and every law that the statements below say each step keeps. -/
def Obligations.StartStateIsAtReset : Prop :=
  State.reset.AtReset Pins.atRest ∧ State.reset.pending = [] ∧ State.reset.inReset = false ∧
    State.reset.holdLaw ∧ State.reset.teq.law ∧ State.reset.teq.placeLaw ∧ State.reset.slotLaw ∧ State.reset.icu.grantLaw ∧ State.reset.csu.troLaw ∧
    State.reset.csu.bucketLaw ∧ State.reset.limitLaw ∧ State.reset.pe.rangeLaw ∧ State.reset.pe.growthLaw ∧ State.reset.lif.paramLaw

/-- While RST_N is held low nothing but power, RST_N and the levels at the filtered inputs reaches the part. A level
that changes is the level present at the reset, and every block has its reset values with it (the model's reading, log 20). -/
def Obligations.HeldInResetNothingActs : Prop :=
  ∀ (s : State) (c : Instr), s.inReset = true →
    ((∀ p, c ≠ .powerOn p) → c ≠ .rstNLow → (∀ x b, c ≠ .rstNRise x b) → (∀ i, c ≠ .inputRawChange i) →
      exec c s = .next s) ∧
    (∀ i, ∃ t, exec (.inputRawChange i) s = .next t ∧ t.inReset = true ∧ t.lif.baud = s.lif.baud ∧
      let p := s.pins
      let slot (k : SlotId) (f : SlotPins → SlotPins) : Pins := { p with slots := p.slots.set k (f (p.slots.get k)) }
      t.AtReset (match i with
        | .dn k b => slot k (fun x => { x with dn := b })
        | .ct k b => slot k (fun x => { x with ct := b })
        | .add k b => slot k (fun x => { x with add := b })
        | .dsf k b => slot k (fun x => { x with dsf := b })
        | .aux b => { p with aux := b }
        | .sel x => { p with sel := x }))

/-! ### The links -/

/-- The bytes of a request frame, sent to a hunting receiver whose buffer holds at most one request, put exactly that
request at the end of the buffer. -/
def Obligations.FrameBytesReachTheBuffer : Prop :=
  ∀ (s : State) (l : Link) (code : Nat) (p : List Byte) (rest : List Instr),
    s.inReset = false → (s.linkOf l).rx = .hunting → (s.linkOf l).buffer.length ≤ 1 → code < 0x80 → p.length ≤ 56 →
    s.pending = (mkFrame code p).map (fun b => Instr.byteReceived l b false) ++ rest →
    ∃ t, s.after (p.length + 5) = some t ∧ t.pending = rest ∧
      (t.linkOf l).buffer = (s.linkOf l).buffer ++ [⟨code, p⟩] ∧ (t.linkOf l).rx = .hunting ∧ (t.linkOf l).gap = none ∧
      (t.linkOf l).live = true ∧ (t.linkOf l).since = 0 ∧
      (t.linkOf l).counters = { (s.linkOf l).counters with accepted := (s.linkOf l).counters.accepted + 1 }

/-- A receiver takes the bytes of R187's table, and discards the frame in progress on a LEN byte above 56, a stop-bit
error, or a gap of more than 2 ms. -/
def Obligations.ReceiverTakesBytes : Prop :=
  ∀ (s : State) (l : Link) (b : Byte), s.inReset = false →
    let discarded := s.updLink l (fun x => { x with rx := .hunting, gap := none, counters := { x.counters with discards := x.counters.discards + 1 } })
    ((s.linkOf l).rx = .hunting →
      (b ≠ 0xA5#8 → exec (.byteReceived l b false) s = .next s) ∧
      exec (.byteReceived l 0xA5#8 false) s = .next (s.updLink l (fun x => { x with rx := .inFrame [], gap := some 2000 })) ∧
      exec (.byteReceived l b true) s = .next s) ∧
    (∀ bs, (s.linkOf l).rx = .inFrame bs →
      exec (.byteReceived l b true) s = .next discarded ∧
      (bs.length = 1 → 56 < b.toNat → exec (.byteReceived l b false) s = .next discarded) ∧
      (bs = [] ∨ (bs.length = 1 ∧ b.toNat ≤ 56) ∨ (2 ≤ bs.length ∧ bs.length < (bs.getD 1 0).toNat + 3) →
        exec (.byteReceived l b false) s = .next (s.updLink l (fun x => { x with rx := .inFrame (bs ++ [b]), gap := some 2000 })))) ∧
    ((s.linkOf l).gap.isSome = true → exec (.rxGapTimeout l) s = .next discarded)

/-- At the last check byte a frame whose check does not match counts a check error and raises LINK_ERR; a frame whose
check matches makes the link LIVE, restarts its silence timer, and is taken by R189. A link that becomes LIVE with SEL OPEN
while the other link holds command and is SILENT has a pass made pending to it, which takes effect at once where no request is
under service (R193, R194). -/
def Obligations.LastByteTakesTheFrame : Prop :=
  ∀ (s : State) (l : Link) (b : Byte) (bs : List Byte), s.inReset = false → (s.linkOf l).rx = .inFrame bs →
    3 ≤ bs.length → bs.length = (bs.getD 1 0).toNat + 3 →
    let x := s.linkOf l
    let body := (bs ++ [b]).take (bs.length - 1)
    let sent := (bs ++ [b]).drop (bs.length - 1)
    (be sent ≠ (check body).toNat →
      exec (.frameReceived l b) s = .next ((s.updLink l (fun x => { x with rx := .hunting, gap := none, counters := { x.counters with checkErrors := x.counters.checkErrors + 1 } })).raise .linkErr)) ∧
    (be sent = (check body).toNat → ∃ t, exec (.frameReceived l b) s = .next t ∧
      (t.linkOf l).rx = .hunting ∧ (t.linkOf l).gap = none ∧ (t.linkOf l).live = true ∧ (t.linkOf l).since = 0 ∧
      (t.linkOf l).silence = some (s.linkSilent * 1000) ∧
      (128 ≤ (bs.getD 0 0).toNat → (t.linkOf l).buffer = x.buffer ∧
        (t.linkOf l).counters = { x.counters with discards := x.counters.discards + 1 }) ∧
      ((bs.getD 0 0).toNat < 128 → 2 ≤ x.buffer.length → (t.linkOf l).buffer = x.buffer ∧
        (t.linkOf l).counters = { x.counters with overruns := x.counters.overruns + 1 } ∧ FlagSet.has t.fnu.flags .linkErr = true) ∧
      ((bs.getD 0 0).toNat < 128 → x.buffer.length ≤ 1 →
        (t.linkOf l).buffer = x.buffer ++ [⟨(bs.getD 0 0).toNat, body.drop 2⟩] ∧
        (t.linkOf l).counters = { x.counters with accepted := x.counters.accepted + 1 }) ∧
      let passes := x.live = false ∧ s.lif.sel.acc = .opened ∧ s.lif.holder = some l.other ∧ (s.linkOf l.other).live = false
      (¬ passes → t.lif.holder = s.lif.holder ∧ t.lif.prio = s.lif.prio ∧ t.lif.pass = s.lif.pass) ∧
      (passes → s.lif.take = none → s.lif.selChange = none → s.lif.passDeferred = false →
        ((∀ k, (s.linkOf k).serving = false) → t.lif.holder = some l ∧ t.lif.prio = some 1 ∧ t.lif.pass = none ∧
          FlagSet.has t.fnu.flags .handover = true) ∧
        ((∃ k, (s.linkOf k).serving = true) → t.lif.holder = some l.other ∧ t.lif.prio = s.lif.prio ∧ t.lif.pass = some l))) ∧
    exec (.byteReceived l b false) s = exec (.frameReceived l b) s

/-- A request frame with a code that is none of the part's is answered UNKNOWN_REQ; every request row is tested for its
length and then, if it changes state, for its link's command. A refused request is answered with the status alone and
changes nothing. -/
def Obligations.RefusedRequestsChangeNothing : Prop :=
  (∀ (s : State) (l : Link) (code : Nat) (p : List Byte), s.Starts l ⟨code, 0, false⟩ p →
    code ∉ [0x01, 0x02, 0x03, 0x10, 0x11, 0x12, 0x13, 0x14, 0x18, 0x20, 0x21, 0x22, 0x28, 0x29, 0x2A, 0x2B, 0x30, 0x34, 0x38,
      0x3C, 0x3D, 0x40, 0x41, 0x42, 0x43, 0x50, 0x51, 0x52, 0x53, 0x5F] →
    exec (.unknownReq l) s = .next (s.answered l code [0x02])) ∧
  (∀ (s : State) (c : Instr) (l : Link) (r : Req) (p : List Byte), c.request? = some (l, r) → s.Starts l r p →
    (p.length ≠ r.len → exec c s = .next (s.answered l r.code [0x03])) ∧
    (p.length = r.len → r.changes = true → s.lif.holder ≠ some l → exec c s = .next (s.answered l r.code [0x05])))

/-- Served on the observer link, a request other than TAKE_COMMAND and SET_NOTICE_MASK leaves every part of the state
but that link as it is: the next state differs from the state in that link's record alone. -/
def Obligations.ObserverLinkChangesNothing : Prop :=
  ∀ (s t : State) (c : Instr) (l : Link) (r : Req), c.request? = some (l, r) → s.lif.holder ≠ some l →
    (∀ k, c ≠ .takeCommand k) → (∀ k, c ≠ .setNoticeMask k) → exec c s = .next t →
    t = { s with lif := { s.lif with link := t.lif.link } } ∧ t.linkOf l.other = s.linkOf l.other

/-- The end of a frame: a reply that has been sent ends its service and leaves the buffer; then the reply that stands ready
is sent, else a pending notice with the contents held, else nothing. An idle transmitter starts a pending notice.
A command change that is pending at the end of a reply stays pending for COMMAND_CHANGE_EFFECT (the model's choice, log 28). -/
def Obligations.TransmitterFollowsItsTable : Prop :=
  ∀ (s : State) (l : Link), s.inReset = false →
    let contents : List Byte := toBE 4 s.fnu.flags.toNat ++
      [byte s.lsu.confirmed.code, byte s.bki.state.code, byte (s.slots.ps0.state.code + 16 * s.slots.ps1.state.code),
       byte (s.slots.ps2.state.code + 16 * s.slots.ps3.state.code)] ++
      (match s.teq.entries with
       | [] => [0, 0]
       | e :: _ => [e.tag, byte e.status.code])
    let taken : State := { s with fnu := { s.fnu with notice := s.fnu.notice.set l false } }
    let done : LinkState → LinkState := fun x => { x with serving := false, buffer := x.buffer.tail }
    (∀ f, (s.linkOf l).tx = .reply f → s.lif.resetDue ≠ some l →
      (∀ g, (s.linkOf l).ready = some g →
        exec (.frameSent l) s = .next (s.updLink l (fun x => { done x with tx := .reply g, ready := none }))) ∧
      ((s.linkOf l).ready = none → s.fnu.notice.get l = false →
        exec (.frameSent l) s = .next (s.updLink l (fun x => { done x with tx := .idle }))) ∧
      ((s.linkOf l).ready = none → s.fnu.notice.get l = true →
        exec (.frameSent l) s = .next (taken.updLink l (fun x => { done x with tx := .notice (mkFrame 0xFF contents) })))) ∧
    (∀ f, (s.linkOf l).tx = .notice f →
      (∀ g, (s.linkOf l).ready = some g →
        exec (.frameSent l) s = .next (s.updLink l (fun x => { x with tx := .reply g, ready := none }))) ∧
      ((s.linkOf l).ready = none → s.fnu.notice.get l = false →
        exec (.frameSent l) s = .next (s.updLink l (fun x => { x with tx := .idle }))) ∧
      ((s.linkOf l).ready = none → s.fnu.notice.get l = true →
        exec (.frameSent l) s = .next (taken.updLink l (fun x => { x with tx := .notice (mkFrame 0xFF contents) })))) ∧
    ((s.linkOf l).tx = .idle → (s.linkOf l).ready = none → s.fnu.notice.get l = true →
      exec (.noticeStart l) s = .next (taken.updLink l (fun x => { x with tx := .notice (mkFrame 0xFF contents) })))

/-- TAKE_COMMAND by the rows of R192. A granted take is made pending; with no other request under service it takes effect
at once, and its reply follows.
How the holder and the priority stand in the reply is the model's choice (log 10). -/
def Obligations.TakeCommandByItsTable : Prop :=
  ∀ (s : State) (l : Link) (b : Byte), s.Starts l .takeCommand [b] →
    let held := byte (holderCode s.lif.holder + 4 * (s.lif.prio.getD 0 % 8))
    let exceeds := s.lif.holder = none ∨ (∃ h, s.lif.holder = some h ∧ (s.linkOf h).live = false) ∨ s.lif.prio.getD 0 < b.toNat
    (s.lif.sel.acc ≠ .opened → exec (.takeCommand l) s = .next (s.answered l 0x50 [0x0F, held])) ∧
    (s.lif.sel.acc = .opened → b.toNat < 1 ∨ 7 < b.toNat → exec (.takeCommand l) s = .next (s.answered l 0x50 [0x04, held])) ∧
    (s.lif.sel.acc = .opened → 1 ≤ b.toNat → b.toNat ≤ 7 → s.lif.holder = some l →
      exec (.takeCommand l) s = .next ({ s with lif := { s.lif with prio := some b.toNat } }.answered l 0x50
        [0x00, byte (holderCode (some l) + 4 * b.toNat)])) ∧
    (s.lif.sel.acc = .opened → 1 ≤ b.toNat → b.toNat ≤ 7 → s.lif.holder ≠ some l → ¬ exceeds →
      exec (.takeCommand l) s = .next (s.answered l 0x50 [0x06, held])) ∧
    (s.lif.sel.acc = .opened → 1 ≤ b.toNat → b.toNat ≤ 7 → s.lif.holder ≠ some l → exceeds →
      ((s.linkOf l.other).serving = true →
        exec (.takeCommand l) s = .next ({ s with lif := { s.lif with take := some (l, b.toNat) } }.beginService l)) ∧
      ((s.linkOf l.other).serving = false → s.lif.selInForce = .opened → s.lif.passDeferred = false →
        ∃ t, exec (.takeCommand l) s = .next t ∧ t.lif.holder = some l ∧ t.lif.prio = some b.toNat ∧ t.lif.take = none ∧
          FlagSet.has t.fnu.flags .handover = true ∧
          t.linkOf l = (s.answered l 0x50 [0x00, byte (holderCode (some l) + 4 * b.toNat)]).linkOf l))

/-- A command change takes effect when no request is under service, apart from a pending take itself (R193). A new level of
SEL names the holder, or keeps it with priority 1 when OPEN (R191), and replaces a pending pass; back at the level in force it
lapses. A take makes its link the holder with its priority; with a level change beside it the level is applied first, and with SEL
driven the take is answered FIXED_SEL. A pass on silence lapses if the holder has become LIVE again or the link it passes to SILENT.
A change of holder raises HANDOVER.
That COMMAND_CHANGE_EFFECT is the moment is the model's choice (log 28), and a pass that arose while another change was pending
follows it by the model's reading (log 19). -/
def Obligations.CommandChangesTakeEffect : Prop :=
  (∀ (s : State) (lvl : SelLevel), s.inReset = false → s.lif.take = none →
    let named := match lvl with
      | .low => some Link.a
      | .high => some Link.b
      | .opened => s.lif.holder
    let applied (t : State) : Prop := t.lif.selInForce = lvl ∧ t.lif.selChange = none ∧ t.lif.pass = none ∧ t.lif.holder = named ∧
      t.lif.prio = (match lvl with
        | .low => none
        | .high => none
        | .opened => s.lif.holder.map (fun _ => 1)) ∧
      (t.lif.holder ≠ s.lif.holder → FlagSet.has t.fnu.flags .handover = true)
    (s.lif.sel.raw = lvl → s.lif.sel.wait.isSome = true → lvl ≠ s.lif.selInForce → s.lif.passDeferred = false →
      ((∀ l, (s.linkOf l).serving = false) →
        ∃ t, exec .selAcceptedChange s = .next t ∧ applied t ∧ t.lif.sel = ⟨lvl, lvl, none⟩) ∧
      ((∃ l, (s.linkOf l).serving = true) →
        exec .selAcceptedChange s = .next { s with lif := { s.lif with sel := ⟨lvl, lvl, none⟩, selChange := some lvl, pass := none } })) ∧
    (s.lif.sel.raw = lvl → s.lif.sel.wait.isSome = true → lvl = s.lif.selInForce →
      exec .selAcceptedChange s = .next { s with lif := { s.lif with
        sel := ⟨lvl, lvl, none⟩, selChange := none, pass := none, passDeferred := false } }) ∧
    (s.lif.selChange = some lvl → s.lif.pass = none → (∀ l, (s.linkOf l).serving = false) →
      (s.lif.passDeferred = false → ∃ t, exec .commandChangeEffect s = .next t ∧ applied t) ∧
      (s.lif.passDeferred = true → s.lif.sel.acc = lvl → ∃ t, exec .commandChangeEffect s = .next t ∧ t.lif.passDeferred = false ∧
        (lvl ≠ .opened ∨ s.lif.holder = none → applied t) ∧
        (∀ h, lvl = .opened → s.lif.holder = some h → t.lif.selInForce = lvl ∧ t.lif.selChange = none ∧ t.lif.pass = none ∧
          t.lif.prio = some 1 ∧
          ((s.linkOf h).live = false → (s.linkOf h.other).live = true →
            t.lif.holder = some h.other ∧ FlagSet.has t.fnu.flags .handover = true) ∧
          ((s.linkOf h).live = true ∨ (s.linkOf h.other).live = false → t.lif.holder = some h)))) ∧
    (s.lif.selChange = some lvl → (∃ l, (s.linkOf l).serving = true) → exec .commandChangeEffect s = .next s)) ∧
  (∀ (s : State) (l : Link) (q : Nat), s.inReset = false → s.lif.take = some (l, q) → s.lif.pass = none →
    let replied (status : Byte) (holder : Option Link) (prio : Nat) : LinkState :=
      (s.replied l 0x50 [status, byte (holderCode holder + 4 * (prio % 8))]).linkOf l
    ((s.linkOf l.other).serving = true → exec .commandChangeEffect s = .next s) ∧
    ((s.linkOf l.other).serving = false → s.lif.passDeferred = false →
      (∀ lvl, s.lif.selChange.getD s.lif.selInForce = lvl →
        (lvl = .opened → ∃ t, exec .commandChangeEffect s = .next t ∧ t.lif.holder = some l ∧ t.lif.prio = some q ∧
          t.lif.take = none ∧ t.lif.selChange = none ∧ t.lif.pass = none ∧ t.lif.selInForce = lvl ∧
          t.linkOf l = replied 0x00 (some l) q ∧ (s.lif.holder ≠ some l → FlagSet.has t.fnu.flags .handover = true)) ∧
        (∀ h, s.lif.selChange.isSome = true → (lvl = .low ∧ h = Link.a) ∨ (lvl = .high ∧ h = Link.b) →
          ∃ t, exec .commandChangeEffect s = .next t ∧ t.lif.holder = some h ∧ t.lif.prio = none ∧ t.lif.take = none ∧
            t.lif.selChange = none ∧ t.lif.pass = none ∧ t.lif.selInForce = lvl ∧ t.linkOf l = replied 0x0F (some h) 0 ∧
            (s.lif.holder ≠ some h → FlagSet.has t.fnu.flags .handover = true)))) ∧
    ((s.linkOf l.other).serving = false → (s.linkOf l).serving = true → s.lif.passDeferred = true → s.lif.selChange = none →
      s.lif.selInForce = .opened → s.lif.sel.acc = .opened →
      ∃ t, exec .commandChangeEffect s = .next t ∧ t.lif.holder = some l ∧ t.lif.prio = some q ∧ t.lif.take = none ∧
        t.lif.passDeferred = false ∧
        ((s.linkOf l).live = false ∧ (s.linkOf l.other).live = true → t.lif.pass = some l.other) ∧
        ((s.linkOf l).live = true ∨ (s.linkOf l.other).live = false → t.lif.pass = none))) ∧
  (∀ (s : State) (l : Link), s.inReset = false → s.lif.take = none → s.lif.selChange = none → s.lif.passDeferred = false →
    s.lif.pass = some l →
    ((∀ k, (s.linkOf k).serving = false) →
      (∀ h, s.lif.holder = some h → (s.linkOf h).live = false → (s.linkOf l).live = true →
        ∃ t, exec .commandChangeEffect s = .next t ∧ t.lif.holder = some l ∧ t.lif.prio = some 1 ∧ t.lif.pass = none ∧
          FlagSet.has t.fnu.flags .handover = true) ∧
      (∀ h, s.lif.holder = some h → (s.linkOf h).live = true ∨ (s.linkOf l).live = false →
        exec .commandChangeEffect s = .next { s with lif := { s.lif with pass := none } })) ∧
    ((∃ k, (s.linkOf k).serving = true) → exec .commandChangeEffect s = .next s))

/-- The expiry of a silence timer makes its link SILENT; for the holder LINK_SILENT rises and, with SEL OPEN and the other
link LIVE, command passes, or is marked to pass once the take or the level change that is pending has taken effect; with both
links SILENT Demand power is 0 (R193, R194; the mark is the model's reading, log 19). -/
def Obligations.SilenceExpiryBySupervision : Prop :=
  ∀ (s : State) (l : Link), s.inReset = false → (s.linkOf l).silence.isSome = true →
    ∃ t, exec (.silenceTimerExpiry l) s = .next t ∧ (t.linkOf l).live = false ∧ (t.linkOf l).silence = none ∧
      (s.lif.holder = some l → FlagSet.has t.fnu.flags .linkSilent = true) ∧
      ((s.linkOf l.other).live = false → t.cs.demand.power = false) ∧
      ((s.linkOf l.other).live = true → t.cs.demand.power = s.cs.demand.power) ∧
      (s.lif.holder ≠ some l ∨ s.lif.sel.acc ≠ .opened ∨ (s.linkOf l.other).live = false →
        t.lif.holder = s.lif.holder ∧ t.lif.prio = s.lif.prio ∧ t.lif.pass = s.lif.pass) ∧
      (s.lif.holder = some l → s.lif.sel.acc = .opened → (s.linkOf l.other).live = true → s.lif.take = none →
        s.lif.selChange = none → s.lif.passDeferred = false →
        ((∀ k, (s.linkOf k).serving = false) → t.lif.holder = some l.other ∧ t.lif.prio = some 1 ∧ t.lif.pass = none ∧
          FlagSet.has t.fnu.flags .handover = true) ∧
        ((∃ k, (s.linkOf k).serving = true) → t.lif.holder = some l ∧ t.lif.pass = some l.other)) ∧
      (s.lif.holder = some l → s.lif.sel.acc = .opened → (s.linkOf l.other).live = true →
        (s.lif.take = none ∧ s.lif.selChange.isSome = true ∧ ∃ k, (s.linkOf k).serving = true) ∨
          (∃ k q, s.lif.take = some (k, q) ∧ (s.linkOf k.other).serving = true) →
        t.lif.holder = some l ∧ t.lif.prio = s.lif.prio ∧ t.lif.pass = s.lif.pass ∧ t.lif.take = s.lif.take ∧
          t.lif.selChange = s.lif.selChange ∧ t.lif.passDeferred = true)

/-- The 34 bytes of a GET_STATUS reply. -/
def Obligations.StatusReplyIs34Bytes : Prop :=
  ∀ (s : State) (l : Link), s.Starts l .getStatus [] →
    let link (x : LinkState) : List Byte := toBE 2 (x.since / 1000) ++ toBE 2 x.counters.accepted.toNat ++
      toBE 2 x.counters.checkErrors.toNat ++ toBE 2 x.counters.overruns.toNat ++ toBE 2 x.counters.discards.toNat
    exec (.getStatus l) s = .next (s.answered l 0x51
      ([0x00, byte ((if l = .b then 1 else 0) + 2 * selCode s.lif.sel.acc + 8 * holderCode s.lif.holder + 32 * (s.lif.prio.getD 0 % 8)),
        byte (at2 (s.linkOf .a).live 2 + at2 s.fnu.notice.a 3 + at2 (s.linkOf .b).live 4 + at2 s.fnu.notice.b 5)] ++
       link (s.linkOf .a) ++ link (s.linkOf .b) ++ toBE 4 s.fnu.flags.toNat ++
       [byte s.lsu.confirmed.code, byte s.bki.state.code, byte (s.slots.ps0.state.code + 16 * s.slots.ps1.state.code),
        byte (s.slots.ps2.state.code + 16 * s.slots.ps3.state.code)] ++
       (match s.teq.entries with
        | [] => [0, 0]
        | e :: _ => [e.tag, byte e.status.code]) ++
       [byte (s.pe.status.code + 4 * (s.pe.band % 4) + 16 * s.pe.lead.code + at2 s.csu.tro 5 + at2 s.csu.overloadLatch 6)]))

/-- READ_PARAM answers the identifier and the value held; SET_PARAM stores the value, clamped to its range, and answers
what it stored. Above 0x23 both refuse. A LIMIT value is handed on; another value starts nothing. Every step keeps the 36 values
within their ranges.
That only a LIMIT value is handed on is the model's reading (log 25). -/
def Obligations.ParametersAreReadAndStored : Prop :=
  ∀ (s : State) (l : Link) (i a b c d : Byte),
    let v := be [a, b, c, d]
    let w := clampTo (paramRanges.getD i.toNat (0, 0)) v
    let reply : List Byte := [if w = v then 0x00 else 0x01, i] ++ toBE 4 w
    (s.Starts l .readParam [i] →
      (i.toNat ≤ 0x23 → exec (.readParam l) s = .next (s.answered l 0x52 ([0x00, i] ++ toBE 4 (s.lif.params.getD i.toNat 0)))) ∧
      (0x23 < i.toNat → exec (.readParam l) s = .next (s.answered l 0x52 [0x04]))) ∧
    (s.Commands l .setParam [i, a, b, c, d] →
      (i.toNat < 0x1C → exec (.setParam l) s = .next ((State.storeParam i.toNat w s).answered l 0x53 reply)) ∧
      (0x1C ≤ i.toNat → i.toNat ≤ 0x23 →
        exec (.setParam l) s = .next (((State.storeParam i.toNat w (s.beginService l)).handOn).replied l 0x53 reply)) ∧
      (0x23 < i.toNat → exec (.setParam l) s = .next (s.answered l 0x53 [0x04]))) ∧
    (∀ u t : State, u.lif.paramLaw → step u = .next t → t.lif.paramLaw)

/-! ### The Position Estimator -/

/-- A REPORT_POSITION is accepted in every status: the clamps of R3, the values of R4 with the status of R9 and the band of
R11, the flags of R5 and R10, and the values used in the reply. -/
def Obligations.ReportReplacesTheEstimate : Prop :=
  ∀ (s : State) (l : Link) (p : List Byte), s.Commands l .reportPosition p →
    let pos : Pos := BitVec.ofNat 32 (be (p.take 4))
    let v := be ((p.drop 4).take 2)
    let u := be ((p.drop 6).take 2)
    let v' := min 12000 v
    let u' := min 10000 u
    let status : PosStatus := if s.lostUnc ≤ u' then .lost else .valid
    ∃ t, exec (.reportPosition l) s = .next t ∧
      t.pe = { p := pos, v := v', uRep := u', age := 0, e := pos, u := u', status := status,
               band := if v' ≤ 50 then 0 else if v' ≤ 2778 then 1 else if v' ≤ 5556 then 2 else 3,
               lead := s.pe.lead, refresh := s.pe.refresh } ∧
      t.linkOf l = (s.answered l 0x01 ([if v' = v ∧ u' = u then 0x00 else 0x01] ++ toBE 2 v' ++ toBE 2 u')).linkOf l ∧
      (s.pe.status ≠ .noFix → s.pe.u + 1000 < (signedDiff pos s.pe.e).natAbs → FlagSet.has t.fnu.flags .posJump = true) ∧
      (status = .lost → s.pe.status ≠ .lost → FlagSet.has t.fnu.flags .posLost = true)

/-- POSITION_REFRESH recomputes the estimate from the last report (R7) and its status (R9, R10); in NO_FIX it only
restarts the refresh timer. -/
def Obligations.RefreshDeadReckons : Prop :=
  ∀ s : State, s.inReset = false →
    (s.pe.status = .noFix → exec .positionRefresh s = .next { s with pe := { s.pe with refresh := some 10000 } }) ∧
    (s.pe.status ≠ .noFix →
      let age := s.pe.age / 1000
      let d := s.pe.v * age / 1000
      let u := min 65535 (s.pe.uRep + (d + 63) / 64)
      let status : PosStatus := if s.lostUnc ≤ u ∨ 5000 < age then .lost else if age ≤ s.reportAgeOk then .valid else .coasting
      ∃ t, exec .positionRefresh s = .next t ∧
        t.pe = { s.pe with e := s.pe.p + BitVec.ofNat 32 d, u := u, status := status, refresh := some 10000 } ∧
        (status = .lost → s.pe.status ≠ .lost → FlagSet.has t.fnu.flags .posLost = true))

/-- The Position Estimator stays within the ranges of R2, U is set by a report, a refresh, a REVERSE and a reset alone, and
a step lowers it only when it serves a position report. The second premise bounds U, outside NO_FIX, by what the report and the
distance since give; every step keeps both. -/
def Obligations.UncertaintyFallsOnlyAtReports : Prop :=
  ∀ s t : State, s.pe.rangeLaw → s.pe.growthLaw → step s = .next t →
    t.pe.rangeLaw ∧ t.pe.growthLaw ∧
    (t.pe.u < s.pe.u → ∃ l, s.pending.head? = some (.reportPosition l)) ∧
    (∀ c, s.pending.head? = some c → (∀ l, c ≠ .reportPosition l) → (∀ l, c ≠ .reverse l) → c ≠ .positionRefresh →
      (∀ p, c ≠ .powerOn p) → c ≠ .rstNLow → (∀ x b, c ≠ .rstNRise x b) → (∀ i, c ≠ .inputRawChange i) → (∀ l, c ≠ .frameSent l) →
      t.pe = s.pe)

/-- REVERSE is refused MOTION unless the last reported speed is 0; accepted, it toggles the lead end, returns to NO_FIX
with U 65,535, the age at its end and band 0, keeps P, v, U_rep and E, and leaves no entry queued and the queue not HALTED. -/
def Obligations.ReverseTurnsTheTrain : Prop :=
  ∀ (s : State) (l : Link), s.Commands l .reverse [] →
    (s.pe.v ≠ 0 → exec (.reverse l) s = .next (s.answered l 0x02 [0x0E])) ∧
    (s.pe.v = 0 → ∃ t, exec (.reverse l) s = .next t ∧
      t.pe = { s.pe with lead := (match s.pe.lead with
                           | .aEnd => .bEnd
                           | .bEnd => .aEnd),
                         status := .noFix, u := 65535, age := 65535000, band := 0 } ∧
      t.teq.entries = [] ∧ t.teq.halted = false ∧ t.teq.posted = s.teq.posted ∧
      t.teq.closedCount = s.teq.closedCount + BitVec.ofNat 32 s.teq.entries.length ∧
      ((∃ e ∈ s.teq.entries, e.status = .active) → FlagSet.has t.fnu.flags .entryAbort = true) ∧
      t.linkOf l = (s.answered l 0x02 [0x00]).linkOf l)

/-! ### The Track Event Queue -/

/-- A POST_EVENT that no condition of R22 refuses puts its entry, QUEUED, behind those nearer than it (R20), adds one to the
Posted counter, and answers tag, index, entries queued and the counter (R23). Placing adds the entry and keeps the order of R20. -/
def Obligations.PostEventInsertsTheEntry : Prop :=
  (∀ (s : State) (l : Link) (p : List Byte) (k : Kind), s.Commands l .postEvent p →
    let e : Entry := ⟨p.getD 0 0, k, BitVec.ofNat 32 (be ((p.drop 2).take 4)), be ((p.drop 6).take 4), .queued⟩
    let dist := fun x : Pos => signedDiff x s.pe.e
    let n := (s.teq.entries.filter (fun o => decide (dist o.start < dist e.start) ||
      (decide (dist o.start = dist e.start) && o.kind.isSection && !k.isSection))).length
    s.teq.entries.length < 16 → (∀ o ∈ s.teq.entries, o.tag ≠ e.tag) →
    kindOf (p.getD 1 0).toNat (p.getD 10 0).toNat (p.getD 11 0).toNat (p.getD 12 0).toNat = some k →
    100 ≤ e.len → e.len ≤ 300000 → s.pe.status ≠ .noFix → 0 < dist e.start → dist e.start ≤ 10000000 →
    (k.isSection = true → ∀ o ∈ s.teq.entries, o.kind.isSection = true → o.held = true → 0 ≤ signedDiff e.start o.start) →
    (∀ o ∈ s.teq.entries, o.kind.isSection = k.isSection →
      (o.len : Int) ≤ signedDiff e.start o.start ∨ (e.len : Int) ≤ signedDiff o.start e.start) →
    exec (.postEvent l) s = .next ((State.handOn { s.beginService l with
      teq := { s.teq with entries := s.teq.entries.take n ++ e :: s.teq.entries.drop n, posted := s.teq.posted + 1 } }).replied l 0x10
        ([0x00, e.tag, byte n, byte (s.teq.entries.length + 1)] ++ toBE 4 (s.teq.posted + 1).toNat))) ∧
  (∀ (e : Pos) (x : Entry) (q : List Entry), q.Pairwise (fun a b => goesAfter e a b = false) →
    (placeEntry e x q).Pairwise (fun a b => goesAfter e a b = false) ∧ (placeEntry e x q).Perm (x :: q))

/-- A POST_EVENT that a condition of R22 refuses, the first in its order, changes nothing and is answered with its
status alone. -/
def Obligations.PostEventRefusalsInOrder : Prop :=
  ∀ (s : State) (l : Link) (p : List Byte), s.Commands l .postEvent p →
    let start : Pos := BitVec.ofNat 32 (be ((p.drop 2).take 4))
    let len := be ((p.drop 6).take 4)
    let dist := signedDiff start s.pe.e
    let status : Nat :=
      if s.teq.entries.length ≥ 16 then 0x07
      else if ∃ o ∈ s.teq.entries, o.tag = p.getD 0 0 then 0x0B
      else match kindOf (p.getD 1 0).toNat (p.getD 10 0).toNat (p.getD 11 0).toNat (p.getD 12 0).toNat with
        | none => 0x04
        | some k =>
          if len < 100 ∨ 300000 < len then 0x04
          else if s.pe.status = .noFix ∨ dist ≤ 0 ∨ (k.isSection = true ∧ ∃ o ∈ s.teq.entries, o.kind.isSection = true ∧
            (o.status = .armed ∨ o.status = .active) ∧ signedDiff start o.start < 0) then 0x09
          else if 10000000 < dist then 0x0A
          else if ∃ o ∈ s.teq.entries, o.kind.isSection = k.isSection ∧ signedDiff start o.start < (o.len : Int) ∧
            signedDiff o.start start < (len : Int) then 0x08
          else 0x00
    status ≠ 0x00 → exec (.postEvent l) s = .next (s.answered l 0x10 [byte status])

/-- CANCEL_EVENT by the rows of R26. RESUME_QUEUE is accepted in every state of the queue: value 1 when a halt was cleared,
0 when there was none (R30).
The number of entries in the CANCEL_EVENT reply takes one byte (the model's choice, log 40). -/
def Obligations.CancelAndResumeByTheirTables : Prop :=
  ∀ (s : State) (l : Link) (b : Byte),
    (s.Commands l .cancelEvent [b] →
      ((∀ e ∈ s.teq.entries, e.tag ≠ b) → exec (.cancelEvent l) s = .next (s.answered l 0x11 [0x0C])) ∧
      (∀ e, s.teq.entries.find? (fun o => o.tag == b) = some e →
        (e.status = .active → exec (.cancelEvent l) s = .next (s.answered l 0x11 [0x06])) ∧
        (e.status ≠ .active →
          let t := ((s.beginService l).closeEntry e (.skipped .cancelled) none).handOn
          exec (.cancelEvent l) s = .next (t.replied l 0x11 ([0x00, byte t.teq.entries.length] ++ toBE 4 t.teq.closedCount.toNat))))) ∧
    (s.Commands l .resumeQueue [] →
      (s.teq.halted = false → exec (.resumeQueue l) s = .next (s.answered l 0x12 [0x00, 0x00])) ∧
      (s.teq.halted = true → exec (.resumeQueue l) s =
        .next ((State.handOn { s.beginService l with teq := { s.teq with halted := false } }).replied l 0x12 [0x00, 0x01])))

/-- Closing a queued entry: it leaves the queue, its record goes to the front of the closed list of 8, the Closed counter
adds one, the flags of R24 and R29 rise, and a close of the entry in the plan ends the plan (R134) and, with no section
entry ARMED or ACTIVE any more, the target hold (R97). Ending the plan releases SEQ, after which TRO has the level of the reasons
that remain (R164), and releases the hold of every slot where one is set (R62). As the target hold goes off the Pending Target
becomes the current Target and is delivered, or is dropped where it is the current one. Any other close leaves the other blocks as
they are. That the plan ends before the target hold is the model's choice (log 2). -/
def Obligations.CloseFormsTheRecord : Prop :=
  ∀ (s : State) (e : Entry) (r : CloseResult) (last : Option Sys2Proof.Machine.Step), e ∈ s.teq.entries →
    let t := s.closeEntry e r last
    let halts := r = .aborted .brkNoOpen ∨ r = .aborted .lowerLate ∨ r = .aborted .noCollector ∨ r = .aborted .wrongSystem
    t.teq.entries = s.teq.entries.erase e ∧ t.teq.closed = (⟨e.tag, e.kind, r, last, s.pe.e⟩ :: s.teq.closed).take 8 ∧
    t.teq.closedCount = s.teq.closedCount + 1 ∧ t.teq.posted = s.teq.posted ∧
    (t.teq.halted = true ↔ s.teq.halted = true ∨ halts) ∧
    (halts → FlagSet.has t.fnu.flags .queueHalt = true) ∧
    ((∃ a, r = .aborted a) → FlagSet.has t.fnu.flags .entryAbort = true) ∧
    (r = .skipped .passed ∨ r = .skipped .passedHalted → FlagSet.has t.fnu.flags .entrySkip = true) ∧
    (e.kind.isSection = true → r = .done ∨ r = .doneNoVoltage → FlagSet.has t.fnu.flags .entryDone = true) ∧
    (e.held = true → t.psq = .reset ∧ (s.psq.seqHeld = true → t.csu.seqHeld = false) ∧
      (t.teq.anyHeld = false → t.cs.hold = false) ∧
      t.csu = (if s.psq.seqHeld
        then { s.csu with seqHeld := false, tro := s.csu.demandHeld || decide (s.csu.overReason ≠ .idle) } else s.csu) ∧
      let freed (k : SlotId) : Slot :=
        if s.psq.slotHold = .none then s.slots.get k else (s.slots.get k).releaseHold s.puCtx
      let ends := s.cs.hold = true ∧ t.teq.anyHeld = false
      (¬ ends → t.cs = s.cs ∧ ∀ k, t.slots.get k = freed k) ∧
      (ends → s.cs.pend = none ∨ s.cs.pend = some s.cs.current →
        t.cs = { s.cs with hold := false, pend := none } ∧ ∀ k, t.slots.get k = freed k) ∧
      (ends → ∀ p, s.cs.pend = some p → p ≠ s.cs.current →
        t.cs = { s.cs with hold := false, pend := none, current := p } ∧
        ∀ k, t.slots.get k = (freed k).deliver s.puCtx (p.slots.get k))) ∧
    (e.held = false → t.psq = s.psq ∧ t.csu = s.csu ∧ t.cs = s.cs ∧ t.slots = s.slots) ∧
    t.pe = s.pe ∧ t.lsu = s.lsu ∧ t.bki = s.bki ∧ t.icu = s.icu ∧ t.lif = s.lif

/-- The bytes of the READ_QUEUE and READ_CLOSED replies. -/
def Obligations.QueueReadoutBytes : Prop :=
  ∀ (s : State) (l : Link) (b : Byte),
    let entry (e : Entry) : List Byte := [e.tag, byte (e.kind.code + 4 * e.status.code)] ++ toBE 4 e.start.toNat ++ toBE 4 e.len ++
      (match e.kind with
       | .neutral low => [0, byte low.toNat, 0]
       | .boundary x => [byte x.code, 0, 0]
       | .lower => [0, 0, 0]
       | .iceZone h => [0, 0, byte h])
    let es := (s.teq.entries.drop b.toNat).take 3
    (s.Starts l .readQueue [b] →
      (15 < b.toNat → exec (.readQueue l) s = .next (s.answered l 0x13 [0x04])) ∧
      (b.toNat ≤ 15 → exec (.readQueue l) s = .next (s.answered l 0x13
        ([0x00, byte s.teq.entries.length] ++ toBE 4 s.teq.posted.toNat ++ toBE 4 s.teq.closedCount.toNat ++
          [byte (s.teq.halted.toNat + 2 * es.length)] ++ es.flatMap entry)))) ∧
    (s.Starts l .readClosed [b] →
      (7 < b.toNat → exec (.readClosed l) s = .next (s.answered l 0x14 [0x04])) ∧
      (b.toNat ≤ 7 → s.teq.closed[b.toNat]? = none →
        exec (.readClosed l) s = .next (s.answered l 0x14 ([0x0C] ++ toBE 4 s.teq.closedCount.toNat))) ∧
      (∀ r, b.toNat ≤ 7 → s.teq.closed[b.toNat]? = some r →
        exec (.readClosed l) s = .next (s.answered l 0x14 ([0x00] ++ toBE 4 s.teq.closedCount.toNat ++
          [r.tag, byte (r.kind.code + 4 * r.result.outcomeCode), byte r.result.reasonCode, byte (stepCode r.lastStep)] ++
          toBE 4 r.eAtClose.toNat))))

/-- After a refresh outside NO_FIX no QUEUED section entry is left whose cleared point the estimate has reached, and no ice
zone whose exit point it has reached; with no zone INSIDE before, a QUEUED zone whose lead point it has reached leaves a zone
INSIDE. The test of one ice zone has the rows of R31. -/
def Obligations.RefreshLeavesNothingPassed : Prop :=
  (∀ s t : State, s.inReset = false → s.pe.status ≠ .noFix → exec .positionRefresh s = .next t →
    (∀ e ∈ t.teq.entries, e.kind.isSection = true → e.status = .queued →
      signedDiff t.pe.e (e.start.plus (e.len + t.oRearNow + t.margin + t.pe.u)) < 0) ∧
    (∀ e ∈ t.teq.entries, e.kind.isSection = false → signedDiff t.pe.e (e.start.plus (e.len + t.trainLength)) < 0) ∧
    (∀ e ∈ s.teq.entries, e.kind.isSection = false → e.status = .queued → (∀ o ∈ s.teq.entries, o.status ≠ .inside) →
      signedDiff t.pe.e (e.start.plus (e.len + s.trainLength)) < 0 → 0 ≤ signedDiff t.pe.e (e.start.minus s.iceLead) →
      ∃ o ∈ t.teq.entries, o.kind.isSection = false ∧ o.status = .inside)) ∧
  (∀ (s : State) (e : Entry), e.kind.isSection = false →
    let exit := 0 ≤ signedDiff s.pe.e (e.start + BitVec.ofNat 32 (e.len + s.trainLength))
    let lead := 0 ≤ signedDiff s.pe.e (e.start - BitVec.ofNat 32 s.iceLead)
    let inside := ∃ o ∈ s.teq.entries, o.status = .inside
    (exit → e.status = .inside → s.zoneTest e = s.closeEntry e .done none) ∧
    (exit → e.status ≠ .inside → s.zoneTest e = s.closeEntry e (.skipped .passed) none) ∧
    (¬ exit → e.status = .queued → lead → ¬ inside → s.zoneTest e = { s with teq := { s.teq with
      entries := s.teq.entries.map (fun x => if x = e then { x with status := .inside } else x) } }) ∧
    (¬ exit → e.status ≠ .queued ∨ ¬ lead ∨ inside → s.zoneTest e = s))

/-- The laws of the queue are kept by every step: Posted is the entries queued plus Closed, at most 16 entries and 8
records, no tag twice, the spans of one class pairwise disjoint, the statuses and lengths each kind has, at most one ice zone
INSIDE. The order of R20, and that only the nearest section entry is ARMED or ACTIVE (R19), are kept while no queued start lies
more than 10,000 km from the estimate: R20 takes each queued entry's distance for signed, and a report may move E anywhere. -/
def Obligations.QueueLawsKept : Prop :=
  ∀ s t : State, s.teq.law → step s = .next t →
    t.teq.law ∧
    ((∀ e ∈ s.teq.entries, (signedDiff e.start s.pe.e).natAbs ≤ 1000000000) → s.teq.placeLaw → t.teq.placeLaw)

/-! ### The Line Sense Unit -/

/-- The class of a window, by the first row of R43 that holds. The confirmed system takes a class on the third window of it
in a row, and not before (R44, R45), whatever the windows hold. -/
def Obligations.ClassesAreConfirmedByThree : Prop :=
  (∀ (m x : Nat), (m < 500 → classify (some x) m = .none ∧ classify none m = .none) ∧
    (500 ≤ m →
      (19000 ≤ x → x ≤ 21000 → 17500 ≤ m → m ≤ 29000 → classify (some x) m = .sys .a50) ∧
      (56000 ≤ x → x ≤ 64000 → 11000 ≤ m → m ≤ 18000 → classify (some x) m = .sys .a16) ∧
      (2000 ≤ m → m ≤ 3900 → classify none m = .sys .d30) ∧
      (1000 ≤ m → m ≤ 1950 → classify none m = .sys .d15) ∧
      (¬ (19000 ≤ x ∧ x ≤ 21000 ∧ 17500 ≤ m ∧ m ≤ 29000) → ¬ (56000 ≤ x ∧ x ≤ 64000 ∧ 11000 ≤ m ∧ m ≤ 18000) →
        classify (some x) m = .unknown) ∧
      (¬ (2000 ≤ m ∧ m ≤ 3900) → ¬ (1000 ≤ m ∧ m ≤ 1950) → classify none m = .unknown))) ∧
  (∀ (x : Lsu) (e1 e2 e3 : Option LineSystem) (p1 p2 p3 : Option Nat) (a1 a2 : Bool) (n2 sum2 sq2 n3 sum3 sq3 : Nat) (c : LineClass),
    let sampled (y : Lsu) (n sum sq : Nat) : Lsu := { y with accN := n, accSum := sum, accSq := sq }
    let y1 := (x.complete e1 p1).newWindow a1
    let y2 := ((sampled y1 n2 sum2 sq2).complete e2 p2).newWindow a2
    let y3 := (sampled y2 n3 sum3 sq3).complete e3 p3
    (y1.last.map (fun w => w.cls) = some c → y2.last.map (fun w => w.cls) = some c → y3.last.map (fun w => w.cls) = some c →
      y3.confirmed = c) ∧
    (x.candCount ≤ 1 → y1.confirmed = x.confirmed) ∧
    (x.cand ≠ some c → y1.last.map (fun w => w.cls) = some c → y1.confirmed = x.confirmed ∧ y2.confirmed = x.confirmed))

/-- A sample, read at most 40,000 V, joins the window in progress (R40). A window completed by an overflow or by a crossing of an ANCHORED window: its magnitude (R41), class (R43), record,
candidate and confirmed system (R44, R45), over-window count (R48), latch and flags (R49, R51), and the next window. A crossing of an UNANCHORED
window abandons it; one within 2,000 µs of the last is ignored. A change of the confirmed system in CONFIRM restarts the confirm timer
(R130), before anything is handed on; that the restart reads CONFIRM_TIMEOUT afresh is the model's reading (log 36).
The magnitude of a window without samples is a free value (log 8), and the statement holds for every value of it. -/
def Obligations.WindowsCompleteByTheRules : Prop :=
  ∀ s : State, s.inReset = false → s.lsu.accSq ≤ s.lsu.accN * 1600000000 →
    let counts (n : Nat) (t : State) : Prop :=
      t.lsu.overCount = if t.cs.demand.expected = s.cs.demand.expected then n else 0
    let done (period : Option Nat) (anchored : Bool) (t : State) : Prop :=
      let m := if s.lsu.accN = 0 then Config.emptyWindowMagnitude.val
        else if period.isSome then Nat.sqrt (s.lsu.accSq / s.lsu.accN) else s.lsu.accSum / s.lsu.accN
      let c := classify period m
      let n := if s.lsu.cand = some c then min 3 (s.lsu.candCount + 1) else 1
      let isOver := overWindow s.cs.demand.expected period m = true ∧ 2 ≤ s.lsu.overCount
      t.lsu.last = some ⟨period, m, c⟩ ∧ t.lsu.windows = (s.lsu.windows + 1) % 65536 ∧ t.lsu.cand = some c ∧
      t.lsu.candCount = n ∧ t.lsu.confirmed = (if n = 3 then c else s.lsu.confirmed) ∧
      counts (if overWindow s.cs.demand.expected period m then min 3 (s.lsu.overCount + 1) else 0) t ∧
      (t.lsu.overvolt = true ↔ s.lsu.overvolt = true ∨ isOver) ∧
      (t.lsu.confirmed ≠ s.lsu.confirmed → FlagSet.has t.fnu.flags .sysChange = true) ∧
      (isOver → s.lsu.overvolt = false → FlagSet.has t.fnu.flags .overvolt = true) ∧
      (t.lsu.confirmed ≠ s.lsu.confirmed → t.lsu.confirmed = .none → s.bki.state = .closed → s.teq.anyActive = false →
        FlagSet.has t.fnu.flags .lineLoss = true) ∧
      t.lsu.counter = 0 ∧ t.lsu.anchored = anchored ∧ t.lsu.accN = 0 ∧ t.lsu.accSum = 0 ∧ t.lsu.accSq = 0
    (∀ v, exec (.lsMagSample v) s = .next { s with lsu := { s.lsu with
      accN := s.lsu.accN + 1, accSum := s.lsu.accSum + min 40000 v,
      accSq := s.lsu.accSq + (min 40000 v) * (min 40000 v), magTimer := some 100 } }) ∧
    (∃ t, exec .periodOverflow s = .next t ∧ done none false t ∧ t.lsu.sinceCross = s.lsu.sinceCross) ∧
    (s.lsu.sinceCross < 2000 → exec .lsZcRise s = .next s) ∧
    (2000 ≤ s.lsu.sinceCross → s.lsu.anchored = true →
      ∃ t, exec .lsZcRise s = .next t ∧ done (some s.lsu.counter) true t ∧ t.lsu.sinceCross = 0) ∧
    (2000 ≤ s.lsu.sinceCross → s.lsu.anchored = false →
      ∃ t, exec .lsZcRise s = .next t ∧ t.lsu.sinceCross = 0 ∧ t.lsu.counter = 0 ∧ t.lsu.anchored = true ∧ t.lsu.accN = 0 ∧
        t.lsu.last = s.lsu.last ∧ t.lsu.windows = s.lsu.windows ∧ t.lsu.cand = s.lsu.cand ∧
        t.lsu.candCount = s.lsu.candCount ∧ t.lsu.confirmed = s.lsu.confirmed ∧ t.lsu.overvolt = s.lsu.overvolt ∧
        counts s.lsu.overCount t) ∧
    exec .periodOverflow s = .next (s.windowComplete none false).handOn ∧
    (2000 ≤ s.lsu.sinceCross → s.lsu.anchored = true → exec .lsZcRise s =
      .next (State.windowComplete (some s.lsu.counter) true { s with lsu := { s.lsu with sinceCross := 0 } }).handOn) ∧
    (∀ (period : Option Nat) (anchored : Bool),
      let u := s.windowComplete period anchored
      u.psq = if u.lsu.confirmed ≠ s.lsu.confirmed ∧ s.psq.phase = .active ∧ s.psq.step = some .confirm
        then { s.psq with confirmTimer := some (s.confirmTimeout * 1000) } else s.psq)

/-! ### Readouts -/

/-- The bytes of the READ_POSITION and READ_LINE replies, in the order of R16 and R52.
That the candidate count and the over-window count take one byte each and the band two bits is the model's choice (log 10), and so is which value of
a two-valued item reads 1 (log 33). -/
def Obligations.PositionAndLineReplyBytes : Prop :=
  ∀ (s : State) (l : Link),
    (s.Starts l .readPosition [] → exec (.readPosition l) s = .next (s.answered l 0x03
      ([0x00] ++ toBE 4 s.pe.e.toNat ++ toBE 2 s.pe.u ++ toBE 4 s.pe.p.toNat ++ toBE 2 s.pe.v ++ toBE 2 s.pe.uRep ++
        toBE 2 (s.pe.age / 1000) ++ [byte (s.pe.status.code + 4 * (s.pe.band % 4) + 16 * s.pe.lead.code)]))) ∧
    (s.Starts l .readLine [] →
      let w := s.lsu.last.getD ⟨none, 0, .none⟩
      exec (.readLine l) s = .next (s.answered l 0x18
        ([0x00, byte (s.lsu.confirmed.code + at2 s.lsu.cand.isSome 3 + 16 * (s.lsu.cand.getD .none).code), byte s.lsu.candCount,
          byte s.lsu.last.isSome.toNat] ++ toBE 2 (w.period.getD 0) ++ toBE 2 w.magnitude ++ [byte w.cls.code] ++
          toBE 2 s.lsu.windows ++ [byte s.lsu.overCount, byte s.lsu.overvolt.toNat])))

/-- The bytes of the READ_SLOT, READ_RULE and READ_TARGET replies, in the order of R59, R87 and R98; a slot above 3 and an
index above 47 are refused BAD_VALUE.
Codes that R201 does not list, the two bits of a grade, which value of a two-valued item reads 1, and the bits of the lock reasons
are the model's choice
(logs 10, 33 and 39). -/
def Obligations.SlotRuleAndTargetReplyBytes : Prop :=
  ∀ (s : State) (l : Link) (b : Byte),
    (s.Starts l .readSlot [b] →
      (3 < b.toNat → exec (.readSlot l) s = .next (s.answered l 0x22 [0x04])) ∧
      (∀ k : SlotId, b.toNat = k.num →
        let x := s.slots.get k
        let eff := match s.pe.lead with
          | .aEnd => x.offset
          | .bEnd => s.trainLength - x.offset
        exec (.readSlot l) s = .next (s.answered l 0x22
          ([0x00, byte x.enabled.toNat] ++ toBE 2 x.offset ++ [byte x.mask.toNat] ++ toBE 2 eff ++
            [byte (x.state.code + 8 * x.tRole.code + 32 * x.tForce.code), byte (x.role.code + 4 * x.hold.code), byte x.retryCount,
             byte (x.retryPending.toNat + at2 x.locks.raiseFail 1 + at2 x.locks.autodrop 2 + at2 x.locks.stuckUp 3 +
               at2 x.locks.dscFail 4)] ++ toBE 2 x.contactLosses ++
            [byte (x.down.acc.toNat + at2 x.contact.acc 1 + at2 x.add.acc 2 + at2 x.dsf.acc 3 + at2 x.housed 4)] ++ toBE 2 x.prv ++
            [byte (x.dmp.toNat + 2 * x.dsc.state.code + at2 x.dsc.cmd 4)])))) ∧
    (s.Starts l .readRule [b] →
      (47 < b.toNat → exec (.readRule l) s = .next (s.answered l 0x2A [0x04])) ∧
      (b.toNat ≤ 47 →
        let r := s.cs.rules.getD b.toNat .empty
        exec (.readRule l) s = .next (s.answered l 0x2A ([0x00, b, byte r.field.code, byte r.op.code, r.value,
          byte r.chained.toNat, byte r.action.code] ++
          (match r.action with
           | .target t => t.slots.toList.map (fun x => byte (x.role.code + 4 * x.force.code)) ++ [byte t.profile]
           | .absent => [0, 0, 0, 0, 0]
           | .refuse => [0, 0, 0, 0, 0]))))) ∧
    (s.Starts l .readTarget [] →
      let bytes (t : Target) : List Byte := t.slots.toList.map (fun x => byte (x.role.code + 4 * x.force.code)) ++ [byte t.profile]
      let v := s.cs.cv
      let d := s.cs.demand
      let r := s.cs.lastEval.getD ⟨none, .target, .all false⟩
      exec (.readTarget l) s = .next (s.answered l 0x2B
        ([0x00] ++ bytes s.cs.current ++ [byte s.cs.pend.isSome.toNat] ++ ((s.cs.pend.map bytes).getD [0, 0, 0, 0, 0]) ++
          [byte (s.cs.hold.toNat + 2 * expectedCode v.sys + 16 * (v.speed % 4) + 64 * (v.ice % 4)),
           byte (v.amb % 4 + at2 v.demand 2 + 8 * v.avail.bits + at2 v.zone 7),
           byte (v.lead.code + at2 d.collect 1 + at2 d.power 2 + 8 * d.ice.code),
           byte (expectedCode d.expected + at2 s.cs.lastEval.isSome 3 + at2 r.index.isSome 4), byte (r.index.getD 0),
           byte (r.kind.code + 4 * r.changed.bits)] ++ toBE 2 s.cs.evals)))

/-- The bytes of the READ_BREAKER and READ_PASSAGE replies, in the order of R113 and R137.
Codes that R201 does not list, which value of a two-valued item reads 1, and the order of the latches are the model's choice
(logs 10, 33 and 34); the rest of a millisecond of a time left is a free value (log 7). -/
def Obligations.BreakerAndPassageReplyBytes : Prop :=
  ∀ (s : State) (l : Link),
    (s.Starts l .readBreaker [] →
      let b := s.bki
      let i := s.bki.items
      exec (.readBreaker l) s = .next (s.answered l 0x30
        ([0x00, byte (b.state.code + at2 b.kind.isSome 3 + 16 * (b.kind.getD .noClose).code + at2 b.aux.acc 5 + at2 b.hold 6 +
          at2 b.ramp.isSome 7)] ++ toBE 2 (timeLeft b.sup) ++ toBE 2 (timeLeft b.reclose) ++ toBE 2 (timeLeft b.tripWindow) ++
          [byte (s.lsu.overvolt.toNat + at2 b.wrongLatch 1 + at2 s.csu.overloadLatch 2 + at2 b.brkFault 3 + at2 i.a 4 + at2 i.b 5 +
            at2 i.c 6 + at2 i.d 7), byte (i.e.toNat + at2 i.f 1 + at2 i.g 2 + at2 b.wrongCond 3)]))) ∧
    (s.Starts l .readPassage [] →
      let q := s.psq
      let r := q.lastPoints.getD ⟨0, 0, 0, 0, 0, 0, 0, 0, 0⟩
      exec (.readPassage l) s = .next (s.answered l 0x34
        ([0x00, byte (q.phase.code + at2 q.plan.isSome 2), ((q.plan.map (fun p => p.tag)).getD 0),
          byte (q.plan.isSome.toNat + 2 * ((q.plan.map (fun p => p.kind.code)).getD 0) + at2 q.oLead.isSome 3)] ++
          toBE 2 (q.oLead.getD 0) ++ [byte q.oRear.isSome.toNat] ++ toBE 2 (q.oRear.getD 0) ++ [byte q.tLead.isSome.toNat] ++
          toBE 2 (q.tLead.getD 0) ++ [byte (q.step.isSome.toNat + 2 * stepCode q.step)] ++ toBE 2 (q.timeInStep / 1000) ++
          toBE 2 (timeLeft q.rampTimer) ++ toBE 2 (timeLeft q.confirmTimer) ++
          [byte (q.seqHeld.toNat + 2 * q.slotHold.code + at2 q.emergency 3 + at2 q.lastPoints.isSome 4), r.tag] ++ toBE 4 r.g ++
          toBE 4 r.d.toNat ++ toBE 4 r.a.toNat ++ toBE 4 r.arming.toNat ++ toBE 4 r.deadline.toNat ++ toBE 4 r.c.toNat ++
          toBE 4 r.e.toNat ++ toBE 2 r.u)))

/-- The bytes of the READ_ICE, READ_CURRENT and GET_FLAGS replies, in the order of R159, R175 and R180. READ_CURRENT on the
commanding link then replaces the reasons seen by those held (R171).
Codes that R201 does not list, the two bits of a grade, which value of a two-valued item reads 1 (the limit column: standstill), and the bits of the
reasons seen and of the LOCKED slots are the model's choice (logs 10, 33, 37 and 39); the rest of a millisecond of a time left is a
free value (log 7). -/
def Obligations.IceCurrentAndFlagsReplyBytes : Prop :=
  ∀ (s : State) (l : Link),
    (s.Starts l .readIce [] →
      let i := s.icu
      let count (c : Count) : List Byte := toBE 2 c.n ++ [byte c.ovf.toNat]
      let temp (x : Sensor) : List Byte := toBE 2 (BitVec.ofInt 16 x.temp).toNat
      let marks (x : Sensor) : Nat := x.valid.toNat + at2 x.clamped 1
      let heater (k : SlotId) : Nat := (i.request.get k).toNat + at2 (i.grant.get k) 1 + at2 (i.heaterFault.get k) 2 + at2 (i.htr.get k) 3
      let clamped := i.strip.any (fun x => x.valid && x.clamped) || (i.amb.valid && i.amb.clamped)
      exec (.readIce l) s = .next (s.answered l 0x38
        ([if clamped then 0x01 else 0x00] ++ count i.lastRef ++ i.lastStrip.toList.flatMap count ++ toBE 2 i.lastAmb.n ++
          [byte (i.lastAmb.ovf.toNat + at2 i.refFault 1 + 4 * i.strip.ps0.fault.code + 16 * i.strip.ps1.fault.code +
            64 * i.strip.ps2.fault.code), byte (i.strip.ps3.fault.code + 4 * i.amb.fault.code)] ++
          i.strip.toList.flatMap (fun x => temp x ++ [byte (marks x)]) ++ temp i.amb ++
          [byte (marks i.amb + 4 * (i.ambBand % 4) + 16 * heater .ps0), byte (heater .ps1 + 16 * heater .ps2),
           byte (heater .ps3 + 16 * (i.duty % 4))] ++ toBE 2 i.arcPeak ++ [byte (i.computed % 4 + 4 * (i.measured % 4))] ++
          toBE 2 (timeLeft i.fall) ++ [byte (i.zoneHint % 4 + 4 * i.iceDemand.code + 32 * (i.iceLevel % 4))] ++ toBE 2 i.scans))) ∧
    (s.Starts l .readCurrent [] →
      let c := s.csu
      let slot (k : SlotId) : List Byte := toBE 2 (((c.hist.get k).head?.map (fun x => x.amps)).getD 0) ++ toBE 2 (c.mean.get k) ++
        toBE 2 (c.limit.get k) ++ [byte ((c.overMark.get k).toNat + 2 * (c.roles.get k).code + at2 (c.dropout.get k).isSome 3),
          byte ((c.buckets.get k).headD 0)] ++ toBE 2 (c.buckets.get k).sum
      let clamped := c.hist.any (fun h => h.any (fun x => x.clamped))
      let bytes : List Byte := [if clamped then 0x01 else 0x00] ++ slot .ps0 ++ slot .ps1 ++ slot .ps2 ++ slot .ps3 ++
        [byte c.overLimit.toNat] ++ toBE 2 c.total ++
        [byte (expectedCode c.expected + 8 * (c.band % 4) + 32 * (c.profile % 4) + at2 (decide (c.band = 0)) 7),
         byte (c.tro.toNat + at2 c.seqHeld 1 + at2 c.demandHeld 2 + 8 * c.overReason.code)] ++ toBE 2 (timeLeft c.width) ++
        toBE 2 (timeLeft c.overload) ++ [byte (c.overloadLatch.toNat + at2 c.seen.seq 1 + at2 c.seen.demand 2 + at2 c.seen.ovr 3)]
      (s.lif.holder ≠ some l → exec (.readCurrent l) s = .next (s.answered l 0x3D bytes)) ∧
      (s.lif.holder = some l → exec (.readCurrent l) s = .next ({ s with csu := { s.csu with
        seen := ⟨c.seqHeld, c.demandHeld, decide (c.overReason ≠ OverReason.idle)⟩ } }.answered l 0x3D bytes))) ∧
    (s.Starts l .getFlags [] → exec (.getFlags l) s = .next (s.answered l 0x42
      ([0x00] ++ toBE 4 s.fnu.flags.toNat ++
        [byte (s.lsu.overvolt.toNat + at2 s.bki.wrongLatch 1 + at2 s.csu.overloadLatch 2 + at2 s.bki.brkFault 3 +
          at2 s.icu.heaterFault.ps0 4 + at2 s.icu.heaterFault.ps1 5 + at2 s.icu.heaterFault.ps2 6 + at2 s.icu.heaterFault.ps3 7),
         byte (at2 (decide (s.slots.ps0.state = .locked)) 0 + at2 (decide (s.slots.ps1.state = .locked)) 1 +
          at2 (decide (s.slots.ps2.state = .locked)) 2 + at2 (decide (s.slots.ps3.state = .locked)) 3)] ++
        toBE 4 (s.fnu.mask.get l).toNat ++ [byte (s.fnu.notice.get l).toNat])))

/-! ### The Pantograph Units -/

/-- A new raw level at a filtered input starts the wait of its group from zero, or stops it when it is the accepted level
(R55, R100, R191). -/
def Obligations.RawLevelStartsTheWait : Prop :=
  ∀ (s : State) (k : SlotId) (b : Bool) (lvl : SelLevel), s.inReset = false →
    let wait (f : Filter) (ms : Nat) : Filter :=
      if f.raw = b then f else { f with raw := b, wait := if b = f.acc then none else some (ms * 1000) }
    let filterMs (code : Nat) : Nat := [2, 8, 32, 128].getD code 0
    let slot (f : Slot → Slot) : State := { s with slots := s.slots.set k (f (s.slots.get k)) }
    exec (.inputRawChange (.dn k b)) s = .next (slot (fun x => { x with down := wait x.down (filterMs (s.param 0x19)) })) ∧
    exec (.inputRawChange (.ct k b)) s = .next (slot (fun x => { x with contact := wait x.contact (filterMs (s.param 0x19)) })) ∧
    exec (.inputRawChange (.add k b)) s = .next (slot (fun x => { x with add := wait x.add 20 })) ∧
    exec (.inputRawChange (.dsf k b)) s = .next (slot (fun x => { x with dsf := wait x.dsf (filterMs (s.param 0x1A)) })) ∧
    exec (.inputRawChange (.aux b)) s = .next { s with bki := { s.bki with aux := wait s.bki.aux (filterMs (s.param 0x1A)) } } ∧
    exec (.inputRawChange (.sel lvl)) s = .next (if s.lif.sel.raw = lvl then s else { s with lif := { s.lif with
      sel := { s.lif.sel with raw := lvl, wait := if lvl = s.lif.sel.acc then none else some 20000 } } })

/-- The accepted down switch: made, it ends LOWERING in DOWN or RETRY_WAIT, ends DROPPED in LOCKED with AUTODROP, and stops the
lower timer of LOCKED (R65, R69, R71, R72); opened, it sends DOWN and RETRY_WAIT to LOWERING and starts the lower timer of
LOCKED (R70, R72). In every other state only the level changes. A role delivered in the LOWERING is applied at RETRY_WAIT, so one
that needs another disconnector position than the one commanded goes on to DOWN; one delivered before, in RAISING, waits in
RETRY_WAIT (R65, R78; what another need is, and that the two deliveries differ here, is the model's reading, log 15).
A FAST hold energises the dump valve on every way into LOWERING (the model's reading, log 16). -/
def Obligations.DownSwitchEvents : Prop :=
  ∀ (s : State) (k : SlotId), s.inReset = false →
    let x := s.slots.get k
    let lowerMs : Timer := some (s.lowerTimeout * 1000)
    (x.down.due true →
      let y : Slot := { x with down := .at true }
      let retry := x.retryPending = true ∧ x.tRole ≠ .stow ∧ x.hold = .none ∧
        (x.roleDue = false ∨ x.dsc.cmd = decide (x.tRole = .collect))
      (x.state = .lowering → retry → exec (.downSwitchMade k) s = .next (s.slotNow k { y with
        state := .retryWait, prv := 0, dmp := false, lower := none, retryPending := false, retry := some (s.retryGap * 1000) } []).handOn) ∧
      (x.state = .lowering → ¬ retry → exec (.downSwitchMade k) s = .next (s.slotNow k (Slot.applyDown s.puCtx { y with
        state := .down, prv := 0, dmp := false, lower := none, retry := none, retryPending := false }) []).handOn) ∧
      (x.state = .dropped → exec (.downSwitchMade k) s = .next (s.slotNow k { y with
        state := .locked, dmp := false, lower := none, locks := { x.locks with autodrop := true } } [.slotLocked]).handOn) ∧
      (x.state = .locked → exec (.downSwitchMade k) s = .next (s.slotNow k { y with lower := none, dmp := x.locks.stuckUp } []).handOn) ∧
      (x.state ∉ [SlotState.lowering, .dropped, .locked] → exec (.downSwitchMade k) s = .next (s.slotNow k y []).handOn)) ∧
    (x.down.due false →
      let y : Slot := { x with down := .at false }
      let falling : Slot := { y with
        state := .lowering, prv := 0, dmp := decide (x.hold = .fast), raise := none, retry := none, contactLoss := none, lower := lowerMs,
        roleDue := false }
      (x.state = .down → exec (.downSwitchOpen k) s = .next (s.slotNow k falling []).handOn) ∧
      (x.state = .retryWait → exec (.downSwitchOpen k) s = .next (s.slotNow k { falling with retryPending := true } []).handOn) ∧
      (x.state = .locked → exec (.downSwitchOpen k) s =
        .next (s.slotNow k (if x.locks.stuckUp then y else { y with lower := lowerMs }) []).handOn) ∧
      (x.state ∉ [SlotState.down, .retryWait, .locked] → exec (.downSwitchOpen k) s = .next (s.slotNow k y []).handOn))

/-- The contact switch and the auto-drop line: contact made ends RAISING in UP, and in UP ends a contact loss (R64, R68); contact
lost in UP starts the 1,000 ms (R68); a trip takes RAISING, UP and LOWERING to DROPPED, and marks a LOCKED slot that is not
housed (R71); a release makes the raise test again (R63, R65).
A trip with the down switch already made locks at once (the model's reading, log 12). -/
def Obligations.ContactAndAutodropEvents : Prop :=
  ∀ (s : State) (k : SlotId), s.inReset = false →
    let x := s.slots.get k
    (x.contact.due true →
      let y : Slot := { x with contact := .at true }
      (x.state = .raising → exec (.contactMade k) s = .next (s.slotNow k (Slot.applyUp s.puCtx { y with
        state := .up, raise := none, prv := s.forceKpa x.tForce, dmp := false, retryCount := 0, retryPending := false }) []).handOn) ∧
      (x.state = .up → x.contactLoss.isSome = true → exec (.contactMade k) s =
        .next (s.slotNow k { y with contactLoss := none, contactLosses := min 65535 (x.contactLosses + 1) } []).handOn) ∧
      (x.state ≠ .raising → ¬ (x.state = .up ∧ x.contactLoss.isSome = true) → exec (.contactMade k) s = .next (s.slotNow k y []).handOn)) ∧
    (x.contact.due false →
      exec (.contactLost k) s = .next (s.slotNow k { x with
        contact := .at false, contactLoss := if x.state = .up then some 1000000 else x.contactLoss } []).handOn) ∧
    (x.add.due true →
      let y : Slot := { x with add := .at true }
      (x.state ∈ [SlotState.raising, .up, .lowering] → x.down.acc = false → exec (.autodropTrip k) s = .next (s.slotNow k { y with
        state := .dropped, prv := 0, dmp := true, raise := none, contactLoss := none, retryPending := false,
        lower := if x.state = .lowering then x.lower else some (s.lowerTimeout * 1000) } [.autodrop]).handOn) ∧
      (x.state ∈ [SlotState.raising, .up, .lowering] → x.down.acc = true → exec (.autodropTrip k) s = .next (s.slotNow k { y with
        state := .locked, prv := 0, dmp := false, raise := none, contactLoss := none, retryPending := false, lower := none,
        locks := { x.locks with autodrop := true } } [.autodrop, .slotLocked]).handOn) ∧
      (x.state = .locked → x.housed = false → exec (.autodropTrip k) s = .next (s.slotNow k { y with
        locks := { x.locks with autodrop := true }, dmp := true } [.autodrop]).handOn) ∧
      (x.state ∈ [SlotState.disabled, .down, .dropped, .retryWait] ∨ (x.state = .locked ∧ x.housed = true) →
        exec (.autodropTrip k) s = .next (s.slotNow k y []).handOn)) ∧
    (x.add.due false →
      let y : Slot := { x with add := .at false }
      (x.state = .down ∨ (x.state = .retryWait ∧ x.retry = none) →
        exec (.autodropRelease k) s = .next (s.slotNow k (Slot.tryRaise s.puCtx y) []).handOn) ∧
      (x.state ≠ .down → ¬ (x.state = .retryWait ∧ x.retry = none) → exec (.autodropRelease k) s = .next (s.slotNow k y []).handOn))

/-- The disconnector feedback and its travel timer: a confirmation ends a travel, and the slot applies its role; a change in a
confirmed state and the expiry of a travel make the disconnector FAILED (R74, R75), which locks an enabled slot.
The dump valve and the lower timer of that lock are the model's reading (log 17). -/
def Obligations.DisconnectorEvents : Prop :=
  ∀ (s : State) (k : SlotId), s.inReset = false →
    let x := s.slots.get k
    let failed (y : Slot) : Slot := { y with
      dsc := ⟨.failed, y.dsc.cmd && !(decide (x.state = .down) || decide (x.state = .disabled) || decide (s.bki.state = .opened)), none⟩,
      role := .stow }
    let lockedFrom (y : Slot) : Slot := { failed y with
      state := .locked, locks := { x.locks with dscFail := true }, prv := 0, dmp := x.dmp && !x.down.acc, raise := none,
      retry := none, contactLoss := none, lower := if x.down.acc then none else some (s.lowerTimeout * 1000) }
    let fails (c : Instr) (y : Slot) : Prop :=
      (x.enabled = false → exec c s = .next (s.slotNow k (failed y) []).handOn) ∧
      (x.enabled = true → x.state = .locked →
        exec c s = .next (s.slotNow k { failed y with locks := { x.locks with dscFail := true } } []).handOn) ∧
      (x.enabled = true → x.state ≠ .locked → exec c s = .next (s.slotNow k (lockedFrom y) [.slotLocked]).handOn)
    (x.dsf.due true →
      let y : Slot := { x with dsf := .at true }
      (x.dsc.state = .closing → exec (.dsfMade k) s = .next (s.slotNow k (Slot.applyRole s.puCtx (Slot.deriveRole { y with
        dsc := ⟨.closed, x.dsc.cmd, none⟩ })) []).handOn) ∧
      (x.dsc.state = .opened → fails (.dsfMade k) y) ∧
      (x.dsc.state ∈ [DscState.closed, .opening, .failed] → exec (.dsfMade k) s = .next (s.slotNow k y []).handOn)) ∧
    (x.dsf.due false →
      let y : Slot := { x with dsf := .at false }
      (x.dsc.state = .opening → exec (.dsfReleased k) s = .next (s.slotNow k (Slot.applyRole s.puCtx (Slot.deriveRole { y with
        dsc := ⟨.opened, x.dsc.cmd, none⟩ })) []).handOn) ∧
      (x.dsc.state = .closed → fails (.dsfReleased k) y) ∧
      (x.dsc.state ∈ [DscState.opened, .closing, .failed] → exec (.dsfReleased k) s = .next (s.slotNow k y []).handOn)) ∧
    (x.dsc.travel.isSome = true → x.dsc.state = .closing ∨ x.dsc.state = .opening → fails (.travelTimerExpiry k) x)

/-- The slot timers: a raise that expires has failed, and the third in a run locks (R65, R66); a lower timer that expires locks
STUCK_UP with the dump valve energised (R69, R71, R72); with the down switch still made a failed raise is in RETRY_WAIT at once, and
the retry timer's expiry, not its entry, tests a role delivered in RAISING (R65, R69, R78; the model's reading, log 15); a retry
raises again if the conditions of R63 hold (R65); a contact loss of 1,000 ms goes to RAISING (R68).
A timer that runs is due when its command comes (the model's choice, log 3). -/
def Obligations.SlotTimerEvents : Prop :=
  ∀ (s : State) (k : SlotId), s.inReset = false →
    let x := s.slots.get k
    let lowerMs : Timer := some (s.lowerTimeout * 1000)
    (x.raise.isSome = true → x.state = .raising →
      (x.retryCount < 2 → x.down.acc = false → exec (.raiseTimerExpiry k) s = .next (s.slotNow k { x with
        state := .lowering, prv := 0, dmp := decide (x.hold = .fast), raise := none, retry := none, contactLoss := none,
        lower := lowerMs, retryCount := x.retryCount + 1, retryPending := true, roleDue := false } [.raiseFail]).handOn) ∧
      (x.retryCount < 2 → x.down.acc = true →
        let y : Slot := { x with
          prv := 0, dmp := false, raise := none, contactLoss := none, lower := none, retryCount := x.retryCount + 1,
          retryPending := false, roleDue := false }
        (x.tRole ≠ .stow → x.hold = .none → exec (.raiseTimerExpiry k) s = .next (s.slotNow k { y with
          state := .retryWait, retry := some (s.retryGap * 1000) } [.raiseFail]).handOn) ∧
        (x.tRole = .stow ∨ x.hold ≠ .none → exec (.raiseTimerExpiry k) s =
          .next (s.slotNow k (Slot.applyDown s.puCtx { y with state := .down, retry := none }) [.raiseFail]).handOn)) ∧
      (2 ≤ x.retryCount → exec (.raiseTimerExpiry k) s = .next (s.slotNow k { x with
        state := .locked, retryCount := 3, locks := { x.locks with raiseFail := true }, prv := 0, dmp := false, raise := none,
        lower := if x.down.acc then none else lowerMs } [.raiseFail, .slotLocked]).handOn)) ∧
    (x.lower.isSome = true →
      (x.state = .lowering → exec (.lowerTimerExpiry k) s = .next (s.slotNow k { x with
        state := .locked, locks := { x.locks with stuckUp := true }, prv := 0, dmp := true, retryPending := false,
        lower := none } [.slotLocked, .stuckUp]).handOn) ∧
      (x.state = .dropped → exec (.lowerTimerExpiry k) s = .next (s.slotNow k { x with
        state := .locked, locks := { x.locks with autodrop := true, stuckUp := true }, prv := 0, dmp := true,
        lower := none } [.slotLocked, .stuckUp]).handOn) ∧
      (x.state = .locked → exec (.lowerTimerExpiry k) s = .next (s.slotNow k { x with
        locks := { x.locks with stuckUp := true }, dmp := true, lower := none } [.stuckUp]).handOn)) ∧
    (x.retry.isSome = true → x.state = .retryWait →
      (x.canRaise = true → exec (.retryTimerExpiry k) s = .next (s.slotNow k (Slot.enterRaising s.puCtx x) []).handOn) ∧
      (x.canRaise = false → x.role ≠ x.tRole ∨ x.dsc.state = .closing ∨ x.dsc.state = .opening →
        exec (.retryTimerExpiry k) s = .next (s.slotNow k (Slot.enterDown s.puCtx x) []).handOn) ∧
      (x.canRaise = false → x.role = x.tRole → x.dsc.state ≠ .closing → x.dsc.state ≠ .opening →
        exec (.retryTimerExpiry k) s = .next (s.slotNow k { x with retry := none } []).handOn)) ∧
    (x.contactLoss.isSome = true → x.state = .up → x.contact.acc = false →
      exec (.contactLossTimerExpiry k) s = .next (s.slotNow k { x with
        state := .raising, prv := s.approachKpa, dmp := false, raise := some (s.raiseTimeout * 1000), retry := none,
        contactLoss := none } []).handOn)

/-- A role applied in DOWN (R63, R76) and in UP (R77); a delivery in every state (R60, R61, R67, R78); the sequencer hold set and
released in every state (R62).
STOW lowers at once during a travel in place, another need is another disconnector position than the one commanded, and a role
delivered in LOWERING is marked to be applied where the LOWERING ends (the model's readings, logs 14 and 15). -/
def Obligations.RolesAreAppliedByTheTables : Prop :=
  ∀ (c : PuCtx) (x : Slot),
    let travel (close : Bool) : Slot := { x with
      dsc := ⟨if close then .closing else .opening, close, some 1500000⟩, role := .stow }
    let raises := x.enabled = true ∧ x.tRole ≠ .stow ∧ x.role = x.tRole ∧ x.hold = .none ∧ x.add.acc = false
    let raising : Slot := { x with
      state := .raising, prv := c.approach, dmp := false, raise := some (c.raiseTimeout * 1000), retry := none, contactLoss := none }
    let up : Slot := { raising with state := .up, raise := none, prv := c.force x.tForce, retryCount := 0, retryPending := false }
    (x.dsc.state = .closing ∨ x.dsc.state = .opening → x.applyDown c = x) ∧
    (x.dsc.state = .opened → x.tRole = .stow → x.applyDown c = x) ∧
    (x.dsc.state = .opened → x.tRole = .collect → x.applyDown c = travel true) ∧
    (x.dsc.state = .closed → x.tRole ≠ .collect → x.applyDown c = travel false) ∧
    ((x.dsc.state = .opened ∧ x.tRole = .sweep) ∨ (x.dsc.state = .closed ∧ x.tRole = .collect) →
      (raises → x.contact.acc = false → x.applyDown c = raising) ∧ (raises → x.contact.acc = true → x.applyDown c = up) ∧
      (¬ raises → x.applyDown c = x)) ∧
    (x.tRole = .stow → x.applyUp c = x.enterLowering c) ∧
    (x.tRole = .collect → x.dsc.state = .closed → x.applyUp c = x) ∧
    (x.tRole = .sweep → x.dsc.state = .opened → x.applyUp c = x) ∧
    ((x.tRole = .collect ∧ x.dsc.state = .opened) ∨ (x.tRole = .sweep ∧ x.dsc.state = .closed) →
      x.applyUp c = if c.brkOpen then travel (decide (x.tRole = .collect)) else x.enterLowering c) ∧
    (x.down.acc = false → x.enterLowering c = { x with
      state := .lowering, prv := 0, dmp := decide (x.hold = .fast), raise := none, retry := none, contactLoss := none,
      lower := some (c.lowerTimeout * 1000), roleDue := false }) ∧
    (let toDown (y : Slot) : Slot := Slot.applyDown c { y with
       state := .down, prv := 0, dmp := false, lower := none, retry := none, retryPending := false }
     (∀ t : RoleForce,
       let y : Slot := { x with
         tRole := t.role, tForce := t.force,
         role := (match t.role, x.dsc.state with
           | .collect, .closed => .collect
           | .sweep, .opened => .sweep
           | _, _ => .stow),
         prv := if x.state = .up ∧ t.force ≠ x.tForce then c.force t.force else x.prv }
       let otherNeed := x.dsc.cmd ≠ decide (t.role = .collect)
       (t.role = x.tRole → x.deliver c t = y) ∧
       (t.role ≠ x.tRole →
         (x.state = .down → x.deliver c t = y.applyDown c) ∧ (x.state = .up → x.deliver c t = y.applyUp c) ∧
         (x.state = .raising → x.deliver c t = if t.role = .stow then y.enterLowering c else y) ∧
         (x.state = .retryWait → x.deliver c t = if t.role = .stow ∨ otherNeed then toDown y else y) ∧
         (x.state = .lowering → x.deliver c t = { y with roleDue := true }) ∧
         (x.state ∈ [SlotState.disabled, .dropped, .locked] → x.deliver c t = y))) ∧
     (∀ h : SeqHold, h ≠ .none →
       let y : Slot := { x with hold := h }
       let fast := decide (h = .fast)
       (x.state = .raising ∨ x.state = .up → x.setHold c h = y.enterLowering c) ∧
       (x.state = .lowering → x.setHold c h = { y with dmp := x.dmp || fast, retryPending := false }) ∧
       (x.state = .retryWait → x.setHold c h = toDown y) ∧
       (x.state = .locked → ¬ (x.down.acc = true ∧ x.prv = 0) → x.setHold c h = { y with dmp := x.dmp || fast }) ∧
       (x.state = .locked → x.down.acc = true → x.prv = 0 → x.setHold c h = y) ∧
       (x.state ∈ [SlotState.dropped, .down, .disabled] → x.setHold c h = y)) ∧
     (let y : Slot := { x with hold := .none }
      (x.state = .down → x.releaseHold c = y.applyDown c) ∧ (x.state = .up → x.releaseHold c = y.applyUp c) ∧
      (x.state ≠ .down → x.state ≠ .up → x.releaseHold c = y)))

/-- SET_SLOT by the tests of R56 and the effects of R57; UNLOCK_SLOT by the rows of R58. Both start a rule evaluation when
accepted (R93).
The state in the reply for a slot above 3 is a free value (log 9). -/
def Obligations.SlotRequestsByTheirTables : Prop :=
  ∀ (s : State) (l : Link) (k : SlotId) (b en o1 o2 m : Byte),
    let x := s.slots.get k
    let c := s.puCtx
    let offset := be [o1, o2]
    let here (n : Nat) : List Byte := [byte n, byte x.state.code]
    (s.Commands l .setSlot [b, en, o1, o2, m] →
      (3 < b.toNat → exec (.setSlot l) s = .next (s.answered l 0x20 [0x04, byte (Config.noSlotState b).toNat])) ∧
      (b.toNat = k.num → 1 < en.toNat ∨ 40000 < offset ∨ 15 < m.toNat →
        exec (.setSlot l) s = .next (s.answered l 0x20 (here 0x04))) ∧
      (b.toNat = k.num → en.toNat ≤ 1 → offset ≤ 40000 → m.toNat ≤ 15 →
        let busy := (x.state ≠ .disabled ∧ x.state ≠ .down) ∨ (∃ e ∈ s.teq.entries, e.kind.isSection = true ∧
            (e.status = .armed ∨ e.status = .active)) ∨
          (x.state = .down ∧ en = 0 ∧ (x.dsc.state = .closing ∨ x.dsc.state = .opening))
        let y : Slot := { x with
          enabled := decide (en = 1), offset := offset, mask := BitVec.ofNat 4 m.toNat, retryCount := 0, contactLosses := 0 }
        let z : Slot := if x.state = .down
          then (if en = 1 then y.applyDown c
            else Slot.rederiveDsc { (if x.dsc.state = .closed then y.startTravel false else y) with state := .disabled })
          else (if en = 0 then y.rederiveDsc else if x.down.acc then y.enterDown c else y.enterLowering c)
        let t := (State.evaluate { s.beginService l with slots := s.slots.set k z }).handOn
        (busy → exec (.setSlot l) s = .next (s.answered l 0x20 (here 0x06))) ∧
        (¬ busy → exec (.setSlot l) s = .next (t.replied l 0x20 [0x00, byte (t.slots.get k).state.code])))) ∧
    (s.Commands l .unlockSlot [b] →
      (3 < b.toNat → exec (.unlockSlot l) s = .next (s.answered l 0x21 [0x04])) ∧
      (b.toNat = k.num → x.state ≠ .locked → exec (.unlockSlot l) s = .next (s.answered l 0x21 [0x00, 0x00])) ∧
      (b.toNat = k.num → x.state = .locked → x.down.acc = false → exec (.unlockSlot l) s = .next (s.answered l 0x21 [0x0D])) ∧
      (b.toNat = k.num → x.state = .locked → x.down.acc = true →
        let y : Slot := { x with
          state := .down, locks := ⟨false, false, false, false⟩, retryCount := 0, retryPending := false, dmp := false, lower := none }
        let t := (State.evaluate { s.beginService l with slots := s.slots.set k ((Slot.rederiveDsc y).applyDown c) }).handOn
        exec (.unlockSlot l) s = .next (t.replied l 0x21 [0x00, 0x01])))

/-- The laws of the slot records are kept by every step: the role in effect is the one of R61, the raise valve setpoint is zero
outside RAISING and UP (R54), the lock reasons are non-empty exactly while LOCKED (R53), and a slot is DISABLED exactly while it
is not enabled. -/
def Obligations.SlotLawsKept : Prop :=
  ∀ s t : State, s.slotLaw → step s = .next t → t.slotLaw

/-! ### The Configuration Selector -/

/-- SET_DEMAND by the rows of R82, and what the write of the record does: a change of the expected system clears the
over-window count (R81); a fall of power in CLOSED starts a ramped open, which with T_RAMP 0 or a total at or below
OPEN_CURRENT opens at once; a rise of power abandons a ramp (R105). -/
def Obligations.SetDemandByItsTable : Prop :=
  (∀ (s : State) (l : Link) (c p i x : Byte), s.Commands l .setDemand [c, p, i, x] →
    let bytes (d : Demand) : List Byte :=
      [byte (d.collect.toNat + 2 * d.power.toNat + 4 * d.ice.code + 32 * expectedCode d.expected)]
    let valid := c.toNat ≤ 1 ∧ p.toNat ≤ 1 ∧ i.toNat ≤ 4 ∧ (x.toNat ≤ 4 ∨ x = 0xFF)
    let named := if x = 0xFF then s.cs.demand.expected
      else [none, some LineSystem.a50, some .a16, some .d30, some .d15].getD x.toNat none
    let refused := (∃ e ∈ s.teq.entries, e.kind.isSection = true ∧ e.status = .active) ∧ named ≠ s.cs.demand.expected
    let taken (expected : Option LineSystem) : State := ((s.beginService l).writeDemand
      ⟨decide (c = 1), decide (p = 1), [IceDemand.auto, .off, .force1, .force2, .force3].getD i.toNat .auto, expected⟩).handOn
    (¬ valid → exec (.setDemand l) s = .next (s.answered l 0x28 ([0x04] ++ bytes s.cs.demand))) ∧
    (valid → refused → exec (.setDemand l) s =
      .next ((taken s.cs.demand.expected).replied l 0x28 ([0x06] ++ bytes (taken s.cs.demand.expected).cs.demand))) ∧
    (valid → ¬ refused → exec (.setDemand l) s =
      .next ((taken named).replied l 0x28 ([0x00] ++ bytes (taken named).cs.demand)))) ∧
  (∀ (s : State) (d : Demand),
    let t := s.writeDemand d
    let starts := s.cs.demand.power = true ∧ d.power = false ∧ s.bki.state = .closed
    let atOnce := s.tRamp = 0 ∨ s.csu.total ≤ s.openCurrent
    t.cs = { s.cs with demand := d } ∧
    t.lsu = { s.lsu with overCount := if d.expected = s.cs.demand.expected then s.lsu.overCount else 0 } ∧
    (starts → t.csu.seen.demand = true ∧ (s.csu.tro = false → FlagSet.has t.fnu.flags .troOn = true) ∧
      (¬ atOnce → t.bki = { s.bki with ramp := some (s.tRamp * 1000) } ∧ t.csu.demandHeld = true ∧ t.csu.tro = true) ∧
      (atOnce → s.bki.aux.acc = true → t.csu.demandHeld = true ∧ t.csu.tro = true ∧ t.bki = { s.bki with
        state := .opening, hold := false, sup := some (s.tOpenMax * 1000), ramp := none }) ∧
      (atOnce → s.bki.aux.acc = false → t.csu.demandHeld = false ∧ t.bki = { s.bki with
        state := .opened, kind := none, hold := false, sup := none, ramp := none })) ∧
    (s.cs.demand.power = false → d.power = true → s.bki.ramp.isSome = true →
      t.bki = { s.bki with ramp := none } ∧ t.csu.demandHeld = false) ∧
    (¬ starts → ¬ (s.cs.demand.power = false ∧ d.power = true ∧ s.bki.ramp.isSome = true) → t.bki = s.bki ∧ t.csu = s.csu) ∧
    t.pe = s.pe ∧ t.teq = s.teq ∧ t.psq = s.psq ∧ t.slots = s.slots ∧ t.icu = s.icu ∧ t.lif = s.lif)

/-- WRITE_RULE: BAD_VALUE for exactly the cases of R86; accepted, the record replaces the one at its index, and one
evaluation is made before the reply.
That a rule with AND set may carry any action code is the model's reading (log 22). -/
def Obligations.WriteRuleStoresAndEvaluates : Prop :=
  ∀ (s : State) (l : Link) (i f o v a c b0 b1 b2 b3 prof : Byte),
    let rule : List Byte := [f, o, v, a, c, b0, b1, b2, b3, prof]
    s.Commands l .writeRule (i :: rule) →
    let chained := a.toNat % 2 = 1
    let badSlot (b : Byte) : Prop := 16 ≤ b.toNat ∨ b.toNat % 4 = 3 ∨ b.toNat / 4 = 3
    let refused := 47 < i.toNat ∨ 9 < f.toNat ∨ 3 < o.toNat ∨
      (f.toNat = 9 ∧ ¬ chained) ∨
      (f.toNat ≠ 0 ∧ ((chained ∧ i.toNat = 47) ∨ (¬ chained ∧ (c.toNat = 0 ∨ 2 < c.toNat)) ∨
        (c.toNat = 1 ∧ (badSlot b0 ∨ badSlot b1 ∨ badSlot b2 ∨ badSlot b3 ∨ 3 < prof.toNat))))
    (refused → exec (.writeRule l) s = .next (s.answered l 0x29 [0x04])) ∧
    (¬ refused → ∃ r, ruleOf i.toNat rule = some r ∧ r.storable i.toNat ∧ (f = 0 → r = .empty) ∧
      (f ≠ 0 → r.field.code = f.toNat ∧ r.op.code = o.toNat ∧ r.value = v ∧ (r.chained = true ↔ chained) ∧
        (chained → r.action = .absent) ∧ (¬ chained → r.action.code = c.toNat) ∧
        (¬ chained → c = 1 → r.action.bytes = [b0, b1, b2, b3, prof])) ∧
      exec (.writeRule l) s = .next (((State.evaluate { s.beginService l with
        cs := { s.cs with rules := s.cs.rules.set i.toNat r } }).handOn).replied l 0x29 ([0x00, i] ++ ruleBytes r)))

/-- A rule that can be stored reads back from its record as it was written, with every field at every value. -/
def Obligations.RulesReadBackAsWritten : Prop :=
  ∀ (i : Nat) (r : Rule), r.storable i → ruleOf i (ruleBytes r) = some r

/-- An evaluation gives the last index and the action of the first chain, in index order, that has an action and whose
members all match from the mask 0xFF on. -/
def Obligations.EvaluationTakesFirstMatch : Prop :=
  ∀ (cv : CondVec) (rules : List Rule),
    evalTable cv rules =
      ((chainsFrom 0 [] rules).find? (fun c => chainMatches cv 0xFF c.2 && c.2.getLast?.any (fun r => decide (r.action ≠ .absent)))).map
        (fun c => (c.1, (c.2.getLast?.map (fun r => r.action)).getD .absent))

/-- One evaluation: its result is the Target of the matching chain, the latest Target for REFUSE, or the default; every slot
is checked (R92); the count, the record and the flags follow; the result is held while the hold is on, and otherwise delivered
where it differs (R90 to R95). -/
def Obligations.EvaluationResultIsDelivered : Prop :=
  ∀ s : State,
    let cv := s.cvNow
    let m := evalTable cv s.cs.rules
    let latest := s.cs.pend.getD s.cs.current
    let result : Target := match m with
      | some (_, .target t) => t
      | some (_, .refuse) => latest
      | some (_, .absent) => ⟨.all ⟨.stow, .normal⟩, 0⟩
      | none => ⟨.all ⟨.stow, .normal⟩, 0⟩
    let bad (k : SlotId) : Prop := ((result.slots.get k).role ≠ .stow ∧ (s.slots.get k).avail = false) ∨
      ((result.slots.get k).role = .collect ∧ ∃ x, s.cs.demand.expected = some x ∧ (s.slots.get k).mask.getLsbD (x.code - 1) = false)
    ∃ checked : Target, checked.profile = result.profile ∧
      (∀ k, (checked.slots.get k).force = (result.slots.get k).force ∧ (bad k → (checked.slots.get k).role = .stow) ∧
        (¬ bad k → (checked.slots.get k).role = (result.slots.get k).role)) ∧
      s.evaluate.cs.cv = cv ∧ s.evaluate.cs.evals = (s.cs.evals + 1) % 65536 ∧ s.evaluate.cs.rules = s.cs.rules ∧
      s.evaluate.cs.demand = s.cs.demand ∧ s.evaluate.cs.hold = s.cs.hold ∧
      (∃ e, s.evaluate.cs.lastEval = some e ∧ e.index = (m.map (fun x => x.1)) ∧ (∀ k, e.changed.get k = true ↔ bad k) ∧
        e.kind = match m with
          | some (_, .target _) => .target
          | some (_, .refuse) => .refuse
          | some (_, .absent) => .dflt
          | none => .dflt) ∧
      (m = none → FlagSet.has s.evaluate.fnu.flags .noRule = true) ∧
      ((∃ k, bad k) → FlagSet.has s.evaluate.fnu.flags .ruleConflict = true) ∧
      (s.cs.hold = true → s.evaluate.cs.pend = some checked ∧ s.evaluate.cs.current = s.cs.current ∧ s.evaluate.slots = s.slots) ∧
      (s.cs.hold = false → s.evaluate.cs.pend = s.cs.pend ∧ s.evaluate.cs.current = checked ∧
        (checked = s.cs.current → s.evaluate.slots = s.slots) ∧
        (checked ≠ s.cs.current → s.evaluate.slots = .of (fun k => (s.slots.get k).deliver s.puCtx (checked.slots.get k)))) ∧
      s.evaluate.pe = s.pe ∧ s.evaluate.teq = s.teq ∧ s.evaluate.psq = s.psq ∧ s.evaluate.lsu = s.lsu ∧ s.evaluate.bki = s.bki ∧
      s.evaluate.icu = s.icu ∧ s.evaluate.csu = s.csu ∧ s.evaluate.lif = s.lif

/-! ### The Breaker Interface -/

/-- The aux changes and the timers of the Breaker Interface, by R102 and R107 to R109.
A timer that runs is due when its command comes (the model's choice, log 3). -/
def Obligations.BreakerEvents : Prop :=
  ∀ s : State, s.inReset = false →
    let b := s.bki
    let done (x : Bki) : State := { s with bki := x }
    let failed (x : Bki) (kind : FailKind) (sup : Timer) : State :=
      ((done { x with state := .failed, kind := some kind, hold := false, sup := sup, ramp := none, brkFault := true }).releaseDemand).raiseIf
        (!b.brkFault) .brkFault
    let opened (x : Bki) : State :=
      (done { x with state := .opened, kind := none, hold := false, sup := none, ramp := none }).releaseDemand
    (b.aux.due true →
      let x : Bki := { b with aux := .at true }
      (b.state = .closing → exec .auxMade s = .next (done { x with state := .closed, sup := none }).handOn) ∧
      (b.state = .opened → exec .auxMade s = .next (failed x .noOpen none).handOn) ∧
      (b.state = .closed ∨ b.state = .opening ∨ b.state = .failed → exec .auxMade s = .next (done x).handOn)) ∧
    (b.aux.due false →
      let x : Bki := { b with aux := .at false }
      (b.state = .closed → ∃ t, exec .auxReleased s = .next (State.handOn t) ∧
        t.bki = { x with state := .opened, kind := none, hold := false, sup := none, ramp := none,
                         reclose := some (s.recloseDelay * 1000), tripWindow := some 60000000,
                         brkFault := b.brkFault || b.tripWindow.isSome } ∧
        t.csu.demandHeld = false ∧ FlagSet.has t.fnu.flags .brkTrip = true ∧
        (b.tripWindow.isSome = true → b.brkFault = false → FlagSet.has t.fnu.flags .brkFault = true) ∧
        t.lsu = s.lsu ∧ t.slots = s.slots ∧ t.cs = s.cs ∧ t.psq = s.psq ∧ t.teq = s.teq) ∧
      (b.state = .opening ∨ (b.state = .failed ∧ b.kind = some .noOpen) → exec .auxReleased s = .next (opened x).handOn) ∧
      (b.state = .opened ∨ b.state = .closing ∨ (b.state = .failed ∧ b.kind ≠ some .noOpen) →
        exec .auxReleased s = .next (done x).handOn)) ∧
    (b.sup.isSome = true →
      (b.state = .closing → exec .closeTimeout s = .next (failed b .noClose (some (s.tOpenMax * 1000))).handOn) ∧
      (b.state = .opening → exec .openTimeout s = .next (failed b .noOpen none).handOn) ∧
      (b.state = .failed → b.kind = some .noClose →
        (b.aux.acc = true → exec .openCheckEnd s = .next (done { b with kind := some .noOpen, sup := none }).handOn) ∧
        (b.aux.acc = false → exec .openCheckEnd s = .next (opened b).handOn))) ∧
    (b.reclose.isSome = true → exec .recloseDelayExpiry s = .next (done { b with reclose := none }).handOn) ∧
    (exec .tripWindowExpiry s = .next (done { b with tripWindow := none })) ∧
    (b.ramp.isSome = true → b.state = .closed → b.aux.acc = true →
      exec .bkiRampTimerExpiry s = .next (done { b with
        state := .opening, hold := false, sup := some (s.tOpenMax * 1000), ramp := none }).handOn)

/-- The close interlock: in OPEN the breaker closes exactly when the items (a) to (g) of R101 all hold; in CLOSING a failed item
abandons the close (R102, R104); in CLOSED a latched inhibit, a HALTED queue and the loss of the last qualifying collector open it
(R103). OPEN and CLOSING keep the results of their test. The wrong-system condition becoming true with the latch clear sets the latch
and its flag (R110), before the interlock is tested, and aborts a passage (R132).
That the results stay as last tested in CLOSED, OPENING and FAILED is the model's reading (log 29), and that the abort comes before
RAMP could end on the opening, with the step in progress at the rise as the last step, is its choice (log 41). -/
def Obligations.InterlockByItsRows : Prop :=
  (∀ s : State,
    let b := s.bki
    let i : Items :=
      { a := !(b.wrongLatch || s.lsu.overvolt || s.csu.overloadLatch || b.brkFault),
        b := s.cs.demand.power && s.lif.holder.isSome,
        c := s.slots.any (fun x => decide (x.state = .up ∧ x.role = .collect ∧ x.dsc.state = .closed) &&
          s.lsu.confirmed.inMask x.mask && s.cs.demand.expected.all (fun e => decide (s.lsu.confirmed = .sys e))),
        d := !s.teq.entries.any (fun e => e.kind.isSection && decide (e.status = .active)),
        e := !s.teq.halted,
        f := decide (s.pe.status ≠ .lost) || !s.teq.entries.any (fun e => e.kind.isSection),
        g := b.reclose.isNone }
    let every := i.a = true ∧ i.b = true ∧ i.c = true ∧ i.d = true ∧ i.e = true ∧ i.f = true ∧ i.g = true
    let opening (x : Bki) : Bki := { x with state := .opening, hold := false, sup := some (s.tOpenMax * 1000), ramp := none }
    let tested : Bki := { b with items := i }
    (b.state = .opened → every →
      s.interlock = { s with bki := { tested with state := .closing, hold := true, sup := some (s.tCloseMax * 1000) } }) ∧
    (b.state = .opened → ¬ every → s.interlock = { s with bki := { tested with hold := false } }) ∧
    (b.state = .closing → every → s.interlock = { s with bki := tested }) ∧
    (b.state = .closing → ¬ every → (b.aux.acc = true → s.interlock = { s with bki := opening tested }) ∧
      (b.aux.acc = false → s.interlock.bki = { opening tested with state := .opened, kind := none, sup := none })) ∧
    (b.state = .closed → b.aux.acc = true → i.a = false ∨ i.c = false ∨ i.e = false → s.interlock = { s with bki := opening b }) ∧
    (b.state = .closed → i.a = true → i.c = true → i.e = true → (i.d = false → s.psq.step = some .ramp) → s.interlock = s) ∧
    (b.state = .opening ∨ b.state = .failed → s.interlock = { s with bki := { b with hold := false } })) ∧
  (∀ s : State,
    let wrong := s.lsu.confirmed ≠ .none ∧ (∃ e, s.cs.demand.expected = some e ∧ s.lsu.confirmed ≠ .sys e) ∧
      ∃ k, (s.slots.get k).state = .up ∧ (s.slots.get k).role = .collect
    let rises := wrong ∧ s.bki.wrongCond = false ∧ s.bki.wrongLatch = false
    let latched : State := { s with bki := { s.bki with wrongCond := true, wrongLatch := true } }.raise .wrongSystem
    (rises →
      (∀ e, s.psq.phase = .active → s.teq.activeEntry = some e →
        s.bkiReact = latched.interlock.closeEntry e (.aborted .wrongSystem) s.psq.step) ∧
      (s.psq.phase ≠ .active → s.bkiReact = latched.interlock)) ∧
    (wrong → s.bki.wrongCond = true ∨ s.bki.wrongLatch = true →
      s.bkiReact = State.interlock { s with bki := { s.bki with wrongCond := true } }) ∧
    (¬ wrong → s.bkiReact = State.interlock { s with bki := { s.bki with wrongCond := false } }))

/-- BRK_HOLD is asserted only as R103 allows, in every state a step can give. -/
def Obligations.HoldLawKept : Prop :=
  ∀ s t : State, s.holdLaw → step s = .next t → t.holdLaw

/-! ### The Passage Sequencer -/

/-- The offsets and the points of a section entry (R116 to R118): before arming with the offsets and the lead time of the update,
from arming with the offsets fixed in the plan, from activation with the lead time fixed too. What an estimate update does with them:
arming (R95, R119), activation up to the start of RAMP (R120), and the tests of an ACTIVE entry (R115). That the deadline tests come
before the position tests is the model's choice (log 2), after the order of R136; R115 names the position tests first. Where an entry
is not armed the premise is R21, the part of the queue's law (QueueLawsKept) by which no other entry has its tag. The two
timers of a passage: the ramp timer ends RAMP and OPEN follows (R122, R123); the confirm timer closes the entry DONE_NO_VOLTAGE or
aborts it (R130). -/
def Obligations.PointsAndTimersOfAPassage : Prop :=
  (∀ (s : State) (e : Entry), e.kind.isSection = true →
    let t := if e.kind = .neutral false then s.tRamp + s.tOpen else s.tRamp + s.tOpen + s.tLower
    let points (oLead oRear t : Nat) : Points :=
      let g := (s.pe.v * t + 999) / 1000
      let d := e.start + BitVec.ofNat 32 oLead
      { tag := e.tag, g := g, d := d, a := d - BitVec.ofNat 32 (s.margin + g + s.pe.u),
        arming := d - BitVec.ofNat 32 (s.margin + g + s.pe.u) - BitVec.ofNat 32 s.armLead, deadline := d - BitVec.ofNat 32 s.pe.u,
        c := e.start + BitVec.ofNat 32 (e.len + oRear + s.margin + s.pe.u), e := s.pe.e, u := s.pe.u }
    (e.held = false → s.pointsOf e = points s.oLeadNow s.oRearNow t) ∧
    (∀ oLead, s.psq.oLead = some oLead → ∀ oRear, s.psq.oRear = some oRear →
      (e.status = .armed → s.pointsOf e = points oLead oRear t) ∧
      (∀ tLead, s.psq.tLead = some tLead → e.status = .active → s.pointsOf e = points oLead oRear tLead))) ∧
  (∀ (s : State) (e : Entry), s.teq.halted = false → s.teq.nearest = some e →
    let p := s.pointsOf e
    let reached (x : Pos) : Prop := 0 ≤ signedDiff s.pe.e x
    let kept : State := { s with psq := { s.psq with lastPoints := some p } }
    let status (x : Entry) (st : EntryStatus) (u : State) : State :=
      { u with teq := { u.teq with entries := u.teq.entries.map (fun y => if y = x then { y with status := st } else y) } }
    let armedNow : State := status e .armed { s with
      psq := { s.psq with phase := .armed, plan := some ⟨e.tag, e.kind, e.start, e.len⟩, oLead := some s.oLeadNow,
                          oRear := some s.oRearNow, lastPoints := some p },
      cs := { s.cs with hold := true, pend := none } }
    let tested (u : State) : State := if u.psq.phase = .active then State.advance 7 .update u else u
    let arms := e.status = .queued ∧ reached p.arming ∧ ¬ reached p.c
    (e.status = .queued → s.psq.phase ≠ .active →
      (¬ arms → s.teq.disjointLaw → s.psqUpdate = kept) ∧
      (arms → ¬ reached p.a → s.psqUpdate = armedNow) ∧
      (arms → reached p.a → s.psqUpdate = tested ((armedNow.activate { e with status := .armed }).deadlineTests p.deadline))) ∧
    (e.status = .armed → s.psq.phase ≠ .active → ¬ reached p.a ∨ reached p.c → s.psqUpdate = kept) ∧
    (e.status = .armed → reached p.a → ¬ reached p.c → s.psqUpdate = tested ((kept.activate e).deadlineTests p.deadline)) ∧
    (e.status = .active → s.psqUpdate = tested (kept.deadlineTests p.deadline)) ∧
    (let tLead := if e.kind = .neutral false then s.tRamp + s.tOpen else s.tRamp + s.tOpen + s.tLower
     let ramp : Timer := if s.bki.state = .closed then some (s.tRamp * 1000) else none
     let q : Psq := { s.psq with
       phase := .active, tLead := some tLead, seqHeld := true, emergency := false, step := some .ramp, timeInStep := 0,
       rampTimer := ramp, confirmTimer := none }
     let c : Csu := { s.csu with seqHeld := true, seen := { s.csu.seen with seq := true }, tro := true }
     s.activate e = State.advance 7 .start ((status e .active { s with psq := q, csu := c }).raiseIf (!s.csu.tro) .troOn))) ∧
  (∀ s : State, s.teq.halted = true ∨ s.teq.nearest = none → s.psqUpdate = s) ∧
  (∀ (s : State),
    let eff (k : SlotId) : Nat := match s.pe.lead with
      | .aEnd => (s.slots.get k).offset
      | .bEnd => s.trainLength - (s.slots.get k).offset
    ((∀ k, (s.slots.get k).enabled = false) → s.oLeadNow = 0 ∧ s.oRearNow = 0) ∧
    (∀ k, (s.slots.get k).enabled = true → s.oLeadNow ≤ eff k ∧ eff k ≤ s.oRearNow) ∧
    ((∃ k, (s.slots.get k).enabled = true) →
      (∃ k, (s.slots.get k).enabled = true ∧ s.oLeadNow = eff k) ∧ ∃ k, (s.slots.get k).enabled = true ∧ s.oRearNow = eff k)) ∧
  (∀ s : State, s.inReset = false → s.psq.phase = .active →
    (s.psq.step = some .ramp → s.psq.rampTimer.isSome = true → s.bki.state = .closed → s.bki.aux.acc = true →
      exec .psqRampTimerExpiry s = .next (State.handOn { s with
        psq := { s.psq with step := some .openBrk, timeInStep := 0, rampTimer := none, confirmTimer := none },
        bki := { s.bki with state := .opening, hold := false, sup := some (s.tOpenMax * 1000), ramp := none } })) ∧
    (∀ e, s.psq.step = some .confirm → s.psq.confirmTimer.isSome = true → s.teq.activeEntry = some e →
      (s.lsu.confirmed = .none → exec .confirmTimerExpiry s =
        .next ((s.raise .lineLoss).closeEntry e .doneNoVoltage (some .confirm)).handOn) ∧
      (s.lsu.confirmed ≠ .none → exec .confirmTimerExpiry s =
        .next (s.closeEntry e (.aborted .wrongSystem) (some .confirm)).handOn)))

/-- What each step of a passage waits for, and what follows it (R122 to R124, R127, R129 to R131); the start of each step: the
sequencer-class open of OPEN, the LOWER holds, the release of RERAISE with the next system, then the release of the holds, and the
confirm timer (R121 to R124, R128, R130); how steps follow one another (R121, R131, R134); and the deadline tests (R125, R126).
Row 4 of R129 reads "every other" as those not UP collecting, the start test of COAST reads MARGIN afresh, and a LOWER_LATE abort
records the step in progress when the update came (the model's readings, logs 23, 35 and 13). -/
def Obligations.PassageMovesByTheirTables : Prop :=
  let openingOf (s : State) : State :=
    let level := s.csu.seqHeld || decide (s.csu.overReason ≠ .idle)
    let b : Bki := { s.bki with state := .opening, hold := false, sup := some (s.tOpenMax * 1000), ramp := none }
    if s.bki.aux.acc then { s with bki := b }
    else State.raiseIf { s with
      bki := { b with state := .opened, kind := none, sup := none }, csu := { s.csu with demandHeld := false, tro := level } }
      (level && !s.csu.tro) .troOn
  (∀ (s : State) (c : Cause),
    let lowers := (s.psq.plan.map (fun p => p.kind.lowers)).getD false
    let noOpen := s.bki.state = .failed ∧ s.bki.kind = some .noOpen
    let target (k : SlotId) : Role := (s.cs.current.slots.get k).role
    let x (k : SlotId) : Slot := s.slots.get k
    let locked (k : SlotId) : Prop := (x k).state = .locked ∨ (((x k).state = .down ∨ (x k).state = .retryWait) ∧ (x k).add.acc = true)
    let collecting (k : SlotId) : Prop := (x k).state = .up ∧ (x k).role = .collect
    (s.psq.step = some .ramp →
      (s.bki.state ≠ .closed → s.stepMove c = .go .openBrk) ∧
      (s.bki.state = .closed → (c = .start ∨ c = .total) → s.csu.total ≤ s.openCurrent → s.stepMove c = .go .openBrk) ∧
      (s.bki.state = .closed → c = .start → s.tRamp = 0 → s.stepMove c = .go .openBrk) ∧
      (s.bki.state = .closed → s.openCurrent < s.csu.total → 0 < s.tRamp → s.stepMove c = .stay)) ∧
    (s.psq.step = some .openBrk →
      (s.bki.state = .opened → s.stepMove c = .go (if lowers then .lower else .coast)) ∧ (noOpen → s.stepMove c = .noOpen) ∧
      (s.bki.state ≠ .opened → ¬ noOpen → s.stepMove c = .stay)) ∧
    (noOpen → s.psq.step ∈ [some Step.lower, some .coast, some .reraise, some .confirm] → s.stepMove c = .noOpen) ∧
    (¬ noOpen →
      (s.psq.step = some .lower →
        let lowered := ∀ k, (x k).enabled = true → ((x k).down.acc = true ∧ (x k).prv = 0) ∨ ((x k).state = .locked ∧ (x k).locks.stuckUp = true)
        (lowered → s.stepMove c = .go .coast) ∧ (¬ lowered → s.stepMove c = .stay)) ∧
      (∀ p, s.psq.step = some .coast → s.psq.plan = some p → (c = .start ∨ c = .update) →
        let cleared := 0 ≤ signedDiff s.pe.e (p.start + BitVec.ofNat 32 (p.len + s.psq.oRear.getD 0 + s.margin + s.pe.u))
        (cleared → s.stepMove c = .go (if lowers then .reraise else .confirm)) ∧ (¬ cleared → s.stepMove c = .stay)) ∧
      (s.psq.step = some .reraise →
        ((∀ k, target k ≠ .collect) → s.stepMove c = .close .done) ∧
        ((∃ k, target k = .collect) → (∀ k, target k = .collect → locked k) → s.stepMove c = .close (.aborted .noCollector)) ∧
        ((∃ k, target k = .collect ∧ ¬ locked k) →
          ((∀ k, target k ≠ .stow → (x k).state = .up ∧ (x k).role = (x k).tRole) → s.stepMove c = .go .confirm) ∧
          ((∃ k, target k = .collect ∧ collecting k) → (∀ k, target k ≠ .stow → collecting k ∨ locked k) → s.stepMove c = .go .confirm) ∧
          ((∃ k, target k ≠ .stow ∧ ¬ ((x k).state = .up ∧ (x k).role = (x k).tRole)) →
            ((∀ k, target k = .collect → ¬ collecting k) ∨ (∃ k, target k ≠ .stow ∧ ¬ collecting k ∧ ¬ locked k)) →
            s.stepMove c = .stay))) ∧
      (s.psq.step = some .confirm →
        let confirms := (∃ y, s.cs.demand.expected = some y ∧ s.lsu.confirmed = .sys y) ∨
          (s.cs.demand.expected = none ∧ ∃ y, s.lsu.confirmed = .sys y)
        (confirms → s.stepMove c = .close .done) ∧ (¬ confirms → s.stepMove c = .stay))) ∧
    (∀ st, s.stepMove c = .go st → ∃ now, s.psq.step = some now ∧ now.code < st.code) ∧
    (∀ n : Nat,
      (s.stepMove c = .stay → State.advance (n + 1) c s = s) ∧
      (∀ st, s.stepMove c = .go st → State.advance (n + 1) c s = State.advance n .start (s.startStep st)) ∧
      (∀ e r, s.teq.activeEntry = some e → s.stepMove c = .close r → State.advance (n + 1) c s =
        (s.raiseIf (decide (r = .doneNoVoltage)) .lineLoss).closeEntry e r s.psq.step) ∧
      (∀ e, s.teq.activeEntry = some e → s.stepMove c = .noOpen → State.advance (n + 1) c s =
        State.closeEntry e (.aborted .brkNoOpen) s.psq.step { s with
          psq := { s.psq with slotHold := .fast }, slots := .of (fun k => (s.slots.get k).setHold s.puCtx .fast) }))) ∧
  (∀ s : State,
    let begun (st : Step) : State :=
      { s with psq := { s.psq with step := some st, timeInStep := 0, rampTimer := none, confirmTimer := none } }
    let shut := s.bki.state = .closing ∨ s.bki.state = .closed
    let release (u : State) : State := match u.cs.pend with
      | none => u
      | some p => if p = u.cs.current then { u with cs := { u.cs with pend := none } }
        else { u with cs := { u.cs with pend := none, current := p }, slots := .of (fun k => (u.slots.get k).deliver u.puCtx (p.slots.get k)) }
    let free (u : State) : State :=
      { u with psq := { u.psq with slotHold := .none }, slots := .of (fun k => (u.slots.get k).releaseHold u.puCtx) }
    (s.bki.state ≠ .closed → s.startStep .ramp = begun .ramp) ∧
    (s.bki.state = .closed → s.startStep .ramp = { s with psq := { (begun .ramp).psq with rampTimer := some (s.tRamp * 1000) } }) ∧
    (¬ shut → s.startStep .openBrk = begun .openBrk) ∧
    (shut → s.startStep .openBrk = openingOf (begun .openBrk)) ∧
    s.startStep .lower = { s with
      psq := { (begun .lower).psq with slotHold := .lower }, slots := .of (fun k => (s.slots.get k).setHold s.puCtx .lower) } ∧
    s.startStep .coast = begun .coast ∧
    s.startStep .confirm = { s with psq := { (begun .confirm).psq with confirmTimer := some (s.confirmTimeout * 1000) } } ∧
    (∀ p, s.psq.plan = some p →
      ((∀ x, p.kind ≠ .boundary x) → s.startStep .reraise = free (release (begun .reraise))) ∧
      (∀ x, p.kind = .boundary x →
        let u := (begun .reraise).writeDemand { s.cs.demand with expected := some x }
        s.startStep .reraise = free (release (if u.cvNow = u.cs.cv then u else u.evaluate))))) ∧
  (∀ (s : State) (deadline : Pos),
    let reached := 0 ≤ signedDiff s.pe.e deadline
    let shut := s.bki.state = .closing ∨ s.bki.state = .closed
    let late := (∃ p, s.psq.plan = some p ∧ p.kind.lowers = true) ∧ s.psq.step ∈ [some Step.ramp, some .openBrk, some .lower] ∧
      ∃ k, (s.slots.get k).enabled = true ∧ ¬ ((s.slots.get k).down.acc = true ∧ (s.slots.get k).prv = 0) ∧
        ¬ ((s.slots.get k).state = .locked ∧ (s.slots.get k).locks.stuckUp = true)
    let opened : State := if shut then openingOf { s with psq := { s.psq with emergency := true } } else s
    (s.psq.phase ≠ .active ∨ ¬ reached → s.deadlineTests deadline = s) ∧
    (∀ e, s.psq.phase = .active → reached → s.teq.activeEntry = some e →
      (¬ late → s.deadlineTests deadline = opened) ∧
      (late → s.deadlineTests deadline = State.closeEntry e (.aborted .lowerLate) s.psq.step { opened with
        psq := { opened.psq with slotHold := .fast }, slots := .of (fun k => (s.slots.get k).setHold opened.puCtx .fast) })))

/-! ### The Ice Unit -/

/-- A rising edge is counted, stopping at 65,535 with the overflow mark (R141); the end of a gate stores its count and begins
the next gate (R140); the end of the AMB gate is the scan completion, under either of its rows; a heater takes the level of its grant
and the scan time (R149); at the end of the fall timer the measured level takes the computed level (R155). At a change of an input
the computed level follows the arcs of the collecting slots and the band (R154), the measured level follows it at once or starts its
fall (R155), the ice level is formed afresh (R156), and a change of it raises ICE_LEVEL (R157).
When a heater's level is taken afresh is the model's reading (log 21). -/
def Obligations.ScanEvents : Prop :=
  (∀ (s : State) (k : SlotId), s.inReset = false →
    let i := s.icu
    let begun (x : Icu) (next : Channel) : State := { s with icu := { x with chan := next, gate := some 50000, count := ⟨0, false⟩ } }
    let driven (t : State) : State := { t with icu := { t.icu with htr := .of t.icu.drive } }
    exec .rfcCxRisingEdge s = .next { s with icu := { i with
      count := if i.count.n < 65535 then { i.count with n := i.count.n + 1 } else ⟨65535, true⟩ } } ∧
    (i.chan = .ref → exec .gateEnd s = .next (driven (begun { i with lastRef := i.count } (.strip .ps0)))) ∧
    (∀ j : SlotId, i.chan = .strip j → exec .gateEnd s = .next (driven (begun { i with lastStrip := i.lastStrip.set j i.count }
      (match j with
       | .ps0 => .strip .ps1
       | .ps1 => .strip .ps2
       | .ps2 => .strip .ps3
       | .ps3 => .amb)))) ∧
    (i.chan = .amb →
      exec .gateEnd s = .next (begun { i with lastAmb := i.count } .ref).scanComplete.handOn ∧
      exec .scanCompletion s = .next (begun { i with lastAmb := i.count } .ref).scanComplete.handOn) ∧
    exec (.heaterDriveEdge k) s = .next { s with icu := { i with htr := i.htr.set k (i.grant.get k && drivenAt k i.duty i.scanTime) } } ∧
    (i.fall.isSome = true →
      let level := if i.iceDemand = .off then 0 else max (max i.zoneHint i.computed) i.iceDemand.force
      exec .fallTimerExpiry s = .next (({ s with icu := { i with measured := i.computed, fall := none, iceLevel := level } }.raiseIf
        (decide (level ≠ i.iceLevel)) .iceLevel).handOn)) ∧
    (∀ t, drivenAt k i.duty t = true ↔
      let d := [50000, 67000, 100000, 200000].getD i.duty 0
      let b := 50000 * k.num
      (t < b ∧ t < d) ∨ (b + 100000 ≤ t ∧ t - 100000 < d))) ∧
  (∀ s : State, s.icu.ambBand ≤ 2 →
    let role (k : SlotId) : Role := (s.slots.get k).role
    let arcs (k : SlotId) : Nat := (s.csu.buckets.get k).sum
    let inside (e : Entry) (h : Nat) : Prop := e ∈ s.teq.entries ∧ e.kind = .iceZone h ∧ e.status = .inside
    ∃ r hint : Nat,
      (∀ k, role k = .collect → arcs k ≤ r) ∧ (r = 0 ∨ ∃ k, role k = .collect ∧ arcs k = r) ∧
      (∀ e h, inside e h → h ≤ hint) ∧ (hint = 0 ∨ ∃ e, inside e hint) ∧
      let i := s.icu
      let computed := if i.ambBand = 2 then 0 else if i.ambBand = 0 then (if 5 ≤ r then 2 else 0)
        else if 20 ≤ r then 2 else if 5 ≤ r then 1 else 0
      let measured := max i.measured computed
      let fall : Timer := if i.measured ≤ computed then none else if i.fall.isSome then i.fall else some 30000000
      let level := if s.cs.demand.ice = .off then 0 else max (max hint measured) s.cs.demand.ice.force
      s.icuReact = State.raiseIf { s with icu := { i with
        roles := .of role, arcs := .of arcs, zoneHint := hint, iceDemand := s.cs.demand.ice, computed := computed,
        measured := measured, fall := fall, iceLevel := level } } (decide (level ≠ i.iceLevel)) .iceLevel)

/-- A scan completion: the reference and the fault kinds (R142, R143), the temperatures of the strips and of AMB (R144), the
flag SENSOR_FAULT (R145), the band (R146), the over-temperature latches (R150), the computed, measured and ice level and ICE_LEVEL
(R154 to R157), the requests (R147) and the grants in the order of R148. The three flags rise exactly as these rules say. -/
def Obligations.ScanCompletionByItsOrder : Prop :=
  (∀ s : State,
    let i := s.icu
    let t := s.scanComplete
    let refFault := i.lastRef.ovf = true ∨ i.lastRef.n < 30000 ∨ 50000 < i.lastRef.n
    let scanned (c : Count) (x y : Sensor) : Prop :=
      let fault : SensorFault := if c.ovf then .short else if c.n < 16000 then .opened else .none
      let raw := roundDiv ((((10000 * i.lastRef.n / c.n : Nat) : Int) - 10000) * 100) 385
      y.fault = fault ∧
      (refFault ∨ fault ≠ .none → y.valid = false ∧ y.temp = x.temp ∧ y.clamped = x.clamped) ∧
      (¬ refFault → fault = .none → y.valid = true ∧ y.temp = max (-500) (min 1500 raw) ∧ (y.clamped = true ↔ raw < -500 ∨ 1500 < raw))
    let newFault (x y : Sensor) : Prop := y.fault ≠ .none ∧ y.fault ≠ x.fault
    let newLatch (k : SlotId) : Prop := t.icu.heaterFault.get k = true ∧ i.heaterFault.get k = false
    let rises (f : Flag) (cause : Prop) : Prop := FlagSet.has t.fnu.flags f = true ↔ FlagSet.has s.fnu.flags f = true ∨ cause
    (t.icu.refFault = true ↔ refFault) ∧ t.icu.scans = (i.scans + 1) % 65536 ∧ t.icu.duty = s.heaterDuty ∧
    scanned i.lastAmb i.amb t.icu.amb ∧
    t.icu.ambBand = (if t.icu.amb.valid then (if t.icu.amb.temp ≤ -100 then 0 else if t.icu.amb.temp ≤ 30 then 1 else 2) else 1) ∧
    rises .sensorFault ((refFault ∧ i.refFault = false) ∨ newFault i.amb t.icu.amb ∨
      ∃ k, newFault (i.strip.get k) (t.icu.strip.get k)) ∧
    rises .heaterFault (∃ k, newLatch k) ∧ rises .iceLevel (t.icu.iceLevel ≠ i.iceLevel) ∧
    (∃ r, (∀ k, i.roles.get k = .collect → i.arcs.get k ≤ r) ∧ (r = 0 ∨ ∃ k, i.roles.get k = .collect ∧ i.arcs.get k = r) ∧
      t.icu.computed = (if t.icu.ambBand = 2 then 0 else if t.icu.ambBand = 0 then (if 5 ≤ r then 2 else 0)
        else if 20 ≤ r then 2 else if 5 ≤ r then 1 else 0)) ∧
    t.icu.measured = max i.measured t.icu.computed ∧
    t.icu.fall = (if i.measured ≤ t.icu.computed then none else if i.fall.isSome then i.fall else some 30000000) ∧
    t.icu.iceLevel = (if i.iceDemand = .off then 0 else max (max i.zoneHint t.icu.measured) i.iceDemand.force) ∧
    (∀ k,
      let y := t.icu.strip.get k
      scanned (i.lastStrip.get k) (i.strip.get k) y ∧
      (t.icu.heaterFault.get k = true ↔ i.heaterFault.get k = true ∨ (i.grant.get k = true ∧ y.valid = true ∧ 600 < y.temp)) ∧
      (t.icu.request.get k = true ↔ t.icu.iceLevel ≠ 0 ∧ i.roles.get k ≠ .stow ∧ y.valid = true ∧ t.icu.heaterFault.get k = false ∧
        (y.temp < heaterTarget t.icu.iceLevel - 20 ∨ (i.grant.get k = true ∧ y.temp < heaterTarget t.icu.iceLevel))) ∧
      (t.icu.grant.get k = true → t.icu.request.get k = true) ∧
      (t.icu.request.get k = true → t.icu.grant.get k = false → ∃ a b, a ≠ b ∧ t.icu.grant.get a = true ∧ t.icu.grant.get b = true ∧
        arbiterBefore i.roles t.icu.strip a k = true ∧ arbiterBefore i.roles t.icu.strip b k = true))) ∧
  (∀ (a : Int) (b : Nat), 0 < b → (2 * (roundDiv a b * b - a).natAbs ≤ b) ∧ (a < 0 → roundDiv a b = - roundDiv (-a) b)) ∧
  (∀ (q b : Nat) (a : Int), 0 < b → 2 * a = (2 * q + 1) * b → roundDiv a b = q + 1)

/-- At most two strip heaters are driven, and none whose slot has a latched heater fault or an invalid strip temperature: with
the grants that stand inside this law before a step, they stand inside it after. -/
def Obligations.HeaterLawKept : Prop :=
  (∀ i : Icu, i.grantLaw → i.heaterLaw) ∧ ∀ s t : State, s.icu.grantLaw → step s = .next t → t.icu.grantLaw

/-! ### The Collection Supervisor -/

/-- One sample event: the arc watch (R172, R173), the history, the mean and the total (R161, R163) of each slot, then the marks,
OVER, the overload timer and TRO (R163, R166, R169), before anything is handed on. -/
def Obligations.SampleEventByItsOrder : Prop :=
  ∀ (s : State) (amps : PerSlot Nat), s.inReset = false →
    ∃ t : State, exec (.csuSample amps) s = .next (t.reportTotal.handOn) ∧
      (∀ k,
        let a := min 4000 (amps.get k)
        let old := s.csu.hist.get k
        let watching := (s.csu.dropout.get k).isSome = true
        t.csu.hist.get k = ⟨a, decide (4000 ≤ amps.get k)⟩ :: old.take 19 ∧
        t.csu.mean.get k = (a + ((old.take 19).map (fun x => x.amps)).sum) / 20 ∧
        (¬ watching → t.csu.buckets.get k = s.csu.buckets.get k ∧ t.csu.dropout.get k =
          if a < 5 ∧ s.csu.roles.get k = .collect ∧ s.csu.brk = .closed ∧ 50 ≤ s.csu.mean.get k then some 50000 else none) ∧
        (watching → a < 5 → t.csu.dropout.get k = s.csu.dropout.get k ∧ t.csu.buckets.get k = s.csu.buckets.get k) ∧
        (watching → 5 ≤ a → t.csu.dropout.get k = none ∧
          ∀ b bs, s.csu.buckets.get k = b :: bs → t.csu.buckets.get k = min 255 (b + 1) :: bs) ∧
        (t.csu.overMark.get k = true ↔ s.csu.roles.get k = .collect ∧ s.csu.limit.get k < t.csu.mean.get k)) ∧
      (t.csu.overLimit = true ↔ ∃ k, t.csu.overMark.get k = true) ∧
      t.csu.total = ((allSlots.filter (fun k => decide (s.csu.roles.get k = .collect))).map (fun k => t.csu.mean.get k)).sum ∧
      (t.csu.overLimit = true → s.csu.overLimit = false → t.csu.overReason = .timing ∧ t.csu.width = some (s.troWidth * 1000) ∧
        t.csu.half = some (s.troWidth * 500) ∧ t.csu.overload = some (s.overloadTime * 1000) ∧ t.csu.seen.ovr = true) ∧
      (t.csu.overLimit = false → s.csu.overLimit = true → t.csu.overload = none ∧ t.csu.overReason = s.csu.overReason ∧
        t.csu.width = s.csu.width) ∧
      (t.csu.overLimit = s.csu.overLimit → t.csu.overload = s.csu.overload ∧ t.csu.overReason = s.csu.overReason) ∧
      (t.csu.tro = true ↔ s.csu.seqHeld = true ∨ s.csu.demandHeld = true ∨ t.csu.overReason ≠ .idle) ∧
      (t.csu.tro = true → s.csu.tro = false → FlagSet.has t.fnu.flags .troOn = true) ∧
      t.csu.overloadLatch = s.csu.overloadLatch ∧ t.csu.sample = some 1000 ∧ t.csu.limit = s.csu.limit ∧
      t.pe = s.pe ∧ t.teq = s.teq ∧ t.psq = s.psq ∧ t.bki = s.bki ∧ t.slots = s.slots ∧ t.cs = s.cs ∧ t.icu = s.icu ∧ t.lsu = s.lsu

/-- CLEAR_TRO by the rows of R168, and the timers: the half point (R166), the end of the width (R167), the overload
trip (R169), the end of a dropout (R172) and the turnover of the buckets (R173). -/
def Obligations.CurrentTimersAndClearTro : Prop :=
  ∀ s : State, s.inReset = false →
    let c := s.csu
    let w (t : State) : State :=
      { t with csu := { t.csu with width := some (s.troWidth * 1000), half := some (s.troWidth * 500) } }
    let held := c.seqHeld || c.demandHeld
    let troOn (t : State) : State := t.raiseIf (t.csu.tro && !c.tro) .troOn
    (∀ l, s.Commands l .clearTro [] →
      (c.overReason = .extended → c.overLimit = false → exec (.clearTro l) s =
        .next ((troOn { s with csu := { c with overReason := .idle, tro := held } }).answered l 0x3C [0x00, 0x01])) ∧
      (c.overReason = .timing → c.overLimit = true → exec (.clearTro l) s = .next ((w s).answered l 0x3C [0x00, 0x02])) ∧
      (c.overReason = .idle ∨ (c.overReason = .timing ∧ c.overLimit = false) →
        exec (.clearTro l) s = .next (s.answered l 0x3C [0x00, 0x00]))) ∧
    (c.half.isSome = true →
      (c.overReason = .timing → c.overLimit = true → exec .widthHalfPoint s = .next (w s)) ∧
      (c.overLimit = false → exec .widthHalfPoint s = .next { s with csu := { c with half := none } })) ∧
    (c.width.isSome = true →
      (s.param 0x11 = 1 → exec .widthTimerEnd s =
        .next (troOn { s with csu := { c with width := none, half := none, overReason := .extended, tro := true } })) ∧
      (s.param 0x11 = 0 → exec .widthTimerEnd s =
        .next (troOn { s with csu := { c with width := none, half := none, overReason := .idle, tro := held } }))) ∧
    (c.overload.isSome = true →
      (c.overloadLatch = true → exec .overloadTimerExpiry s = .next { s with csu := { c with overload := none } }) ∧
      (c.overloadLatch = false → exec .overloadTimerExpiry s =
        .next (({ s with csu := { c with overload := none, overloadLatch := true } }.raise .overload).handOn))) ∧
    (∀ k, exec (.dropoutTimerExpiry k) s = .next { s with csu := { c with dropout := c.dropout.set k none } }) ∧
    exec .bucketTurnover s = .next (State.handOn { s with csu := { c with
      buckets := .of (fun k => 0 :: (c.buckets.get k).take 9), bucket := some 1000000 } })

/-- TRO has the level its reasons give (R164), every slot keeps ten buckets of at most 255 arcs (R173), and no limit is above its
table value or, with no system expected, above 0 (R162): every step keeps the three. What the limits are is a clause of
HandingOnFrame. -/
def Obligations.CollectionLawsKept : Prop :=
  ∀ s t : State, s.csu.troLaw → s.csu.bucketLaw → s.limitLaw → step s = .next t → t.csu.troLaw ∧ t.csu.bucketLaw ∧ t.limitLaw

/-! ### Flags, latches and notices -/

/-- CLEAR_FLAGS and SET_NOTICE_MASK by their tables (R179, R181): a set with a bit above 25 is refused, any other is taken. CLEAR_FAULT
in the order of R184, each owner with its own test (R50, R111, R151, R170). -/
def Obligations.FlagRequestsByTheirTables : Prop :=
  ∀ (s : State) (l : Link) (b0 b1 b2 b3 : Byte),
    let n := be [b0, b1, b2, b3]
    let x : FlagSet := BitVec.ofNat 26 n
    (s.Commands l .clearFlags [b0, b1, b2, b3] →
      (67108864 ≤ n → exec (.clearFlags l) s = .next (s.answered l 0x40 ([0x04] ++ toBE 4 s.fnu.flags.toNat))) ∧
      (n < 67108864 → exec (.clearFlags l) s = .next ({ s with fnu := { s.fnu with flags := s.fnu.flags &&& ~~~x } }.answered l 0x40
        ([0x00] ++ toBE 4 (s.fnu.flags &&& ~~~x).toNat)))) ∧
    (s.Starts l .setNoticeMask [b0, b1, b2, b3] →
      (67108864 ≤ n → exec (.setNoticeMask l) s = .next (s.answered l 0x43 ([0x04] ++ toBE 4 (s.fnu.mask.get l).toNat))) ∧
      (n < 67108864 → exec (.setNoticeMask l) s = .next ({ s with fnu := { s.fnu with mask := s.fnu.mask.set l x } }.answered l 0x43
        ([0x00] ++ [b0, b1, b2, b3])))) ∧
    (s.Commands l .clearFault [b0] →
      let row (set persists : Bool) (cleared : State) : Prop :=
        (set = false → exec (.clearFault l) s = .next (s.answered l 0x41 [0x00, 0x00])) ∧
        (set = true → persists = true → exec (.clearFault l) s = .next (s.answered l 0x41 [0x0D])) ∧
        (set = true → persists = false → exec (.clearFault l) s =
          .next (({ cleared with lif := (s.beginService l).lif }.handOn).replied l 0x41 [0x00, 0x01]))
      (7 < b0.toNat → exec (.clearFault l) s = .next (s.answered l 0x41 [0x04])) ∧
      (b0 = 0 → row s.lsu.overvolt
        (match s.lsu.last with
         | some w => overWindow s.cs.demand.expected w.period w.magnitude
         | none => false)
        { s with lsu := { s.lsu with overvolt := false } }) ∧
      (b0 = 1 → row s.bki.wrongLatch
        (decide (s.lsu.confirmed ≠ .none) && s.cs.demand.expected.any (fun y => decide (s.lsu.confirmed ≠ .sys y)) &&
          s.slots.any (fun y => decide (y.state = .up) && decide (y.role = .collect)))
        { s with bki := { s.bki with wrongLatch := false } }) ∧
      (b0 = 2 → row s.csu.overloadLatch s.csu.overLimit { s with csu := { s.csu with overloadLatch := false } }) ∧
      (b0 = 3 → row s.bki.brkFault (decide (s.bki.state = .failed)) { s with bki := { s.bki with brkFault := false, tripWindow := none } }) ∧
      (∀ k : SlotId, b0.toNat = 4 + k.num → row (s.icu.heaterFault.get k)
        ((s.icu.strip.get k).valid && decide (600 < (s.icu.strip.get k).temp))
        { s with icu := { s.icu with heaterFault := s.icu.heaterFault.set k false } }))

/-- A flag falls only when CLEAR_FLAGS is served or the part is reset; a mask changes only when SET_NOTICE_MASK is served on its own
link or the part is reset; and a flag that rises sets the pending of each link whose mask enables it. -/
def Obligations.FlagsFallOnlyWhenCleared : Prop :=
  ∀ s t : State, step s = .next t →
    (∀ f, FlagSet.has s.fnu.flags f = true → FlagSet.has t.fnu.flags f = false →
      (∃ l, s.pending.head? = some (.clearFlags l)) ∨ s.resets) ∧
    (∀ l, t.fnu.mask.get l ≠ s.fnu.mask.get l → s.pending.head? = some (.setNoticeMask l) ∨ s.resets) ∧
    (∀ f l, FlagSet.has s.fnu.flags f = false → FlagSet.has t.fnu.flags f = true → FlagSet.has (s.fnu.mask.get l) f = true →
      t.fnu.notice.get l = true)

/-! ### Handing on -/

/-- What handing on leaves alone: the estimate, the links, the queue's own counts, the rules, what was measured, every input,
and what only its owner's commands change. It clears no flag. And the limits it gives: every slot's is
floor(LIMIT × percentage / 100) of the system, the column and the profile that the Collection Supervisor holds, which it takes from
their owners (R162, R174). -/
def Obligations.HandingOnFrame : Prop :=
  ∀ s : State,
    let t := s.handOn
    let u := s.csuReact
    (∀ k, t.csu.limit.get k = match t.csu.expected with
      | none => 0
      | some x => s.param (0x1C + 2 * (x.code - 1) + (if t.csu.band = 0 then 1 else 0)) *
          [100, 75, 50, 25].getD t.csu.profile 0 / 100) ∧
    u.csu.expected = s.cs.demand.expected ∧ u.csu.band = s.pe.band ∧ u.csu.profile = s.cs.current.profile ∧
    (∀ k, u.csu.roles.get k = (s.slots.get k).role) ∧
    t.pending = s.pending ∧ t.inReset = s.inReset ∧ t.pe = s.pe ∧ t.lif = s.lif ∧ t.teq.posted = s.teq.posted ∧
    t.lsu = { s.lsu with overCount := t.lsu.overCount } ∧
    t.cs.rules = s.cs.rules ∧ t.cs.demand = { s.cs.demand with expected := t.cs.demand.expected } ∧
    t.icu = { s.icu with
      roles := t.icu.roles, zoneHint := t.icu.zoneHint, iceDemand := t.icu.iceDemand, arcs := t.icu.arcs,
      computed := t.icu.computed, measured := t.icu.measured, fall := t.icu.fall, iceLevel := t.icu.iceLevel } ∧
    (∀ k, (t.slots.get k).enabled = (s.slots.get k).enabled ∧ (t.slots.get k).offset = (s.slots.get k).offset ∧
      (t.slots.get k).mask = (s.slots.get k).mask ∧ (t.slots.get k).down = (s.slots.get k).down ∧
      (t.slots.get k).contact = (s.slots.get k).contact ∧ (t.slots.get k).add = (s.slots.get k).add ∧
      (t.slots.get k).dsf = (s.slots.get k).dsf ∧ (t.slots.get k).contactLosses = (s.slots.get k).contactLosses) ∧
    t.bki.aux = s.bki.aux ∧ t.bki.tripWindow = s.bki.tripWindow ∧ t.bki.reclose = s.bki.reclose ∧
    (s.bki.brkFault = true → t.bki.brkFault = true) ∧ (s.bki.wrongLatch = true → t.bki.wrongLatch = true) ∧
    t.csu.hist = s.csu.hist ∧ t.csu.mean = s.csu.mean ∧ t.csu.buckets = s.csu.buckets ∧ t.csu.overloadLatch = s.csu.overloadLatch ∧
    t.csu.sample = s.csu.sample ∧ t.csu.bucket = s.csu.bucket ∧
    t.fnu.mask = s.fnu.mask ∧ (∀ f, FlagSet.has s.fnu.flags f = true → FlagSet.has t.fnu.flags f = true)
end

