-- ==== Sys2Proof/Laws/State.lean ====
section
/-! SUPPORT. What reading a part of the state gives after each named update of it: one lemma a field and update, all true
by definition. And the same for the values held per slot and per link. -/

namespace Sys2Proof

@[simp] theorem PerSlot.get_set_self {α : Type} (p : PerSlot α) (k : SlotId) (x : α) : (p.set k x).get k = x := by
  cases k <;> rfl
theorem PerSlot.get_set_ne {α : Type} (p : PerSlot α) (k j : SlotId) (x : α) (h : j ≠ k) :
    (p.set k x).get j = p.get j := by
  cases k <;> cases j <;> first | rfl | exact absurd rfl h
@[simp] theorem PerSlot.get_all {α : Type} (x : α) (k : SlotId) : (PerSlot.all x).get k = x := by cases k <;> rfl
@[simp] theorem PerSlot.get_map {α β : Type} (f : α → β) (p : PerSlot α) (k : SlotId) : (p.map f).get k = f (p.get k) := by
  cases k <;> rfl
@[simp] theorem PerSlot.get_of {α : Type} (f : SlotId → α) (k : SlotId) : (PerSlot.of f).get k = f k := by cases k <;> rfl

namespace Machine

@[simp] theorem PerLink.get_set_self {α : Type} (p : PerLink α) (l : Link) (x : α) : (p.set l x).get l = x := by
  cases l <;> rfl
@[simp] theorem PerLink.get_set_other {α : Type} (p : PerLink α) (l : Link) (x : α) : (p.set l x).get l.other = p.get l.other := by
  cases l <;> rfl
@[simp] theorem PerLink.set_set {α : Type} (p : PerLink α) (l : Link) (x y : α) : (p.set l x).set l y = p.set l y := by
  cases l <;> rfl
@[simp] theorem State.linkOf_updLink (s : State) (l : Link) (f : LinkState → LinkState) :
    (s.updLink l f).linkOf l = f (s.linkOf l) := by cases l <;> rfl
@[simp] theorem State.linkOf_updLink_other (s : State) (l : Link) (f : LinkState → LinkState) :
    (s.updLink l f).linkOf l.other = s.linkOf l.other := by cases l <;> rfl

@[simp] theorem State.raise_pending (s : State) (f : Flag) : (s.raise f).pending = s.pending := rfl
@[simp] theorem State.raise_inReset (s : State) (f : Flag) : (s.raise f).inReset = s.inReset := rfl
@[simp] theorem State.raise_pe (s : State) (f : Flag) : (s.raise f).pe = s.pe := rfl
@[simp] theorem State.raise_teq (s : State) (f : Flag) : (s.raise f).teq = s.teq := rfl
@[simp] theorem State.raise_psq (s : State) (f : Flag) : (s.raise f).psq = s.psq := rfl
@[simp] theorem State.raise_lsu (s : State) (f : Flag) : (s.raise f).lsu = s.lsu := rfl
@[simp] theorem State.raise_slots (s : State) (f : Flag) : (s.raise f).slots = s.slots := rfl
@[simp] theorem State.raise_cs (s : State) (f : Flag) : (s.raise f).cs = s.cs := rfl
@[simp] theorem State.raise_bki (s : State) (f : Flag) : (s.raise f).bki = s.bki := rfl
@[simp] theorem State.raise_icu (s : State) (f : Flag) : (s.raise f).icu = s.icu := rfl
@[simp] theorem State.raise_csu (s : State) (f : Flag) : (s.raise f).csu = s.csu := rfl
@[simp] theorem State.raise_fnu (s : State) (f : Flag) : (s.raise f).fnu = s.fnu.raise f := rfl
@[simp] theorem State.raise_lif (s : State) (f : Flag) : (s.raise f).lif = s.lif := rfl

@[simp] theorem State.updSlot_pending (s : State) (k : SlotId) (f : Slot → Slot) : (s.updSlot k f).pending = s.pending := rfl
@[simp] theorem State.updSlot_inReset (s : State) (k : SlotId) (f : Slot → Slot) : (s.updSlot k f).inReset = s.inReset := rfl
@[simp] theorem State.updSlot_pe (s : State) (k : SlotId) (f : Slot → Slot) : (s.updSlot k f).pe = s.pe := rfl
@[simp] theorem State.updSlot_teq (s : State) (k : SlotId) (f : Slot → Slot) : (s.updSlot k f).teq = s.teq := rfl
@[simp] theorem State.updSlot_psq (s : State) (k : SlotId) (f : Slot → Slot) : (s.updSlot k f).psq = s.psq := rfl
@[simp] theorem State.updSlot_lsu (s : State) (k : SlotId) (f : Slot → Slot) : (s.updSlot k f).lsu = s.lsu := rfl
@[simp] theorem State.updSlot_slots (s : State) (k : SlotId) (f : Slot → Slot) : (s.updSlot k f).slots = s.slots.set k (f (s.slots.get k)) := rfl
@[simp] theorem State.updSlot_cs (s : State) (k : SlotId) (f : Slot → Slot) : (s.updSlot k f).cs = s.cs := rfl
@[simp] theorem State.updSlot_bki (s : State) (k : SlotId) (f : Slot → Slot) : (s.updSlot k f).bki = s.bki := rfl
@[simp] theorem State.updSlot_icu (s : State) (k : SlotId) (f : Slot → Slot) : (s.updSlot k f).icu = s.icu := rfl
@[simp] theorem State.updSlot_csu (s : State) (k : SlotId) (f : Slot → Slot) : (s.updSlot k f).csu = s.csu := rfl
@[simp] theorem State.updSlot_fnu (s : State) (k : SlotId) (f : Slot → Slot) : (s.updSlot k f).fnu = s.fnu := rfl
@[simp] theorem State.updSlot_lif (s : State) (k : SlotId) (f : Slot → Slot) : (s.updSlot k f).lif = s.lif := rfl

@[simp] theorem State.mapSlots_pending (s : State) (f : Slot → Slot) : (s.mapSlots f).pending = s.pending := rfl
@[simp] theorem State.mapSlots_inReset (s : State) (f : Slot → Slot) : (s.mapSlots f).inReset = s.inReset := rfl
@[simp] theorem State.mapSlots_pe (s : State) (f : Slot → Slot) : (s.mapSlots f).pe = s.pe := rfl
@[simp] theorem State.mapSlots_teq (s : State) (f : Slot → Slot) : (s.mapSlots f).teq = s.teq := rfl
@[simp] theorem State.mapSlots_psq (s : State) (f : Slot → Slot) : (s.mapSlots f).psq = s.psq := rfl
@[simp] theorem State.mapSlots_lsu (s : State) (f : Slot → Slot) : (s.mapSlots f).lsu = s.lsu := rfl
@[simp] theorem State.mapSlots_slots (s : State) (f : Slot → Slot) : (s.mapSlots f).slots = s.slots.map f := rfl
@[simp] theorem State.mapSlots_cs (s : State) (f : Slot → Slot) : (s.mapSlots f).cs = s.cs := rfl
@[simp] theorem State.mapSlots_bki (s : State) (f : Slot → Slot) : (s.mapSlots f).bki = s.bki := rfl
@[simp] theorem State.mapSlots_icu (s : State) (f : Slot → Slot) : (s.mapSlots f).icu = s.icu := rfl
@[simp] theorem State.mapSlots_csu (s : State) (f : Slot → Slot) : (s.mapSlots f).csu = s.csu := rfl
@[simp] theorem State.mapSlots_fnu (s : State) (f : Slot → Slot) : (s.mapSlots f).fnu = s.fnu := rfl
@[simp] theorem State.mapSlots_lif (s : State) (f : Slot → Slot) : (s.mapSlots f).lif = s.lif := rfl

@[simp] theorem State.updLink_pending (s : State) (l : Link) (f : LinkState → LinkState) : (s.updLink l f).pending = s.pending := rfl
@[simp] theorem State.updLink_inReset (s : State) (l : Link) (f : LinkState → LinkState) : (s.updLink l f).inReset = s.inReset := rfl
@[simp] theorem State.updLink_pe (s : State) (l : Link) (f : LinkState → LinkState) : (s.updLink l f).pe = s.pe := rfl
@[simp] theorem State.updLink_teq (s : State) (l : Link) (f : LinkState → LinkState) : (s.updLink l f).teq = s.teq := rfl
@[simp] theorem State.updLink_psq (s : State) (l : Link) (f : LinkState → LinkState) : (s.updLink l f).psq = s.psq := rfl
@[simp] theorem State.updLink_lsu (s : State) (l : Link) (f : LinkState → LinkState) : (s.updLink l f).lsu = s.lsu := rfl
@[simp] theorem State.updLink_slots (s : State) (l : Link) (f : LinkState → LinkState) : (s.updLink l f).slots = s.slots := rfl
@[simp] theorem State.updLink_cs (s : State) (l : Link) (f : LinkState → LinkState) : (s.updLink l f).cs = s.cs := rfl
@[simp] theorem State.updLink_bki (s : State) (l : Link) (f : LinkState → LinkState) : (s.updLink l f).bki = s.bki := rfl
@[simp] theorem State.updLink_icu (s : State) (l : Link) (f : LinkState → LinkState) : (s.updLink l f).icu = s.icu := rfl
@[simp] theorem State.updLink_csu (s : State) (l : Link) (f : LinkState → LinkState) : (s.updLink l f).csu = s.csu := rfl
@[simp] theorem State.updLink_fnu (s : State) (l : Link) (f : LinkState → LinkState) : (s.updLink l f).fnu = s.fnu := rfl
@[simp] theorem State.updLink_lif (s : State) (l : Link) (f : LinkState → LinkState) : (s.updLink l f).lif = { s.lif with link := s.lif.link.set l (f (s.lif.link.get l)) } := rfl

@[simp] theorem State.beginService_pending (s : State) (l : Link) : (s.beginService l).pending = s.pending := rfl
@[simp] theorem State.beginService_inReset (s : State) (l : Link) : (s.beginService l).inReset = s.inReset := rfl
@[simp] theorem State.beginService_pe (s : State) (l : Link) : (s.beginService l).pe = s.pe := rfl
@[simp] theorem State.beginService_teq (s : State) (l : Link) : (s.beginService l).teq = s.teq := rfl
@[simp] theorem State.beginService_psq (s : State) (l : Link) : (s.beginService l).psq = s.psq := rfl
@[simp] theorem State.beginService_lsu (s : State) (l : Link) : (s.beginService l).lsu = s.lsu := rfl
@[simp] theorem State.beginService_slots (s : State) (l : Link) : (s.beginService l).slots = s.slots := rfl
@[simp] theorem State.beginService_cs (s : State) (l : Link) : (s.beginService l).cs = s.cs := rfl
@[simp] theorem State.beginService_bki (s : State) (l : Link) : (s.beginService l).bki = s.bki := rfl
@[simp] theorem State.beginService_icu (s : State) (l : Link) : (s.beginService l).icu = s.icu := rfl
@[simp] theorem State.beginService_csu (s : State) (l : Link) : (s.beginService l).csu = s.csu := rfl
@[simp] theorem State.beginService_fnu (s : State) (l : Link) : (s.beginService l).fnu = s.fnu := rfl
@[simp] theorem State.beginService_lif (s : State) (l : Link) : (s.beginService l).lif = { s.lif with link := s.lif.link.set l { s.lif.link.get l with serving := true } } := rfl

@[simp] theorem State.setHolds_pending (s : State) (h : SeqHold) : (s.setHolds h).pending = s.pending := rfl
@[simp] theorem State.setHolds_inReset (s : State) (h : SeqHold) : (s.setHolds h).inReset = s.inReset := rfl
@[simp] theorem State.setHolds_pe (s : State) (h : SeqHold) : (s.setHolds h).pe = s.pe := rfl
@[simp] theorem State.setHolds_teq (s : State) (h : SeqHold) : (s.setHolds h).teq = s.teq := rfl
@[simp] theorem State.setHolds_psq (s : State) (h : SeqHold) : (s.setHolds h).psq = { s.psq with slotHold := h } := rfl
@[simp] theorem State.setHolds_lsu (s : State) (h : SeqHold) : (s.setHolds h).lsu = s.lsu := rfl
@[simp] theorem State.setHolds_slots (s : State) (h : SeqHold) : (s.setHolds h).slots = s.slots.map (Slot.setHold s.puCtx h) := rfl
@[simp] theorem State.setHolds_cs (s : State) (h : SeqHold) : (s.setHolds h).cs = s.cs := rfl
@[simp] theorem State.setHolds_bki (s : State) (h : SeqHold) : (s.setHolds h).bki = s.bki := rfl
@[simp] theorem State.setHolds_icu (s : State) (h : SeqHold) : (s.setHolds h).icu = s.icu := rfl
@[simp] theorem State.setHolds_csu (s : State) (h : SeqHold) : (s.setHolds h).csu = s.csu := rfl
@[simp] theorem State.setHolds_fnu (s : State) (h : SeqHold) : (s.setHolds h).fnu = s.fnu := rfl
@[simp] theorem State.setHolds_lif (s : State) (h : SeqHold) : (s.setHolds h).lif = s.lif := rfl

@[simp] theorem State.deliver_pending (s : State) (t : Target) : (s.deliver t).pending = s.pending := rfl
@[simp] theorem State.deliver_inReset (s : State) (t : Target) : (s.deliver t).inReset = s.inReset := rfl
@[simp] theorem State.deliver_pe (s : State) (t : Target) : (s.deliver t).pe = s.pe := rfl
@[simp] theorem State.deliver_teq (s : State) (t : Target) : (s.deliver t).teq = s.teq := rfl
@[simp] theorem State.deliver_psq (s : State) (t : Target) : (s.deliver t).psq = s.psq := rfl
@[simp] theorem State.deliver_lsu (s : State) (t : Target) : (s.deliver t).lsu = s.lsu := rfl
@[simp] theorem State.deliver_slots (s : State) (t : Target) : (s.deliver t).slots = .of (fun k => (s.slots.get k).deliver s.puCtx (t.slots.get k)) := rfl
@[simp] theorem State.deliver_cs (s : State) (t : Target) : (s.deliver t).cs = { s.cs with current := t } := rfl
@[simp] theorem State.deliver_bki (s : State) (t : Target) : (s.deliver t).bki = s.bki := rfl
@[simp] theorem State.deliver_icu (s : State) (t : Target) : (s.deliver t).icu = s.icu := rfl
@[simp] theorem State.deliver_csu (s : State) (t : Target) : (s.deliver t).csu = s.csu := rfl
@[simp] theorem State.deliver_fnu (s : State) (t : Target) : (s.deliver t).fnu = s.fnu := rfl
@[simp] theorem State.deliver_lif (s : State) (t : Target) : (s.deliver t).lif = s.lif := rfl

@[simp] theorem State.storeParam_pending (s : State) (i v : Nat) : (State.storeParam i v s).pending = s.pending := rfl
@[simp] theorem State.storeParam_inReset (s : State) (i v : Nat) : (State.storeParam i v s).inReset = s.inReset := rfl
@[simp] theorem State.storeParam_pe (s : State) (i v : Nat) : (State.storeParam i v s).pe = s.pe := rfl
@[simp] theorem State.storeParam_teq (s : State) (i v : Nat) : (State.storeParam i v s).teq = s.teq := rfl
@[simp] theorem State.storeParam_psq (s : State) (i v : Nat) : (State.storeParam i v s).psq = s.psq := rfl
@[simp] theorem State.storeParam_lsu (s : State) (i v : Nat) : (State.storeParam i v s).lsu = s.lsu := rfl
@[simp] theorem State.storeParam_slots (s : State) (i v : Nat) : (State.storeParam i v s).slots = s.slots := rfl
@[simp] theorem State.storeParam_cs (s : State) (i v : Nat) : (State.storeParam i v s).cs = s.cs := rfl
@[simp] theorem State.storeParam_bki (s : State) (i v : Nat) : (State.storeParam i v s).bki = s.bki := rfl
@[simp] theorem State.storeParam_icu (s : State) (i v : Nat) : (State.storeParam i v s).icu = s.icu := rfl
@[simp] theorem State.storeParam_csu (s : State) (i v : Nat) : (State.storeParam i v s).csu = s.csu := rfl
@[simp] theorem State.storeParam_fnu (s : State) (i v : Nat) : (State.storeParam i v s).fnu = s.fnu := rfl
@[simp] theorem State.storeParam_lif (s : State) (i v : Nat) : (State.storeParam i v s).lif = { s.lif with params := s.lif.params.set i v } := rfl

@[simp] theorem State.post_pending (s : State) (e : Entry) : (s.post e).pending = s.pending := rfl
@[simp] theorem State.post_inReset (s : State) (e : Entry) : (s.post e).inReset = s.inReset := rfl
@[simp] theorem State.post_pe (s : State) (e : Entry) : (s.post e).pe = s.pe := rfl
@[simp] theorem State.post_teq (s : State) (e : Entry) : (s.post e).teq = { s.teq with entries := placeEntry s.pe.e e s.teq.entries, posted := s.teq.posted + 1 } := rfl
@[simp] theorem State.post_psq (s : State) (e : Entry) : (s.post e).psq = s.psq := rfl
@[simp] theorem State.post_lsu (s : State) (e : Entry) : (s.post e).lsu = s.lsu := rfl
@[simp] theorem State.post_slots (s : State) (e : Entry) : (s.post e).slots = s.slots := rfl
@[simp] theorem State.post_cs (s : State) (e : Entry) : (s.post e).cs = s.cs := rfl
@[simp] theorem State.post_bki (s : State) (e : Entry) : (s.post e).bki = s.bki := rfl
@[simp] theorem State.post_icu (s : State) (e : Entry) : (s.post e).icu = s.icu := rfl
@[simp] theorem State.post_csu (s : State) (e : Entry) : (s.post e).csu = s.csu := rfl
@[simp] theorem State.post_fnu (s : State) (e : Entry) : (s.post e).fnu = s.fnu := rfl
@[simp] theorem State.post_lif (s : State) (e : Entry) : (s.post e).lif = s.lif := rfl

end Machine

end Sys2Proof
end

