-- ==== Sys2Proof/Laws/Frame.lean ====
section
/-! SUPPORT. Which parts of the state each named operation leaves as they are: one lemma for each operation and part,
for the proofs to cite instead of unfolding the operation. The hand-over leaves the queue, the reset, the Position Estimator
and the Link Interface as they are (`State.handOn_pe`, `State.handOn_lif`). -/

set_option Elab.async false

namespace Sys2Proof.Machine

@[simp] theorem State.raiseIf_pending (s : State) (c : Bool) (f : Flag) : (s.raiseIf c f).pending = s.pending := by
  simp only [State.raiseIf]
  split <;> simp
@[simp] theorem State.raiseIf_inReset (s : State) (c : Bool) (f : Flag) : (s.raiseIf c f).inReset = s.inReset := by
  simp only [State.raiseIf]
  split <;> simp
@[simp] theorem State.raiseIf_pe (s : State) (c : Bool) (f : Flag) : (s.raiseIf c f).pe = s.pe := by
  simp only [State.raiseIf]
  split <;> simp
@[simp] theorem State.raiseIf_teq (s : State) (c : Bool) (f : Flag) : (s.raiseIf c f).teq = s.teq := by
  simp only [State.raiseIf]
  split <;> simp
@[simp] theorem State.raiseIf_psq (s : State) (c : Bool) (f : Flag) : (s.raiseIf c f).psq = s.psq := by
  simp only [State.raiseIf]
  split <;> simp
@[simp] theorem State.raiseIf_lsu (s : State) (c : Bool) (f : Flag) : (s.raiseIf c f).lsu = s.lsu := by
  simp only [State.raiseIf]
  split <;> simp
@[simp] theorem State.raiseIf_slots (s : State) (c : Bool) (f : Flag) : (s.raiseIf c f).slots = s.slots := by
  simp only [State.raiseIf]
  split <;> simp
@[simp] theorem State.raiseIf_cs (s : State) (c : Bool) (f : Flag) : (s.raiseIf c f).cs = s.cs := by
  simp only [State.raiseIf]
  split <;> simp
@[simp] theorem State.raiseIf_bki (s : State) (c : Bool) (f : Flag) : (s.raiseIf c f).bki = s.bki := by
  simp only [State.raiseIf]
  split <;> simp
@[simp] theorem State.raiseIf_icu (s : State) (c : Bool) (f : Flag) : (s.raiseIf c f).icu = s.icu := by
  simp only [State.raiseIf]
  split <;> simp
@[simp] theorem State.raiseIf_csu (s : State) (c : Bool) (f : Flag) : (s.raiseIf c f).csu = s.csu := by
  simp only [State.raiseIf]
  split <;> simp
@[simp] theorem State.raiseIf_lif (s : State) (c : Bool) (f : Flag) : (s.raiseIf c f).lif = s.lif := by
  simp only [State.raiseIf]
  split <;> simp
@[simp] theorem State.raiseAll_pending (s : State) (fs : List Flag) : (s.raiseAll fs).pending = s.pending := by
  induction fs generalizing s with
  | nil => rfl
  | cons x xs ih => simp [State.raiseAll, ih]
@[simp] theorem State.raiseAll_inReset (s : State) (fs : List Flag) : (s.raiseAll fs).inReset = s.inReset := by
  induction fs generalizing s with
  | nil => rfl
  | cons x xs ih => simp [State.raiseAll, ih]
@[simp] theorem State.raiseAll_pe (s : State) (fs : List Flag) : (s.raiseAll fs).pe = s.pe := by
  induction fs generalizing s with
  | nil => rfl
  | cons x xs ih => simp [State.raiseAll, ih]
@[simp] theorem State.raiseAll_teq (s : State) (fs : List Flag) : (s.raiseAll fs).teq = s.teq := by
  induction fs generalizing s with
  | nil => rfl
  | cons x xs ih => simp [State.raiseAll, ih]
@[simp] theorem State.raiseAll_psq (s : State) (fs : List Flag) : (s.raiseAll fs).psq = s.psq := by
  induction fs generalizing s with
  | nil => rfl
  | cons x xs ih => simp [State.raiseAll, ih]
@[simp] theorem State.raiseAll_lsu (s : State) (fs : List Flag) : (s.raiseAll fs).lsu = s.lsu := by
  induction fs generalizing s with
  | nil => rfl
  | cons x xs ih => simp [State.raiseAll, ih]
@[simp] theorem State.raiseAll_slots (s : State) (fs : List Flag) : (s.raiseAll fs).slots = s.slots := by
  induction fs generalizing s with
  | nil => rfl
  | cons x xs ih => simp [State.raiseAll, ih]
@[simp] theorem State.raiseAll_cs (s : State) (fs : List Flag) : (s.raiseAll fs).cs = s.cs := by
  induction fs generalizing s with
  | nil => rfl
  | cons x xs ih => simp [State.raiseAll, ih]
@[simp] theorem State.raiseAll_bki (s : State) (fs : List Flag) : (s.raiseAll fs).bki = s.bki := by
  induction fs generalizing s with
  | nil => rfl
  | cons x xs ih => simp [State.raiseAll, ih]
@[simp] theorem State.raiseAll_icu (s : State) (fs : List Flag) : (s.raiseAll fs).icu = s.icu := by
  induction fs generalizing s with
  | nil => rfl
  | cons x xs ih => simp [State.raiseAll, ih]
@[simp] theorem State.raiseAll_csu (s : State) (fs : List Flag) : (s.raiseAll fs).csu = s.csu := by
  induction fs generalizing s with
  | nil => rfl
  | cons x xs ih => simp [State.raiseAll, ih]
@[simp] theorem State.raiseAll_lif (s : State) (fs : List Flag) : (s.raiseAll fs).lif = s.lif := by
  induction fs generalizing s with
  | nil => rfl
  | cons x xs ih => simp [State.raiseAll, ih]
@[simp] theorem State.troUpdate_pending (s : State) : (s.troUpdate).pending = s.pending := by simp [State.troUpdate]
@[simp] theorem State.troUpdate_inReset (s : State) : (s.troUpdate).inReset = s.inReset := by simp [State.troUpdate]
@[simp] theorem State.troUpdate_pe (s : State) : (s.troUpdate).pe = s.pe := by simp [State.troUpdate]
@[simp] theorem State.troUpdate_teq (s : State) : (s.troUpdate).teq = s.teq := by simp [State.troUpdate]
@[simp] theorem State.troUpdate_psq (s : State) : (s.troUpdate).psq = s.psq := by simp [State.troUpdate]
@[simp] theorem State.troUpdate_lsu (s : State) : (s.troUpdate).lsu = s.lsu := by simp [State.troUpdate]
@[simp] theorem State.troUpdate_slots (s : State) : (s.troUpdate).slots = s.slots := by simp [State.troUpdate]
@[simp] theorem State.troUpdate_cs (s : State) : (s.troUpdate).cs = s.cs := by simp [State.troUpdate]
@[simp] theorem State.troUpdate_bki (s : State) : (s.troUpdate).bki = s.bki := by simp [State.troUpdate]
@[simp] theorem State.troUpdate_icu (s : State) : (s.troUpdate).icu = s.icu := by simp [State.troUpdate]
@[simp] theorem State.troUpdate_lif (s : State) : (s.troUpdate).lif = s.lif := by simp [State.troUpdate]
@[simp] theorem State.holdSeq_pending (s : State) : (s.holdSeq).pending = s.pending := by simp [State.holdSeq]
@[simp] theorem State.holdSeq_inReset (s : State) : (s.holdSeq).inReset = s.inReset := by simp [State.holdSeq]
@[simp] theorem State.holdSeq_pe (s : State) : (s.holdSeq).pe = s.pe := by simp [State.holdSeq]
@[simp] theorem State.holdSeq_teq (s : State) : (s.holdSeq).teq = s.teq := by simp [State.holdSeq]
@[simp] theorem State.holdSeq_psq (s : State) : (s.holdSeq).psq = s.psq := by simp [State.holdSeq]
@[simp] theorem State.holdSeq_lsu (s : State) : (s.holdSeq).lsu = s.lsu := by simp [State.holdSeq]
@[simp] theorem State.holdSeq_slots (s : State) : (s.holdSeq).slots = s.slots := by simp [State.holdSeq]
@[simp] theorem State.holdSeq_cs (s : State) : (s.holdSeq).cs = s.cs := by simp [State.holdSeq]
@[simp] theorem State.holdSeq_bki (s : State) : (s.holdSeq).bki = s.bki := by simp [State.holdSeq]
@[simp] theorem State.holdSeq_icu (s : State) : (s.holdSeq).icu = s.icu := by simp [State.holdSeq]
@[simp] theorem State.holdSeq_lif (s : State) : (s.holdSeq).lif = s.lif := by simp [State.holdSeq]
@[simp] theorem State.releaseSeq_pending (s : State) : (s.releaseSeq).pending = s.pending := by simp [State.releaseSeq]
@[simp] theorem State.releaseSeq_inReset (s : State) : (s.releaseSeq).inReset = s.inReset := by simp [State.releaseSeq]
@[simp] theorem State.releaseSeq_pe (s : State) : (s.releaseSeq).pe = s.pe := by simp [State.releaseSeq]
@[simp] theorem State.releaseSeq_teq (s : State) : (s.releaseSeq).teq = s.teq := by simp [State.releaseSeq]
@[simp] theorem State.releaseSeq_psq (s : State) : (s.releaseSeq).psq = s.psq := by simp [State.releaseSeq]
@[simp] theorem State.releaseSeq_lsu (s : State) : (s.releaseSeq).lsu = s.lsu := by simp [State.releaseSeq]
@[simp] theorem State.releaseSeq_slots (s : State) : (s.releaseSeq).slots = s.slots := by simp [State.releaseSeq]
@[simp] theorem State.releaseSeq_cs (s : State) : (s.releaseSeq).cs = s.cs := by simp [State.releaseSeq]
@[simp] theorem State.releaseSeq_bki (s : State) : (s.releaseSeq).bki = s.bki := by simp [State.releaseSeq]
@[simp] theorem State.releaseSeq_icu (s : State) : (s.releaseSeq).icu = s.icu := by simp [State.releaseSeq]
@[simp] theorem State.releaseSeq_lif (s : State) : (s.releaseSeq).lif = s.lif := by simp [State.releaseSeq]
@[simp] theorem State.holdDemand_pending (s : State) : (s.holdDemand).pending = s.pending := by simp [State.holdDemand]
@[simp] theorem State.holdDemand_inReset (s : State) : (s.holdDemand).inReset = s.inReset := by simp [State.holdDemand]
@[simp] theorem State.holdDemand_pe (s : State) : (s.holdDemand).pe = s.pe := by simp [State.holdDemand]
@[simp] theorem State.holdDemand_teq (s : State) : (s.holdDemand).teq = s.teq := by simp [State.holdDemand]
@[simp] theorem State.holdDemand_psq (s : State) : (s.holdDemand).psq = s.psq := by simp [State.holdDemand]
@[simp] theorem State.holdDemand_lsu (s : State) : (s.holdDemand).lsu = s.lsu := by simp [State.holdDemand]
@[simp] theorem State.holdDemand_slots (s : State) : (s.holdDemand).slots = s.slots := by simp [State.holdDemand]
@[simp] theorem State.holdDemand_cs (s : State) : (s.holdDemand).cs = s.cs := by simp [State.holdDemand]
@[simp] theorem State.holdDemand_bki (s : State) : (s.holdDemand).bki = s.bki := by simp [State.holdDemand]
@[simp] theorem State.holdDemand_icu (s : State) : (s.holdDemand).icu = s.icu := by simp [State.holdDemand]
@[simp] theorem State.holdDemand_lif (s : State) : (s.holdDemand).lif = s.lif := by simp [State.holdDemand]
@[simp] theorem State.releaseDemand_pending (s : State) : (s.releaseDemand).pending = s.pending := by simp [State.releaseDemand]
@[simp] theorem State.releaseDemand_inReset (s : State) : (s.releaseDemand).inReset = s.inReset := by simp [State.releaseDemand]
@[simp] theorem State.releaseDemand_pe (s : State) : (s.releaseDemand).pe = s.pe := by simp [State.releaseDemand]
@[simp] theorem State.releaseDemand_teq (s : State) : (s.releaseDemand).teq = s.teq := by simp [State.releaseDemand]
@[simp] theorem State.releaseDemand_psq (s : State) : (s.releaseDemand).psq = s.psq := by simp [State.releaseDemand]
@[simp] theorem State.releaseDemand_lsu (s : State) : (s.releaseDemand).lsu = s.lsu := by simp [State.releaseDemand]
@[simp] theorem State.releaseDemand_slots (s : State) : (s.releaseDemand).slots = s.slots := by simp [State.releaseDemand]
@[simp] theorem State.releaseDemand_cs (s : State) : (s.releaseDemand).cs = s.cs := by simp [State.releaseDemand]
@[simp] theorem State.releaseDemand_bki (s : State) : (s.releaseDemand).bki = s.bki := by simp [State.releaseDemand]
@[simp] theorem State.releaseDemand_icu (s : State) : (s.releaseDemand).icu = s.icu := by simp [State.releaseDemand]
@[simp] theorem State.releaseDemand_lif (s : State) : (s.releaseDemand).lif = s.lif := by simp [State.releaseDemand]
@[simp] theorem State.overRise_pending (s : State) : (s.overRise).pending = s.pending := by simp [State.overRise]
@[simp] theorem State.overRise_inReset (s : State) : (s.overRise).inReset = s.inReset := by simp [State.overRise]
@[simp] theorem State.overRise_pe (s : State) : (s.overRise).pe = s.pe := by simp [State.overRise]
@[simp] theorem State.overRise_teq (s : State) : (s.overRise).teq = s.teq := by simp [State.overRise]
@[simp] theorem State.overRise_psq (s : State) : (s.overRise).psq = s.psq := by simp [State.overRise]
@[simp] theorem State.overRise_lsu (s : State) : (s.overRise).lsu = s.lsu := by simp [State.overRise]
@[simp] theorem State.overRise_slots (s : State) : (s.overRise).slots = s.slots := by simp [State.overRise]
@[simp] theorem State.overRise_cs (s : State) : (s.overRise).cs = s.cs := by simp [State.overRise]
@[simp] theorem State.overRise_bki (s : State) : (s.overRise).bki = s.bki := by simp [State.overRise]
@[simp] theorem State.overRise_icu (s : State) : (s.overRise).icu = s.icu := by simp [State.overRise]
@[simp] theorem State.overRise_fnu (s : State) : (s.overRise).fnu = s.fnu := by simp [State.overRise]
@[simp] theorem State.overRise_lif (s : State) : (s.overRise).lif = s.lif := by simp [State.overRise]
@[simp] theorem State.marksUpdate_pending (s : State) : (s.marksUpdate).pending = s.pending := by
  simp only [State.marksUpdate]
  (repeat' split) <;> simp
@[simp] theorem State.marksUpdate_inReset (s : State) : (s.marksUpdate).inReset = s.inReset := by
  simp only [State.marksUpdate]
  (repeat' split) <;> simp
@[simp] theorem State.marksUpdate_pe (s : State) : (s.marksUpdate).pe = s.pe := by
  simp only [State.marksUpdate]
  (repeat' split) <;> simp
@[simp] theorem State.marksUpdate_teq (s : State) : (s.marksUpdate).teq = s.teq := by
  simp only [State.marksUpdate]
  (repeat' split) <;> simp
@[simp] theorem State.marksUpdate_psq (s : State) : (s.marksUpdate).psq = s.psq := by
  simp only [State.marksUpdate]
  (repeat' split) <;> simp
@[simp] theorem State.marksUpdate_lsu (s : State) : (s.marksUpdate).lsu = s.lsu := by
  simp only [State.marksUpdate]
  (repeat' split) <;> simp
@[simp] theorem State.marksUpdate_slots (s : State) : (s.marksUpdate).slots = s.slots := by
  simp only [State.marksUpdate]
  (repeat' split) <;> simp
@[simp] theorem State.marksUpdate_cs (s : State) : (s.marksUpdate).cs = s.cs := by
  simp only [State.marksUpdate]
  (repeat' split) <;> simp
@[simp] theorem State.marksUpdate_bki (s : State) : (s.marksUpdate).bki = s.bki := by
  simp only [State.marksUpdate]
  (repeat' split) <;> simp
@[simp] theorem State.marksUpdate_icu (s : State) : (s.marksUpdate).icu = s.icu := by
  simp only [State.marksUpdate]
  (repeat' split) <;> simp
@[simp] theorem State.marksUpdate_lif (s : State) : (s.marksUpdate).lif = s.lif := by
  simp only [State.marksUpdate]
  (repeat' split) <;> simp
@[simp] theorem State.csuInputs_pending (s : State) : (s.csuInputs).pending = s.pending := by simp [State.csuInputs]
@[simp] theorem State.csuInputs_inReset (s : State) : (s.csuInputs).inReset = s.inReset := by simp [State.csuInputs]
@[simp] theorem State.csuInputs_pe (s : State) : (s.csuInputs).pe = s.pe := by simp [State.csuInputs]
@[simp] theorem State.csuInputs_teq (s : State) : (s.csuInputs).teq = s.teq := by simp [State.csuInputs]
@[simp] theorem State.csuInputs_psq (s : State) : (s.csuInputs).psq = s.psq := by simp [State.csuInputs]
@[simp] theorem State.csuInputs_lsu (s : State) : (s.csuInputs).lsu = s.lsu := by simp [State.csuInputs]
@[simp] theorem State.csuInputs_slots (s : State) : (s.csuInputs).slots = s.slots := by simp [State.csuInputs]
@[simp] theorem State.csuInputs_cs (s : State) : (s.csuInputs).cs = s.cs := by simp [State.csuInputs]
@[simp] theorem State.csuInputs_bki (s : State) : (s.csuInputs).bki = s.bki := by simp [State.csuInputs]
@[simp] theorem State.csuInputs_icu (s : State) : (s.csuInputs).icu = s.icu := by simp [State.csuInputs]
@[simp] theorem State.csuInputs_lif (s : State) : (s.csuInputs).lif = s.lif := by simp [State.csuInputs]
@[simp] theorem State.brkEnterOpen_pending (s : State) : (s.brkEnterOpen).pending = s.pending := by simp [State.brkEnterOpen]
@[simp] theorem State.brkEnterOpen_inReset (s : State) : (s.brkEnterOpen).inReset = s.inReset := by simp [State.brkEnterOpen]
@[simp] theorem State.brkEnterOpen_pe (s : State) : (s.brkEnterOpen).pe = s.pe := by simp [State.brkEnterOpen]
@[simp] theorem State.brkEnterOpen_teq (s : State) : (s.brkEnterOpen).teq = s.teq := by simp [State.brkEnterOpen]
@[simp] theorem State.brkEnterOpen_psq (s : State) : (s.brkEnterOpen).psq = s.psq := by simp [State.brkEnterOpen]
@[simp] theorem State.brkEnterOpen_lsu (s : State) : (s.brkEnterOpen).lsu = s.lsu := by simp [State.brkEnterOpen]
@[simp] theorem State.brkEnterOpen_slots (s : State) : (s.brkEnterOpen).slots = s.slots := by simp [State.brkEnterOpen]
@[simp] theorem State.brkEnterOpen_cs (s : State) : (s.brkEnterOpen).cs = s.cs := by simp [State.brkEnterOpen]
@[simp] theorem State.brkEnterOpen_icu (s : State) : (s.brkEnterOpen).icu = s.icu := by simp [State.brkEnterOpen]
@[simp] theorem State.brkEnterOpen_lif (s : State) : (s.brkEnterOpen).lif = s.lif := by simp [State.brkEnterOpen]
@[simp] theorem State.brkEnterOpening_pending (s : State) : (s.brkEnterOpening).pending = s.pending := by
  simp only [State.brkEnterOpening]
  split <;> simp
@[simp] theorem State.brkEnterOpening_inReset (s : State) : (s.brkEnterOpening).inReset = s.inReset := by
  simp only [State.brkEnterOpening]
  split <;> simp
@[simp] theorem State.brkEnterOpening_pe (s : State) : (s.brkEnterOpening).pe = s.pe := by
  simp only [State.brkEnterOpening]
  split <;> simp
@[simp] theorem State.brkEnterOpening_teq (s : State) : (s.brkEnterOpening).teq = s.teq := by
  simp only [State.brkEnterOpening]
  split <;> simp
@[simp] theorem State.brkEnterOpening_psq (s : State) : (s.brkEnterOpening).psq = s.psq := by
  simp only [State.brkEnterOpening]
  split <;> simp
@[simp] theorem State.brkEnterOpening_lsu (s : State) : (s.brkEnterOpening).lsu = s.lsu := by
  simp only [State.brkEnterOpening]
  split <;> simp
@[simp] theorem State.brkEnterOpening_slots (s : State) : (s.brkEnterOpening).slots = s.slots := by
  simp only [State.brkEnterOpening]
  split <;> simp
@[simp] theorem State.brkEnterOpening_cs (s : State) : (s.brkEnterOpening).cs = s.cs := by
  simp only [State.brkEnterOpening]
  split <;> simp
@[simp] theorem State.brkEnterOpening_icu (s : State) : (s.brkEnterOpening).icu = s.icu := by
  simp only [State.brkEnterOpening]
  split <;> simp
@[simp] theorem State.brkEnterOpening_lif (s : State) : (s.brkEnterOpening).lif = s.lif := by
  simp only [State.brkEnterOpening]
  split <;> simp
@[simp] theorem State.brkEnterClosing_pending (s : State) : (s.brkEnterClosing).pending = s.pending := by simp [State.brkEnterClosing]
@[simp] theorem State.brkEnterClosing_inReset (s : State) : (s.brkEnterClosing).inReset = s.inReset := by simp [State.brkEnterClosing]
@[simp] theorem State.brkEnterClosing_pe (s : State) : (s.brkEnterClosing).pe = s.pe := by simp [State.brkEnterClosing]
@[simp] theorem State.brkEnterClosing_teq (s : State) : (s.brkEnterClosing).teq = s.teq := by simp [State.brkEnterClosing]
@[simp] theorem State.brkEnterClosing_psq (s : State) : (s.brkEnterClosing).psq = s.psq := by simp [State.brkEnterClosing]
@[simp] theorem State.brkEnterClosing_lsu (s : State) : (s.brkEnterClosing).lsu = s.lsu := by simp [State.brkEnterClosing]
@[simp] theorem State.brkEnterClosing_slots (s : State) : (s.brkEnterClosing).slots = s.slots := by simp [State.brkEnterClosing]
@[simp] theorem State.brkEnterClosing_cs (s : State) : (s.brkEnterClosing).cs = s.cs := by simp [State.brkEnterClosing]
@[simp] theorem State.brkEnterClosing_icu (s : State) : (s.brkEnterClosing).icu = s.icu := by simp [State.brkEnterClosing]
@[simp] theorem State.brkEnterClosing_csu (s : State) : (s.brkEnterClosing).csu = s.csu := by simp [State.brkEnterClosing]
@[simp] theorem State.brkEnterClosing_fnu (s : State) : (s.brkEnterClosing).fnu = s.fnu := by simp [State.brkEnterClosing]
@[simp] theorem State.brkEnterClosing_lif (s : State) : (s.brkEnterClosing).lif = s.lif := by simp [State.brkEnterClosing]
@[simp] theorem State.latchBrkFault_pending (s : State) : (s.latchBrkFault).pending = s.pending := by simp [State.latchBrkFault]
@[simp] theorem State.latchBrkFault_inReset (s : State) : (s.latchBrkFault).inReset = s.inReset := by simp [State.latchBrkFault]
@[simp] theorem State.latchBrkFault_pe (s : State) : (s.latchBrkFault).pe = s.pe := by simp [State.latchBrkFault]
@[simp] theorem State.latchBrkFault_teq (s : State) : (s.latchBrkFault).teq = s.teq := by simp [State.latchBrkFault]
@[simp] theorem State.latchBrkFault_psq (s : State) : (s.latchBrkFault).psq = s.psq := by simp [State.latchBrkFault]
@[simp] theorem State.latchBrkFault_lsu (s : State) : (s.latchBrkFault).lsu = s.lsu := by simp [State.latchBrkFault]
@[simp] theorem State.latchBrkFault_slots (s : State) : (s.latchBrkFault).slots = s.slots := by simp [State.latchBrkFault]
@[simp] theorem State.latchBrkFault_cs (s : State) : (s.latchBrkFault).cs = s.cs := by simp [State.latchBrkFault]
@[simp] theorem State.latchBrkFault_icu (s : State) : (s.latchBrkFault).icu = s.icu := by simp [State.latchBrkFault]
@[simp] theorem State.latchBrkFault_csu (s : State) : (s.latchBrkFault).csu = s.csu := by simp [State.latchBrkFault]
@[simp] theorem State.latchBrkFault_lif (s : State) : (s.latchBrkFault).lif = s.lif := by simp [State.latchBrkFault]
@[simp] theorem State.brkEnterFailed_pending (s : State) (k : FailKind) : (s.brkEnterFailed k).pending = s.pending := by simp [State.brkEnterFailed]
@[simp] theorem State.brkEnterFailed_inReset (s : State) (k : FailKind) : (s.brkEnterFailed k).inReset = s.inReset := by simp [State.brkEnterFailed]
@[simp] theorem State.brkEnterFailed_pe (s : State) (k : FailKind) : (s.brkEnterFailed k).pe = s.pe := by simp [State.brkEnterFailed]
@[simp] theorem State.brkEnterFailed_teq (s : State) (k : FailKind) : (s.brkEnterFailed k).teq = s.teq := by simp [State.brkEnterFailed]
@[simp] theorem State.brkEnterFailed_psq (s : State) (k : FailKind) : (s.brkEnterFailed k).psq = s.psq := by simp [State.brkEnterFailed]
@[simp] theorem State.brkEnterFailed_lsu (s : State) (k : FailKind) : (s.brkEnterFailed k).lsu = s.lsu := by simp [State.brkEnterFailed]
@[simp] theorem State.brkEnterFailed_slots (s : State) (k : FailKind) : (s.brkEnterFailed k).slots = s.slots := by simp [State.brkEnterFailed]
@[simp] theorem State.brkEnterFailed_cs (s : State) (k : FailKind) : (s.brkEnterFailed k).cs = s.cs := by simp [State.brkEnterFailed]
@[simp] theorem State.brkEnterFailed_icu (s : State) (k : FailKind) : (s.brkEnterFailed k).icu = s.icu := by simp [State.brkEnterFailed]
@[simp] theorem State.brkEnterFailed_lif (s : State) (k : FailKind) : (s.brkEnterFailed k).lif = s.lif := by simp [State.brkEnterFailed]
@[simp] theorem State.openNow_pending (s : State) : (s.openNow).pending = s.pending := by
  simp only [State.openNow]
  split <;> simp
@[simp] theorem State.openNow_inReset (s : State) : (s.openNow).inReset = s.inReset := by
  simp only [State.openNow]
  split <;> simp
@[simp] theorem State.openNow_pe (s : State) : (s.openNow).pe = s.pe := by
  simp only [State.openNow]
  split <;> simp
@[simp] theorem State.openNow_teq (s : State) : (s.openNow).teq = s.teq := by
  simp only [State.openNow]
  split <;> simp
@[simp] theorem State.openNow_psq (s : State) : (s.openNow).psq = s.psq := by
  simp only [State.openNow]
  split <;> simp
@[simp] theorem State.openNow_lsu (s : State) : (s.openNow).lsu = s.lsu := by
  simp only [State.openNow]
  split <;> simp
@[simp] theorem State.openNow_slots (s : State) : (s.openNow).slots = s.slots := by
  simp only [State.openNow]
  split <;> simp
@[simp] theorem State.openNow_cs (s : State) : (s.openNow).cs = s.cs := by
  simp only [State.openNow]
  split <;> simp
@[simp] theorem State.openNow_icu (s : State) : (s.openNow).icu = s.icu := by
  simp only [State.openNow]
  split <;> simp
@[simp] theorem State.openNow_lif (s : State) : (s.openNow).lif = s.lif := by
  simp only [State.openNow]
  split <;> simp
@[simp] theorem State.openBySequencer_pending (s : State) : (s.openBySequencer).pending = s.pending := by
  simp only [State.openBySequencer]
  split <;> simp
@[simp] theorem State.openBySequencer_inReset (s : State) : (s.openBySequencer).inReset = s.inReset := by
  simp only [State.openBySequencer]
  split <;> simp
@[simp] theorem State.openBySequencer_pe (s : State) : (s.openBySequencer).pe = s.pe := by
  simp only [State.openBySequencer]
  split <;> simp
@[simp] theorem State.openBySequencer_teq (s : State) : (s.openBySequencer).teq = s.teq := by
  simp only [State.openBySequencer]
  split <;> simp
@[simp] theorem State.openBySequencer_psq (s : State) : (s.openBySequencer).psq = s.psq := by
  simp only [State.openBySequencer]
  split <;> simp
@[simp] theorem State.openBySequencer_lsu (s : State) : (s.openBySequencer).lsu = s.lsu := by
  simp only [State.openBySequencer]
  split <;> simp
@[simp] theorem State.openBySequencer_slots (s : State) : (s.openBySequencer).slots = s.slots := by
  simp only [State.openBySequencer]
  split <;> simp
@[simp] theorem State.openBySequencer_cs (s : State) : (s.openBySequencer).cs = s.cs := by
  simp only [State.openBySequencer]
  split <;> simp
@[simp] theorem State.openBySequencer_icu (s : State) : (s.openBySequencer).icu = s.icu := by
  simp only [State.openBySequencer]
  split <;> simp
@[simp] theorem State.openBySequencer_lif (s : State) : (s.openBySequencer).lif = s.lif := by
  simp only [State.openBySequencer]
  split <;> simp
@[simp] theorem State.rampEnd_pending (s : State) : (s.rampEnd).pending = s.pending := by
  simp only [State.rampEnd]
  split <;> simp
@[simp] theorem State.rampEnd_inReset (s : State) : (s.rampEnd).inReset = s.inReset := by
  simp only [State.rampEnd]
  split <;> simp
@[simp] theorem State.rampEnd_pe (s : State) : (s.rampEnd).pe = s.pe := by
  simp only [State.rampEnd]
  split <;> simp
@[simp] theorem State.rampEnd_teq (s : State) : (s.rampEnd).teq = s.teq := by
  simp only [State.rampEnd]
  split <;> simp
@[simp] theorem State.rampEnd_psq (s : State) : (s.rampEnd).psq = s.psq := by
  simp only [State.rampEnd]
  split <;> simp
@[simp] theorem State.rampEnd_lsu (s : State) : (s.rampEnd).lsu = s.lsu := by
  simp only [State.rampEnd]
  split <;> simp
@[simp] theorem State.rampEnd_slots (s : State) : (s.rampEnd).slots = s.slots := by
  simp only [State.rampEnd]
  split <;> simp
@[simp] theorem State.rampEnd_cs (s : State) : (s.rampEnd).cs = s.cs := by
  simp only [State.rampEnd]
  split <;> simp
@[simp] theorem State.rampEnd_icu (s : State) : (s.rampEnd).icu = s.icu := by
  simp only [State.rampEnd]
  split <;> simp
@[simp] theorem State.rampEnd_lif (s : State) : (s.rampEnd).lif = s.lif := by
  simp only [State.rampEnd]
  split <;> simp
@[simp] theorem State.rampReport_pending (s : State) : (s.rampReport).pending = s.pending := by
  simp only [State.rampReport]
  split <;> simp
@[simp] theorem State.rampReport_inReset (s : State) : (s.rampReport).inReset = s.inReset := by
  simp only [State.rampReport]
  split <;> simp
@[simp] theorem State.rampReport_pe (s : State) : (s.rampReport).pe = s.pe := by
  simp only [State.rampReport]
  split <;> simp
@[simp] theorem State.rampReport_teq (s : State) : (s.rampReport).teq = s.teq := by
  simp only [State.rampReport]
  split <;> simp
@[simp] theorem State.rampReport_psq (s : State) : (s.rampReport).psq = s.psq := by
  simp only [State.rampReport]
  split <;> simp
@[simp] theorem State.rampReport_lsu (s : State) : (s.rampReport).lsu = s.lsu := by
  simp only [State.rampReport]
  split <;> simp
@[simp] theorem State.rampReport_slots (s : State) : (s.rampReport).slots = s.slots := by
  simp only [State.rampReport]
  split <;> simp
@[simp] theorem State.rampReport_cs (s : State) : (s.rampReport).cs = s.cs := by
  simp only [State.rampReport]
  split <;> simp
@[simp] theorem State.rampReport_icu (s : State) : (s.rampReport).icu = s.icu := by
  simp only [State.rampReport]
  split <;> simp
@[simp] theorem State.rampReport_lif (s : State) : (s.rampReport).lif = s.lif := by
  simp only [State.rampReport]
  split <;> simp
@[simp] theorem State.rampStart_pending (s : State) : (s.rampStart).pending = s.pending := by
  simp only [State.rampStart]
  split <;> simp
@[simp] theorem State.rampStart_inReset (s : State) : (s.rampStart).inReset = s.inReset := by
  simp only [State.rampStart]
  split <;> simp
@[simp] theorem State.rampStart_pe (s : State) : (s.rampStart).pe = s.pe := by
  simp only [State.rampStart]
  split <;> simp
@[simp] theorem State.rampStart_teq (s : State) : (s.rampStart).teq = s.teq := by
  simp only [State.rampStart]
  split <;> simp
@[simp] theorem State.rampStart_psq (s : State) : (s.rampStart).psq = s.psq := by
  simp only [State.rampStart]
  split <;> simp
@[simp] theorem State.rampStart_lsu (s : State) : (s.rampStart).lsu = s.lsu := by
  simp only [State.rampStart]
  split <;> simp
@[simp] theorem State.rampStart_slots (s : State) : (s.rampStart).slots = s.slots := by
  simp only [State.rampStart]
  split <;> simp
@[simp] theorem State.rampStart_cs (s : State) : (s.rampStart).cs = s.cs := by
  simp only [State.rampStart]
  split <;> simp
@[simp] theorem State.rampStart_icu (s : State) : (s.rampStart).icu = s.icu := by
  simp only [State.rampStart]
  split <;> simp
@[simp] theorem State.rampStart_lif (s : State) : (s.rampStart).lif = s.lif := by
  simp only [State.rampStart]
  split <;> simp
@[simp] theorem State.rampAbandon_pending (s : State) : (s.rampAbandon).pending = s.pending := by
  simp only [State.rampAbandon]
  split <;> simp
@[simp] theorem State.rampAbandon_inReset (s : State) : (s.rampAbandon).inReset = s.inReset := by
  simp only [State.rampAbandon]
  split <;> simp
@[simp] theorem State.rampAbandon_pe (s : State) : (s.rampAbandon).pe = s.pe := by
  simp only [State.rampAbandon]
  split <;> simp
@[simp] theorem State.rampAbandon_teq (s : State) : (s.rampAbandon).teq = s.teq := by
  simp only [State.rampAbandon]
  split <;> simp
@[simp] theorem State.rampAbandon_psq (s : State) : (s.rampAbandon).psq = s.psq := by
  simp only [State.rampAbandon]
  split <;> simp
@[simp] theorem State.rampAbandon_lsu (s : State) : (s.rampAbandon).lsu = s.lsu := by
  simp only [State.rampAbandon]
  split <;> simp
@[simp] theorem State.rampAbandon_slots (s : State) : (s.rampAbandon).slots = s.slots := by
  simp only [State.rampAbandon]
  split <;> simp
@[simp] theorem State.rampAbandon_cs (s : State) : (s.rampAbandon).cs = s.cs := by
  simp only [State.rampAbandon]
  split <;> simp
@[simp] theorem State.rampAbandon_icu (s : State) : (s.rampAbandon).icu = s.icu := by
  simp only [State.rampAbandon]
  split <;> simp
@[simp] theorem State.rampAbandon_lif (s : State) : (s.rampAbandon).lif = s.lif := by
  simp only [State.rampAbandon]
  split <;> simp
@[simp] theorem State.powerWritten_pending (s : State) (b : Bool) : (s.powerWritten b).pending = s.pending := by
  simp only [State.powerWritten]
  (repeat' split) <;> simp
@[simp] theorem State.powerWritten_inReset (s : State) (b : Bool) : (s.powerWritten b).inReset = s.inReset := by
  simp only [State.powerWritten]
  (repeat' split) <;> simp
@[simp] theorem State.powerWritten_pe (s : State) (b : Bool) : (s.powerWritten b).pe = s.pe := by
  simp only [State.powerWritten]
  (repeat' split) <;> simp
@[simp] theorem State.powerWritten_teq (s : State) (b : Bool) : (s.powerWritten b).teq = s.teq := by
  simp only [State.powerWritten]
  (repeat' split) <;> simp
@[simp] theorem State.powerWritten_psq (s : State) (b : Bool) : (s.powerWritten b).psq = s.psq := by
  simp only [State.powerWritten]
  (repeat' split) <;> simp
@[simp] theorem State.powerWritten_lsu (s : State) (b : Bool) : (s.powerWritten b).lsu = s.lsu := by
  simp only [State.powerWritten]
  (repeat' split) <;> simp
@[simp] theorem State.powerWritten_slots (s : State) (b : Bool) : (s.powerWritten b).slots = s.slots := by
  simp only [State.powerWritten]
  (repeat' split) <;> simp
@[simp] theorem State.powerWritten_cs (s : State) (b : Bool) : (s.powerWritten b).cs = s.cs := by
  simp only [State.powerWritten]
  (repeat' split) <;> simp
@[simp] theorem State.powerWritten_icu (s : State) (b : Bool) : (s.powerWritten b).icu = s.icu := by
  simp only [State.powerWritten]
  (repeat' split) <;> simp
@[simp] theorem State.powerWritten_lif (s : State) (b : Bool) : (s.powerWritten b).lif = s.lif := by
  simp only [State.powerWritten]
  (repeat' split) <;> simp
@[simp] theorem State.expectedWritten_pending (s : State) (b : Option LineSystem) : (s.expectedWritten b).pending = s.pending := by
  simp only [State.expectedWritten]
  split <;> simp
@[simp] theorem State.expectedWritten_inReset (s : State) (b : Option LineSystem) : (s.expectedWritten b).inReset = s.inReset := by
  simp only [State.expectedWritten]
  split <;> simp
@[simp] theorem State.expectedWritten_pe (s : State) (b : Option LineSystem) : (s.expectedWritten b).pe = s.pe := by
  simp only [State.expectedWritten]
  split <;> simp
@[simp] theorem State.expectedWritten_teq (s : State) (b : Option LineSystem) : (s.expectedWritten b).teq = s.teq := by
  simp only [State.expectedWritten]
  split <;> simp
@[simp] theorem State.expectedWritten_psq (s : State) (b : Option LineSystem) : (s.expectedWritten b).psq = s.psq := by
  simp only [State.expectedWritten]
  split <;> simp
@[simp] theorem State.expectedWritten_slots (s : State) (b : Option LineSystem) : (s.expectedWritten b).slots = s.slots := by
  simp only [State.expectedWritten]
  split <;> simp
@[simp] theorem State.expectedWritten_cs (s : State) (b : Option LineSystem) : (s.expectedWritten b).cs = s.cs := by
  simp only [State.expectedWritten]
  split <;> simp
@[simp] theorem State.expectedWritten_bki (s : State) (b : Option LineSystem) : (s.expectedWritten b).bki = s.bki := by
  simp only [State.expectedWritten]
  split <;> simp
@[simp] theorem State.expectedWritten_icu (s : State) (b : Option LineSystem) : (s.expectedWritten b).icu = s.icu := by
  simp only [State.expectedWritten]
  split <;> simp
@[simp] theorem State.expectedWritten_csu (s : State) (b : Option LineSystem) : (s.expectedWritten b).csu = s.csu := by
  simp only [State.expectedWritten]
  split <;> simp
@[simp] theorem State.expectedWritten_fnu (s : State) (b : Option LineSystem) : (s.expectedWritten b).fnu = s.fnu := by
  simp only [State.expectedWritten]
  split <;> simp
@[simp] theorem State.expectedWritten_lif (s : State) (b : Option LineSystem) : (s.expectedWritten b).lif = s.lif := by
  simp only [State.expectedWritten]
  split <;> simp
@[simp] theorem State.writeDemand_pending (s : State) (d : Demand) : (s.writeDemand d).pending = s.pending := by simp [State.writeDemand]
@[simp] theorem State.writeDemand_inReset (s : State) (d : Demand) : (s.writeDemand d).inReset = s.inReset := by simp [State.writeDemand]
@[simp] theorem State.writeDemand_pe (s : State) (d : Demand) : (s.writeDemand d).pe = s.pe := by simp [State.writeDemand]
@[simp] theorem State.writeDemand_teq (s : State) (d : Demand) : (s.writeDemand d).teq = s.teq := by simp [State.writeDemand]
@[simp] theorem State.writeDemand_psq (s : State) (d : Demand) : (s.writeDemand d).psq = s.psq := by simp [State.writeDemand]
@[simp] theorem State.writeDemand_slots (s : State) (d : Demand) : (s.writeDemand d).slots = s.slots := by simp [State.writeDemand]
@[simp] theorem State.writeDemand_icu (s : State) (d : Demand) : (s.writeDemand d).icu = s.icu := by simp [State.writeDemand]
@[simp] theorem State.writeDemand_lif (s : State) (d : Demand) : (s.writeDemand d).lif = s.lif := by simp [State.writeDemand]
@[simp] theorem State.auxMade_pending (s : State) : (s.auxMade).pending = s.pending := by
  simp only [State.auxMade]
  split <;> simp
@[simp] theorem State.auxMade_inReset (s : State) : (s.auxMade).inReset = s.inReset := by
  simp only [State.auxMade]
  split <;> simp
@[simp] theorem State.auxMade_pe (s : State) : (s.auxMade).pe = s.pe := by
  simp only [State.auxMade]
  split <;> simp
@[simp] theorem State.auxMade_teq (s : State) : (s.auxMade).teq = s.teq := by
  simp only [State.auxMade]
  split <;> simp
@[simp] theorem State.auxMade_psq (s : State) : (s.auxMade).psq = s.psq := by
  simp only [State.auxMade]
  split <;> simp
@[simp] theorem State.auxMade_lsu (s : State) : (s.auxMade).lsu = s.lsu := by
  simp only [State.auxMade]
  split <;> simp
@[simp] theorem State.auxMade_slots (s : State) : (s.auxMade).slots = s.slots := by
  simp only [State.auxMade]
  split <;> simp
@[simp] theorem State.auxMade_cs (s : State) : (s.auxMade).cs = s.cs := by
  simp only [State.auxMade]
  split <;> simp
@[simp] theorem State.auxMade_icu (s : State) : (s.auxMade).icu = s.icu := by
  simp only [State.auxMade]
  split <;> simp
@[simp] theorem State.auxMade_lif (s : State) : (s.auxMade).lif = s.lif := by
  simp only [State.auxMade]
  split <;> simp
@[simp] theorem State.externalTrip_pending (s : State) : (s.externalTrip).pending = s.pending := by
  simp only [State.externalTrip]
  split <;> simp
@[simp] theorem State.externalTrip_inReset (s : State) : (s.externalTrip).inReset = s.inReset := by
  simp only [State.externalTrip]
  split <;> simp
@[simp] theorem State.externalTrip_pe (s : State) : (s.externalTrip).pe = s.pe := by
  simp only [State.externalTrip]
  split <;> simp
@[simp] theorem State.externalTrip_teq (s : State) : (s.externalTrip).teq = s.teq := by
  simp only [State.externalTrip]
  split <;> simp
@[simp] theorem State.externalTrip_psq (s : State) : (s.externalTrip).psq = s.psq := by
  simp only [State.externalTrip]
  split <;> simp
@[simp] theorem State.externalTrip_lsu (s : State) : (s.externalTrip).lsu = s.lsu := by
  simp only [State.externalTrip]
  split <;> simp
@[simp] theorem State.externalTrip_slots (s : State) : (s.externalTrip).slots = s.slots := by
  simp only [State.externalTrip]
  split <;> simp
@[simp] theorem State.externalTrip_cs (s : State) : (s.externalTrip).cs = s.cs := by
  simp only [State.externalTrip]
  split <;> simp
@[simp] theorem State.externalTrip_icu (s : State) : (s.externalTrip).icu = s.icu := by
  simp only [State.externalTrip]
  split <;> simp
@[simp] theorem State.externalTrip_lif (s : State) : (s.externalTrip).lif = s.lif := by
  simp only [State.externalTrip]
  split <;> simp
@[simp] theorem State.auxReleased_pending (s : State) : (s.auxReleased).pending = s.pending := by
  simp only [State.auxReleased]
  split <;> simp
@[simp] theorem State.auxReleased_inReset (s : State) : (s.auxReleased).inReset = s.inReset := by
  simp only [State.auxReleased]
  split <;> simp
@[simp] theorem State.auxReleased_pe (s : State) : (s.auxReleased).pe = s.pe := by
  simp only [State.auxReleased]
  split <;> simp
@[simp] theorem State.auxReleased_teq (s : State) : (s.auxReleased).teq = s.teq := by
  simp only [State.auxReleased]
  split <;> simp
@[simp] theorem State.auxReleased_psq (s : State) : (s.auxReleased).psq = s.psq := by
  simp only [State.auxReleased]
  split <;> simp
@[simp] theorem State.auxReleased_lsu (s : State) : (s.auxReleased).lsu = s.lsu := by
  simp only [State.auxReleased]
  split <;> simp
@[simp] theorem State.auxReleased_slots (s : State) : (s.auxReleased).slots = s.slots := by
  simp only [State.auxReleased]
  split <;> simp
@[simp] theorem State.auxReleased_cs (s : State) : (s.auxReleased).cs = s.cs := by
  simp only [State.auxReleased]
  split <;> simp
@[simp] theorem State.auxReleased_icu (s : State) : (s.auxReleased).icu = s.icu := by
  simp only [State.auxReleased]
  split <;> simp
@[simp] theorem State.auxReleased_lif (s : State) : (s.auxReleased).lif = s.lif := by
  simp only [State.auxReleased]
  split <;> simp
@[simp] theorem State.closeTimeout_pending (s : State) : (s.closeTimeout).pending = s.pending := by
  simp only [State.closeTimeout]
  split <;> simp
@[simp] theorem State.closeTimeout_inReset (s : State) : (s.closeTimeout).inReset = s.inReset := by
  simp only [State.closeTimeout]
  split <;> simp
@[simp] theorem State.closeTimeout_pe (s : State) : (s.closeTimeout).pe = s.pe := by
  simp only [State.closeTimeout]
  split <;> simp
@[simp] theorem State.closeTimeout_teq (s : State) : (s.closeTimeout).teq = s.teq := by
  simp only [State.closeTimeout]
  split <;> simp
@[simp] theorem State.closeTimeout_psq (s : State) : (s.closeTimeout).psq = s.psq := by
  simp only [State.closeTimeout]
  split <;> simp
@[simp] theorem State.closeTimeout_lsu (s : State) : (s.closeTimeout).lsu = s.lsu := by
  simp only [State.closeTimeout]
  split <;> simp
@[simp] theorem State.closeTimeout_slots (s : State) : (s.closeTimeout).slots = s.slots := by
  simp only [State.closeTimeout]
  split <;> simp
@[simp] theorem State.closeTimeout_cs (s : State) : (s.closeTimeout).cs = s.cs := by
  simp only [State.closeTimeout]
  split <;> simp
@[simp] theorem State.closeTimeout_icu (s : State) : (s.closeTimeout).icu = s.icu := by
  simp only [State.closeTimeout]
  split <;> simp
@[simp] theorem State.closeTimeout_lif (s : State) : (s.closeTimeout).lif = s.lif := by
  simp only [State.closeTimeout]
  split <;> simp
@[simp] theorem State.openTimeout_pending (s : State) : (s.openTimeout).pending = s.pending := by
  simp only [State.openTimeout]
  split <;> simp
@[simp] theorem State.openTimeout_inReset (s : State) : (s.openTimeout).inReset = s.inReset := by
  simp only [State.openTimeout]
  split <;> simp
@[simp] theorem State.openTimeout_pe (s : State) : (s.openTimeout).pe = s.pe := by
  simp only [State.openTimeout]
  split <;> simp
@[simp] theorem State.openTimeout_teq (s : State) : (s.openTimeout).teq = s.teq := by
  simp only [State.openTimeout]
  split <;> simp
@[simp] theorem State.openTimeout_psq (s : State) : (s.openTimeout).psq = s.psq := by
  simp only [State.openTimeout]
  split <;> simp
@[simp] theorem State.openTimeout_lsu (s : State) : (s.openTimeout).lsu = s.lsu := by
  simp only [State.openTimeout]
  split <;> simp
@[simp] theorem State.openTimeout_slots (s : State) : (s.openTimeout).slots = s.slots := by
  simp only [State.openTimeout]
  split <;> simp
@[simp] theorem State.openTimeout_cs (s : State) : (s.openTimeout).cs = s.cs := by
  simp only [State.openTimeout]
  split <;> simp
@[simp] theorem State.openTimeout_icu (s : State) : (s.openTimeout).icu = s.icu := by
  simp only [State.openTimeout]
  split <;> simp
@[simp] theorem State.openTimeout_lif (s : State) : (s.openTimeout).lif = s.lif := by
  simp only [State.openTimeout]
  split <;> simp
@[simp] theorem State.openCheckEnd_pending (s : State) : (s.openCheckEnd).pending = s.pending := by
  simp only [State.openCheckEnd]
  (repeat' split) <;> simp
@[simp] theorem State.openCheckEnd_inReset (s : State) : (s.openCheckEnd).inReset = s.inReset := by
  simp only [State.openCheckEnd]
  (repeat' split) <;> simp
@[simp] theorem State.openCheckEnd_pe (s : State) : (s.openCheckEnd).pe = s.pe := by
  simp only [State.openCheckEnd]
  (repeat' split) <;> simp
@[simp] theorem State.openCheckEnd_teq (s : State) : (s.openCheckEnd).teq = s.teq := by
  simp only [State.openCheckEnd]
  (repeat' split) <;> simp
@[simp] theorem State.openCheckEnd_psq (s : State) : (s.openCheckEnd).psq = s.psq := by
  simp only [State.openCheckEnd]
  (repeat' split) <;> simp
@[simp] theorem State.openCheckEnd_lsu (s : State) : (s.openCheckEnd).lsu = s.lsu := by
  simp only [State.openCheckEnd]
  (repeat' split) <;> simp
@[simp] theorem State.openCheckEnd_slots (s : State) : (s.openCheckEnd).slots = s.slots := by
  simp only [State.openCheckEnd]
  (repeat' split) <;> simp
@[simp] theorem State.openCheckEnd_cs (s : State) : (s.openCheckEnd).cs = s.cs := by
  simp only [State.openCheckEnd]
  (repeat' split) <;> simp
@[simp] theorem State.openCheckEnd_icu (s : State) : (s.openCheckEnd).icu = s.icu := by
  simp only [State.openCheckEnd]
  (repeat' split) <;> simp
@[simp] theorem State.openCheckEnd_lif (s : State) : (s.openCheckEnd).lif = s.lif := by
  simp only [State.openCheckEnd]
  (repeat' split) <;> simp
@[simp] theorem State.holdOrDeliver_pending (s : State) (t : Target) : (s.holdOrDeliver t).pending = s.pending := by
  simp only [State.holdOrDeliver]
  (repeat' split) <;> simp
@[simp] theorem State.holdOrDeliver_inReset (s : State) (t : Target) : (s.holdOrDeliver t).inReset = s.inReset := by
  simp only [State.holdOrDeliver]
  (repeat' split) <;> simp
@[simp] theorem State.holdOrDeliver_pe (s : State) (t : Target) : (s.holdOrDeliver t).pe = s.pe := by
  simp only [State.holdOrDeliver]
  (repeat' split) <;> simp
@[simp] theorem State.holdOrDeliver_teq (s : State) (t : Target) : (s.holdOrDeliver t).teq = s.teq := by
  simp only [State.holdOrDeliver]
  (repeat' split) <;> simp
@[simp] theorem State.holdOrDeliver_psq (s : State) (t : Target) : (s.holdOrDeliver t).psq = s.psq := by
  simp only [State.holdOrDeliver]
  (repeat' split) <;> simp
@[simp] theorem State.holdOrDeliver_lsu (s : State) (t : Target) : (s.holdOrDeliver t).lsu = s.lsu := by
  simp only [State.holdOrDeliver]
  (repeat' split) <;> simp
@[simp] theorem State.holdOrDeliver_bki (s : State) (t : Target) : (s.holdOrDeliver t).bki = s.bki := by
  simp only [State.holdOrDeliver]
  (repeat' split) <;> simp
@[simp] theorem State.holdOrDeliver_icu (s : State) (t : Target) : (s.holdOrDeliver t).icu = s.icu := by
  simp only [State.holdOrDeliver]
  (repeat' split) <;> simp
@[simp] theorem State.holdOrDeliver_csu (s : State) (t : Target) : (s.holdOrDeliver t).csu = s.csu := by
  simp only [State.holdOrDeliver]
  (repeat' split) <;> simp
@[simp] theorem State.holdOrDeliver_fnu (s : State) (t : Target) : (s.holdOrDeliver t).fnu = s.fnu := by
  simp only [State.holdOrDeliver]
  (repeat' split) <;> simp
@[simp] theorem State.holdOrDeliver_lif (s : State) (t : Target) : (s.holdOrDeliver t).lif = s.lif := by
  simp only [State.holdOrDeliver]
  (repeat' split) <;> simp
@[simp] theorem State.evaluate_pending (s : State) : (s.evaluate).pending = s.pending := by simp [State.evaluate]
@[simp] theorem State.evaluate_inReset (s : State) : (s.evaluate).inReset = s.inReset := by simp [State.evaluate]
@[simp] theorem State.evaluate_pe (s : State) : (s.evaluate).pe = s.pe := by simp [State.evaluate]
@[simp] theorem State.evaluate_teq (s : State) : (s.evaluate).teq = s.teq := by simp [State.evaluate]
@[simp] theorem State.evaluate_psq (s : State) : (s.evaluate).psq = s.psq := by simp [State.evaluate]
@[simp] theorem State.evaluate_lsu (s : State) : (s.evaluate).lsu = s.lsu := by simp [State.evaluate]
@[simp] theorem State.evaluate_bki (s : State) : (s.evaluate).bki = s.bki := by simp [State.evaluate]
@[simp] theorem State.evaluate_icu (s : State) : (s.evaluate).icu = s.icu := by simp [State.evaluate]
@[simp] theorem State.evaluate_csu (s : State) : (s.evaluate).csu = s.csu := by simp [State.evaluate]
@[simp] theorem State.evaluate_lif (s : State) : (s.evaluate).lif = s.lif := by simp [State.evaluate]
@[simp] theorem State.csReact_pending (s : State) : (s.csReact).pending = s.pending := by
  simp only [State.csReact]
  split <;> simp
@[simp] theorem State.csReact_inReset (s : State) : (s.csReact).inReset = s.inReset := by
  simp only [State.csReact]
  split <;> simp
@[simp] theorem State.csReact_pe (s : State) : (s.csReact).pe = s.pe := by
  simp only [State.csReact]
  split <;> simp
@[simp] theorem State.csReact_teq (s : State) : (s.csReact).teq = s.teq := by
  simp only [State.csReact]
  split <;> simp
@[simp] theorem State.csReact_psq (s : State) : (s.csReact).psq = s.psq := by
  simp only [State.csReact]
  split <;> simp
@[simp] theorem State.csReact_lsu (s : State) : (s.csReact).lsu = s.lsu := by
  simp only [State.csReact]
  split <;> simp
@[simp] theorem State.csReact_bki (s : State) : (s.csReact).bki = s.bki := by
  simp only [State.csReact]
  split <;> simp
@[simp] theorem State.csReact_icu (s : State) : (s.csReact).icu = s.icu := by
  simp only [State.csReact]
  split <;> simp
@[simp] theorem State.csReact_csu (s : State) : (s.csReact).csu = s.csu := by
  simp only [State.csReact]
  split <;> simp
@[simp] theorem State.csReact_lif (s : State) : (s.csReact).lif = s.lif := by
  simp only [State.csReact]
  split <;> simp
@[simp] theorem State.deliverPending_pending (s : State) : (s.deliverPending).pending = s.pending := by
  simp only [State.deliverPending]
  (repeat' split) <;> simp
@[simp] theorem State.deliverPending_inReset (s : State) : (s.deliverPending).inReset = s.inReset := by
  simp only [State.deliverPending]
  (repeat' split) <;> simp
@[simp] theorem State.deliverPending_pe (s : State) : (s.deliverPending).pe = s.pe := by
  simp only [State.deliverPending]
  (repeat' split) <;> simp
@[simp] theorem State.deliverPending_teq (s : State) : (s.deliverPending).teq = s.teq := by
  simp only [State.deliverPending]
  (repeat' split) <;> simp
@[simp] theorem State.deliverPending_psq (s : State) : (s.deliverPending).psq = s.psq := by
  simp only [State.deliverPending]
  (repeat' split) <;> simp
@[simp] theorem State.deliverPending_lsu (s : State) : (s.deliverPending).lsu = s.lsu := by
  simp only [State.deliverPending]
  (repeat' split) <;> simp
@[simp] theorem State.deliverPending_bki (s : State) : (s.deliverPending).bki = s.bki := by
  simp only [State.deliverPending]
  (repeat' split) <;> simp
@[simp] theorem State.deliverPending_icu (s : State) : (s.deliverPending).icu = s.icu := by
  simp only [State.deliverPending]
  (repeat' split) <;> simp
@[simp] theorem State.deliverPending_csu (s : State) : (s.deliverPending).csu = s.csu := by
  simp only [State.deliverPending]
  (repeat' split) <;> simp
@[simp] theorem State.deliverPending_fnu (s : State) : (s.deliverPending).fnu = s.fnu := by
  simp only [State.deliverPending]
  (repeat' split) <;> simp
@[simp] theorem State.deliverPending_lif (s : State) : (s.deliverPending).lif = s.lif := by
  simp only [State.deliverPending]
  (repeat' split) <;> simp
@[simp] theorem State.csHoldOn_pending (s : State) : (s.csHoldOn).pending = s.pending := by simp [State.csHoldOn]
@[simp] theorem State.csHoldOn_inReset (s : State) : (s.csHoldOn).inReset = s.inReset := by simp [State.csHoldOn]
@[simp] theorem State.csHoldOn_pe (s : State) : (s.csHoldOn).pe = s.pe := by simp [State.csHoldOn]
@[simp] theorem State.csHoldOn_teq (s : State) : (s.csHoldOn).teq = s.teq := by simp [State.csHoldOn]
@[simp] theorem State.csHoldOn_psq (s : State) : (s.csHoldOn).psq = s.psq := by simp [State.csHoldOn]
@[simp] theorem State.csHoldOn_lsu (s : State) : (s.csHoldOn).lsu = s.lsu := by simp [State.csHoldOn]
@[simp] theorem State.csHoldOn_slots (s : State) : (s.csHoldOn).slots = s.slots := by simp [State.csHoldOn]
@[simp] theorem State.csHoldOn_bki (s : State) : (s.csHoldOn).bki = s.bki := by simp [State.csHoldOn]
@[simp] theorem State.csHoldOn_icu (s : State) : (s.csHoldOn).icu = s.icu := by simp [State.csHoldOn]
@[simp] theorem State.csHoldOn_csu (s : State) : (s.csHoldOn).csu = s.csu := by simp [State.csHoldOn]
@[simp] theorem State.csHoldOn_fnu (s : State) : (s.csHoldOn).fnu = s.fnu := by simp [State.csHoldOn]
@[simp] theorem State.csHoldOn_lif (s : State) : (s.csHoldOn).lif = s.lif := by simp [State.csHoldOn]
@[simp] theorem State.csHoldOff_pending (s : State) : (s.csHoldOff).pending = s.pending := by
  simp only [State.csHoldOff]
  (repeat' split) <;> simp
@[simp] theorem State.csHoldOff_inReset (s : State) : (s.csHoldOff).inReset = s.inReset := by
  simp only [State.csHoldOff]
  (repeat' split) <;> simp
@[simp] theorem State.csHoldOff_pe (s : State) : (s.csHoldOff).pe = s.pe := by
  simp only [State.csHoldOff]
  (repeat' split) <;> simp
@[simp] theorem State.csHoldOff_teq (s : State) : (s.csHoldOff).teq = s.teq := by
  simp only [State.csHoldOff]
  (repeat' split) <;> simp
@[simp] theorem State.csHoldOff_psq (s : State) : (s.csHoldOff).psq = s.psq := by
  simp only [State.csHoldOff]
  (repeat' split) <;> simp
@[simp] theorem State.csHoldOff_lsu (s : State) : (s.csHoldOff).lsu = s.lsu := by
  simp only [State.csHoldOff]
  (repeat' split) <;> simp
@[simp] theorem State.csHoldOff_bki (s : State) : (s.csHoldOff).bki = s.bki := by
  simp only [State.csHoldOff]
  (repeat' split) <;> simp
@[simp] theorem State.csHoldOff_icu (s : State) : (s.csHoldOff).icu = s.icu := by
  simp only [State.csHoldOff]
  (repeat' split) <;> simp
@[simp] theorem State.csHoldOff_csu (s : State) : (s.csHoldOff).csu = s.csu := by
  simp only [State.csHoldOff]
  (repeat' split) <;> simp
@[simp] theorem State.csHoldOff_fnu (s : State) : (s.csHoldOff).fnu = s.fnu := by
  simp only [State.csHoldOff]
  (repeat' split) <;> simp
@[simp] theorem State.csHoldOff_lif (s : State) : (s.csHoldOff).lif = s.lif := by
  simp only [State.csHoldOff]
  (repeat' split) <;> simp
@[simp] theorem State.csRelease_pending (s : State) (n : Option LineSystem) : (s.csRelease n).pending = s.pending := by
  simp only [State.csRelease]
  split <;> simp
@[simp] theorem State.csRelease_inReset (s : State) (n : Option LineSystem) : (s.csRelease n).inReset = s.inReset := by
  simp only [State.csRelease]
  split <;> simp
@[simp] theorem State.csRelease_pe (s : State) (n : Option LineSystem) : (s.csRelease n).pe = s.pe := by
  simp only [State.csRelease]
  split <;> simp
@[simp] theorem State.csRelease_teq (s : State) (n : Option LineSystem) : (s.csRelease n).teq = s.teq := by
  simp only [State.csRelease]
  split <;> simp
@[simp] theorem State.csRelease_psq (s : State) (n : Option LineSystem) : (s.csRelease n).psq = s.psq := by
  simp only [State.csRelease]
  split <;> simp
@[simp] theorem State.csRelease_icu (s : State) (n : Option LineSystem) : (s.csRelease n).icu = s.icu := by
  simp only [State.csRelease]
  split <;> simp
@[simp] theorem State.csRelease_lif (s : State) (n : Option LineSystem) : (s.csRelease n).lif = s.lif := by
  simp only [State.csRelease]
  split <;> simp
@[simp] theorem State.recordClose_pending (s : State) (e : Entry) (r : CloseResult) (o : Option Step) : (s.recordClose e r o).pending = s.pending := by simp [State.recordClose]
@[simp] theorem State.recordClose_inReset (s : State) (e : Entry) (r : CloseResult) (o : Option Step) : (s.recordClose e r o).inReset = s.inReset := by simp [State.recordClose]
@[simp] theorem State.recordClose_pe (s : State) (e : Entry) (r : CloseResult) (o : Option Step) : (s.recordClose e r o).pe = s.pe := by simp [State.recordClose]
@[simp] theorem State.recordClose_psq (s : State) (e : Entry) (r : CloseResult) (o : Option Step) : (s.recordClose e r o).psq = s.psq := by simp [State.recordClose]
@[simp] theorem State.recordClose_lsu (s : State) (e : Entry) (r : CloseResult) (o : Option Step) : (s.recordClose e r o).lsu = s.lsu := by simp [State.recordClose]
@[simp] theorem State.recordClose_slots (s : State) (e : Entry) (r : CloseResult) (o : Option Step) : (s.recordClose e r o).slots = s.slots := by simp [State.recordClose]
@[simp] theorem State.recordClose_cs (s : State) (e : Entry) (r : CloseResult) (o : Option Step) : (s.recordClose e r o).cs = s.cs := by simp [State.recordClose]
@[simp] theorem State.recordClose_bki (s : State) (e : Entry) (r : CloseResult) (o : Option Step) : (s.recordClose e r o).bki = s.bki := by simp [State.recordClose]
@[simp] theorem State.recordClose_icu (s : State) (e : Entry) (r : CloseResult) (o : Option Step) : (s.recordClose e r o).icu = s.icu := by simp [State.recordClose]
@[simp] theorem State.recordClose_csu (s : State) (e : Entry) (r : CloseResult) (o : Option Step) : (s.recordClose e r o).csu = s.csu := by simp [State.recordClose]
@[simp] theorem State.recordClose_lif (s : State) (e : Entry) (r : CloseResult) (o : Option Step) : (s.recordClose e r o).lif = s.lif := by simp [State.recordClose]
@[simp] theorem State.releaseHolds_pending (s : State) : (s.releaseHolds).pending = s.pending := rfl
@[simp] theorem State.releaseHolds_inReset (s : State) : (s.releaseHolds).inReset = s.inReset := rfl
@[simp] theorem State.releaseHolds_pe (s : State) : (s.releaseHolds).pe = s.pe := rfl
@[simp] theorem State.releaseHolds_teq (s : State) : (s.releaseHolds).teq = s.teq := rfl
@[simp] theorem State.releaseHolds_lsu (s : State) : (s.releaseHolds).lsu = s.lsu := rfl
@[simp] theorem State.releaseHolds_cs (s : State) : (s.releaseHolds).cs = s.cs := rfl
@[simp] theorem State.releaseHolds_bki (s : State) : (s.releaseHolds).bki = s.bki := rfl
@[simp] theorem State.releaseHolds_icu (s : State) : (s.releaseHolds).icu = s.icu := rfl
@[simp] theorem State.releaseHolds_csu (s : State) : (s.releaseHolds).csu = s.csu := rfl
@[simp] theorem State.releaseHolds_fnu (s : State) : (s.releaseHolds).fnu = s.fnu := rfl
@[simp] theorem State.releaseHolds_lif (s : State) : (s.releaseHolds).lif = s.lif := rfl
@[simp] theorem State.planClosed_pending (s : State) : (s.planClosed).pending = s.pending := by
  simp only [State.planClosed]
  (repeat' split) <;> simp
@[simp] theorem State.planClosed_inReset (s : State) : (s.planClosed).inReset = s.inReset := by
  simp only [State.planClosed]
  (repeat' split) <;> simp
@[simp] theorem State.planClosed_pe (s : State) : (s.planClosed).pe = s.pe := by
  simp only [State.planClosed]
  (repeat' split) <;> simp
@[simp] theorem State.planClosed_teq (s : State) : (s.planClosed).teq = s.teq := by
  simp only [State.planClosed]
  (repeat' split) <;> simp
@[simp] theorem State.planClosed_lsu (s : State) : (s.planClosed).lsu = s.lsu := by
  simp only [State.planClosed]
  (repeat' split) <;> simp
@[simp] theorem State.planClosed_cs (s : State) : (s.planClosed).cs = s.cs := by
  simp only [State.planClosed]
  (repeat' split) <;> simp
@[simp] theorem State.planClosed_bki (s : State) : (s.planClosed).bki = s.bki := by
  simp only [State.planClosed]
  (repeat' split) <;> simp
@[simp] theorem State.planClosed_icu (s : State) : (s.planClosed).icu = s.icu := by
  simp only [State.planClosed]
  (repeat' split) <;> simp
@[simp] theorem State.planClosed_lif (s : State) : (s.planClosed).lif = s.lif := by
  simp only [State.planClosed]
  (repeat' split) <;> simp
@[simp] theorem State.closeEntry_pending (s : State) (e : Entry) (r : CloseResult) (o : Option Step) : (s.closeEntry e r o).pending = s.pending := by
  simp only [State.closeEntry]
  (repeat' split) <;> simp
@[simp] theorem State.closeEntry_inReset (s : State) (e : Entry) (r : CloseResult) (o : Option Step) : (s.closeEntry e r o).inReset = s.inReset := by
  simp only [State.closeEntry]
  (repeat' split) <;> simp
@[simp] theorem State.closeEntry_pe (s : State) (e : Entry) (r : CloseResult) (o : Option Step) : (s.closeEntry e r o).pe = s.pe := by
  simp only [State.closeEntry]
  (repeat' split) <;> simp
@[simp] theorem State.closeEntry_lsu (s : State) (e : Entry) (r : CloseResult) (o : Option Step) : (s.closeEntry e r o).lsu = s.lsu := by
  simp only [State.closeEntry]
  (repeat' split) <;> simp
@[simp] theorem State.closeEntry_bki (s : State) (e : Entry) (r : CloseResult) (o : Option Step) : (s.closeEntry e r o).bki = s.bki := by
  simp only [State.closeEntry]
  (repeat' split) <;> simp
@[simp] theorem State.closeEntry_icu (s : State) (e : Entry) (r : CloseResult) (o : Option Step) : (s.closeEntry e r o).icu = s.icu := by
  simp only [State.closeEntry]
  (repeat' split) <;> simp
@[simp] theorem State.closeEntry_lif (s : State) (e : Entry) (r : CloseResult) (o : Option Step) : (s.closeEntry e r o).lif = s.lif := by
  simp only [State.closeEntry]
  (repeat' split) <;> simp
@[simp] theorem State.skipPassed_pending (s : State) (e : Entry) : (s.skipPassed e).pending = s.pending := by
  simp only [State.skipPassed]
  split <;> simp
@[simp] theorem State.skipPassed_inReset (s : State) (e : Entry) : (s.skipPassed e).inReset = s.inReset := by
  simp only [State.skipPassed]
  split <;> simp
@[simp] theorem State.skipPassed_pe (s : State) (e : Entry) : (s.skipPassed e).pe = s.pe := by
  simp only [State.skipPassed]
  split <;> simp
@[simp] theorem State.skipPassed_lsu (s : State) (e : Entry) : (s.skipPassed e).lsu = s.lsu := by
  simp only [State.skipPassed]
  split <;> simp
@[simp] theorem State.skipPassed_bki (s : State) (e : Entry) : (s.skipPassed e).bki = s.bki := by
  simp only [State.skipPassed]
  split <;> simp
@[simp] theorem State.skipPassed_icu (s : State) (e : Entry) : (s.skipPassed e).icu = s.icu := by
  simp only [State.skipPassed]
  split <;> simp
@[simp] theorem State.skipPassed_lif (s : State) (e : Entry) : (s.skipPassed e).lif = s.lif := by
  simp only [State.skipPassed]
  split <;> simp
@[simp] theorem State.skipAll_pending (s : State) : (s.skipAll).pending = s.pending := by
  have h : ∀ (es : List Entry) (s : State), (es.foldl State.skipPassed s).pending = s.pending := by
    intro es
    induction es with
    | nil => intro s; rfl
    | cons x xs ih => intro s; simp [ih]
  simp [State.skipAll, h]
@[simp] theorem State.skipAll_inReset (s : State) : (s.skipAll).inReset = s.inReset := by
  have h : ∀ (es : List Entry) (s : State), (es.foldl State.skipPassed s).inReset = s.inReset := by
    intro es
    induction es with
    | nil => intro s; rfl
    | cons x xs ih => intro s; simp [ih]
  simp [State.skipAll, h]
@[simp] theorem State.skipAll_pe (s : State) : (s.skipAll).pe = s.pe := by
  have h : ∀ (es : List Entry) (s : State), (es.foldl State.skipPassed s).pe = s.pe := by
    intro es
    induction es with
    | nil => intro s; rfl
    | cons x xs ih => intro s; simp [ih]
  simp [State.skipAll, h]
@[simp] theorem State.skipAll_lsu (s : State) : (s.skipAll).lsu = s.lsu := by
  have h : ∀ (es : List Entry) (s : State), (es.foldl State.skipPassed s).lsu = s.lsu := by
    intro es
    induction es with
    | nil => intro s; rfl
    | cons x xs ih => intro s; simp [ih]
  simp [State.skipAll, h]
@[simp] theorem State.skipAll_bki (s : State) : (s.skipAll).bki = s.bki := by
  have h : ∀ (es : List Entry) (s : State), (es.foldl State.skipPassed s).bki = s.bki := by
    intro es
    induction es with
    | nil => intro s; rfl
    | cons x xs ih => intro s; simp [ih]
  simp [State.skipAll, h]
@[simp] theorem State.skipAll_icu (s : State) : (s.skipAll).icu = s.icu := by
  have h : ∀ (es : List Entry) (s : State), (es.foldl State.skipPassed s).icu = s.icu := by
    intro es
    induction es with
    | nil => intro s; rfl
    | cons x xs ih => intro s; simp [ih]
  simp [State.skipAll, h]
@[simp] theorem State.skipAll_lif (s : State) : (s.skipAll).lif = s.lif := by
  have h : ∀ (es : List Entry) (s : State), (es.foldl State.skipPassed s).lif = s.lif := by
    intro es
    induction es with
    | nil => intro s; rfl
    | cons x xs ih => intro s; simp [ih]
  simp [State.skipAll, h]
@[simp] theorem State.zoneTest_pending (s : State) (e : Entry) : (s.zoneTest e).pending = s.pending := by
  simp only [State.zoneTest]
  (repeat' split) <;> simp
@[simp] theorem State.zoneTest_inReset (s : State) (e : Entry) : (s.zoneTest e).inReset = s.inReset := by
  simp only [State.zoneTest]
  (repeat' split) <;> simp
@[simp] theorem State.zoneTest_pe (s : State) (e : Entry) : (s.zoneTest e).pe = s.pe := by
  simp only [State.zoneTest]
  (repeat' split) <;> simp
@[simp] theorem State.zoneTest_lsu (s : State) (e : Entry) : (s.zoneTest e).lsu = s.lsu := by
  simp only [State.zoneTest]
  (repeat' split) <;> simp
@[simp] theorem State.zoneTest_bki (s : State) (e : Entry) : (s.zoneTest e).bki = s.bki := by
  simp only [State.zoneTest]
  (repeat' split) <;> simp
@[simp] theorem State.zoneTest_icu (s : State) (e : Entry) : (s.zoneTest e).icu = s.icu := by
  simp only [State.zoneTest]
  (repeat' split) <;> simp
@[simp] theorem State.zoneTest_lif (s : State) (e : Entry) : (s.zoneTest e).lif = s.lif := by
  simp only [State.zoneTest]
  (repeat' split) <;> simp
@[simp] theorem State.zonesAll_pending (s : State) : (s.zonesAll).pending = s.pending := by
  have h : ∀ (es : List Entry) (s : State), (es.foldl State.zoneTest s).pending = s.pending := by
    intro es
    induction es with
    | nil => intro s; rfl
    | cons x xs ih => intro s; simp [ih]
  simp [State.zonesAll, h]
@[simp] theorem State.zonesAll_inReset (s : State) : (s.zonesAll).inReset = s.inReset := by
  have h : ∀ (es : List Entry) (s : State), (es.foldl State.zoneTest s).inReset = s.inReset := by
    intro es
    induction es with
    | nil => intro s; rfl
    | cons x xs ih => intro s; simp [ih]
  simp [State.zonesAll, h]
@[simp] theorem State.zonesAll_pe (s : State) : (s.zonesAll).pe = s.pe := by
  have h : ∀ (es : List Entry) (s : State), (es.foldl State.zoneTest s).pe = s.pe := by
    intro es
    induction es with
    | nil => intro s; rfl
    | cons x xs ih => intro s; simp [ih]
  simp [State.zonesAll, h]
@[simp] theorem State.zonesAll_lsu (s : State) : (s.zonesAll).lsu = s.lsu := by
  have h : ∀ (es : List Entry) (s : State), (es.foldl State.zoneTest s).lsu = s.lsu := by
    intro es
    induction es with
    | nil => intro s; rfl
    | cons x xs ih => intro s; simp [ih]
  simp [State.zonesAll, h]
@[simp] theorem State.zonesAll_bki (s : State) : (s.zonesAll).bki = s.bki := by
  have h : ∀ (es : List Entry) (s : State), (es.foldl State.zoneTest s).bki = s.bki := by
    intro es
    induction es with
    | nil => intro s; rfl
    | cons x xs ih => intro s; simp [ih]
  simp [State.zonesAll, h]
@[simp] theorem State.zonesAll_icu (s : State) : (s.zonesAll).icu = s.icu := by
  have h : ∀ (es : List Entry) (s : State), (es.foldl State.zoneTest s).icu = s.icu := by
    intro es
    induction es with
    | nil => intro s; rfl
    | cons x xs ih => intro s; simp [ih]
  simp [State.zonesAll, h]
@[simp] theorem State.zonesAll_lif (s : State) : (s.zonesAll).lif = s.lif := by
  have h : ∀ (es : List Entry) (s : State), (es.foldl State.zoneTest s).lif = s.lif := by
    intro es
    induction es with
    | nil => intro s; rfl
    | cons x xs ih => intro s; simp [ih]
  simp [State.zonesAll, h]
@[simp] theorem State.closeReversed_pending (s : State) (e : Entry) : (s.closeReversed e).pending = s.pending := by
  simp only [State.closeReversed]
  split <;> simp
@[simp] theorem State.closeReversed_inReset (s : State) (e : Entry) : (s.closeReversed e).inReset = s.inReset := by
  simp only [State.closeReversed]
  split <;> simp
@[simp] theorem State.closeReversed_pe (s : State) (e : Entry) : (s.closeReversed e).pe = s.pe := by
  simp only [State.closeReversed]
  split <;> simp
@[simp] theorem State.closeReversed_lsu (s : State) (e : Entry) : (s.closeReversed e).lsu = s.lsu := by
  simp only [State.closeReversed]
  split <;> simp
@[simp] theorem State.closeReversed_bki (s : State) (e : Entry) : (s.closeReversed e).bki = s.bki := by
  simp only [State.closeReversed]
  split <;> simp
@[simp] theorem State.closeReversed_icu (s : State) (e : Entry) : (s.closeReversed e).icu = s.icu := by
  simp only [State.closeReversed]
  split <;> simp
@[simp] theorem State.closeReversed_lif (s : State) (e : Entry) : (s.closeReversed e).lif = s.lif := by
  simp only [State.closeReversed]
  split <;> simp
@[simp] theorem State.closeAllReversed_pending (s : State) : (s.closeAllReversed).pending = s.pending := by
  have h : ∀ (es : List Entry) (s : State), (es.foldl State.closeReversed s).pending = s.pending := by
    intro es
    induction es with
    | nil => intro s; rfl
    | cons x xs ih => intro s; simp [ih]
  simp [State.closeAllReversed, h]
@[simp] theorem State.closeAllReversed_inReset (s : State) : (s.closeAllReversed).inReset = s.inReset := by
  have h : ∀ (es : List Entry) (s : State), (es.foldl State.closeReversed s).inReset = s.inReset := by
    intro es
    induction es with
    | nil => intro s; rfl
    | cons x xs ih => intro s; simp [ih]
  simp [State.closeAllReversed, h]
@[simp] theorem State.closeAllReversed_pe (s : State) : (s.closeAllReversed).pe = s.pe := by
  have h : ∀ (es : List Entry) (s : State), (es.foldl State.closeReversed s).pe = s.pe := by
    intro es
    induction es with
    | nil => intro s; rfl
    | cons x xs ih => intro s; simp [ih]
  simp [State.closeAllReversed, h]
@[simp] theorem State.closeAllReversed_lsu (s : State) : (s.closeAllReversed).lsu = s.lsu := by
  have h : ∀ (es : List Entry) (s : State), (es.foldl State.closeReversed s).lsu = s.lsu := by
    intro es
    induction es with
    | nil => intro s; rfl
    | cons x xs ih => intro s; simp [ih]
  simp [State.closeAllReversed, h]
@[simp] theorem State.closeAllReversed_bki (s : State) : (s.closeAllReversed).bki = s.bki := by
  have h : ∀ (es : List Entry) (s : State), (es.foldl State.closeReversed s).bki = s.bki := by
    intro es
    induction es with
    | nil => intro s; rfl
    | cons x xs ih => intro s; simp [ih]
  simp [State.closeAllReversed, h]
@[simp] theorem State.closeAllReversed_icu (s : State) : (s.closeAllReversed).icu = s.icu := by
  have h : ∀ (es : List Entry) (s : State), (es.foldl State.closeReversed s).icu = s.icu := by
    intro es
    induction es with
    | nil => intro s; rfl
    | cons x xs ih => intro s; simp [ih]
  simp [State.closeAllReversed, h]
@[simp] theorem State.closeAllReversed_lif (s : State) : (s.closeAllReversed).lif = s.lif := by
  have h : ∀ (es : List Entry) (s : State), (es.foldl State.closeReversed s).lif = s.lif := by
    intro es
    induction es with
    | nil => intro s; rfl
    | cons x xs ih => intro s; simp [ih]
  simp [State.closeAllReversed, h]
@[simp] theorem State.closeActive_pending (s : State) (r : CloseResult) (o : Option Step) : (s.closeActive r o).pending = s.pending := by
  simp only [State.closeActive]
  split <;> simp
@[simp] theorem State.closeActive_inReset (s : State) (r : CloseResult) (o : Option Step) : (s.closeActive r o).inReset = s.inReset := by
  simp only [State.closeActive]
  split <;> simp
@[simp] theorem State.closeActive_pe (s : State) (r : CloseResult) (o : Option Step) : (s.closeActive r o).pe = s.pe := by
  simp only [State.closeActive]
  split <;> simp
@[simp] theorem State.closeActive_lsu (s : State) (r : CloseResult) (o : Option Step) : (s.closeActive r o).lsu = s.lsu := by
  simp only [State.closeActive]
  split <;> simp
@[simp] theorem State.closeActive_bki (s : State) (r : CloseResult) (o : Option Step) : (s.closeActive r o).bki = s.bki := by
  simp only [State.closeActive]
  split <;> simp
@[simp] theorem State.closeActive_icu (s : State) (r : CloseResult) (o : Option Step) : (s.closeActive r o).icu = s.icu := by
  simp only [State.closeActive]
  split <;> simp
@[simp] theorem State.closeActive_lif (s : State) (r : CloseResult) (o : Option Step) : (s.closeActive r o).lif = s.lif := by
  simp only [State.closeActive]
  split <;> simp
@[simp] theorem State.abortWith_pending (s : State) (r : AbortReason) (o : Option Step) : (s.abortWith r o).pending = s.pending := by simp [State.abortWith]
@[simp] theorem State.abortWith_inReset (s : State) (r : AbortReason) (o : Option Step) : (s.abortWith r o).inReset = s.inReset := by simp [State.abortWith]
@[simp] theorem State.abortWith_pe (s : State) (r : AbortReason) (o : Option Step) : (s.abortWith r o).pe = s.pe := by simp [State.abortWith]
@[simp] theorem State.abortWith_lsu (s : State) (r : AbortReason) (o : Option Step) : (s.abortWith r o).lsu = s.lsu := by simp [State.abortWith]
@[simp] theorem State.abortWith_bki (s : State) (r : AbortReason) (o : Option Step) : (s.abortWith r o).bki = s.bki := by simp [State.abortWith]
@[simp] theorem State.abortWith_icu (s : State) (r : AbortReason) (o : Option Step) : (s.abortWith r o).icu = s.icu := by simp [State.abortWith]
@[simp] theorem State.abortWith_lif (s : State) (r : AbortReason) (o : Option Step) : (s.abortWith r o).lif = s.lif := by simp [State.abortWith]
@[simp] theorem State.abortNoOpen_pending (s : State) : (s.abortNoOpen).pending = s.pending := by simp [State.abortNoOpen]
@[simp] theorem State.abortNoOpen_inReset (s : State) : (s.abortNoOpen).inReset = s.inReset := by simp [State.abortNoOpen]
@[simp] theorem State.abortNoOpen_pe (s : State) : (s.abortNoOpen).pe = s.pe := by simp [State.abortNoOpen]
@[simp] theorem State.abortNoOpen_lsu (s : State) : (s.abortNoOpen).lsu = s.lsu := by simp [State.abortNoOpen]
@[simp] theorem State.abortNoOpen_bki (s : State) : (s.abortNoOpen).bki = s.bki := by simp [State.abortNoOpen]
@[simp] theorem State.abortNoOpen_icu (s : State) : (s.abortNoOpen).icu = s.icu := by simp [State.abortNoOpen]
@[simp] theorem State.abortNoOpen_lif (s : State) : (s.abortNoOpen).lif = s.lif := by simp [State.abortNoOpen]
@[simp] theorem State.startStep_pending (s : State) (st : Step) : (s.startStep st).pending = s.pending := by
  simp only [State.startStep]
  (repeat' split) <;> simp
@[simp] theorem State.startStep_inReset (s : State) (st : Step) : (s.startStep st).inReset = s.inReset := by
  simp only [State.startStep]
  (repeat' split) <;> simp
@[simp] theorem State.startStep_pe (s : State) (st : Step) : (s.startStep st).pe = s.pe := by
  simp only [State.startStep]
  (repeat' split) <;> simp
@[simp] theorem State.startStep_teq (s : State) (st : Step) : (s.startStep st).teq = s.teq := by
  simp only [State.startStep]
  (repeat' split) <;> simp
@[simp] theorem State.startStep_icu (s : State) (st : Step) : (s.startStep st).icu = s.icu := by
  simp only [State.startStep]
  (repeat' split) <;> simp
@[simp] theorem State.startStep_lif (s : State) (st : Step) : (s.startStep st).lif = s.lif := by
  simp only [State.startStep]
  (repeat' split) <;> simp
@[simp] theorem State.advance_pending (s : State) (n : Nat) (c : Cause) : (State.advance n c s).pending = s.pending := by
  induction n generalizing c s with
  | zero => rfl
  | succ n ih => unfold State.advance; split <;> simp [ih]
@[simp] theorem State.advance_inReset (s : State) (n : Nat) (c : Cause) : (State.advance n c s).inReset = s.inReset := by
  induction n generalizing c s with
  | zero => rfl
  | succ n ih => unfold State.advance; split <;> simp [ih]
@[simp] theorem State.advance_pe (s : State) (n : Nat) (c : Cause) : (State.advance n c s).pe = s.pe := by
  induction n generalizing c s with
  | zero => rfl
  | succ n ih => unfold State.advance; split <;> simp [ih]
@[simp] theorem State.advance_icu (s : State) (n : Nat) (c : Cause) : (State.advance n c s).icu = s.icu := by
  induction n generalizing c s with
  | zero => rfl
  | succ n ih => unfold State.advance; split <;> simp [ih]
@[simp] theorem State.advance_lif (s : State) (n : Nat) (c : Cause) : (State.advance n c s).lif = s.lif := by
  induction n generalizing c s with
  | zero => rfl
  | succ n ih => unfold State.advance; split <;> simp [ih]
@[simp] theorem State.psqReact_pending (s : State) : (s.psqReact).pending = s.pending := by
  simp only [State.psqReact]
  split <;> simp
@[simp] theorem State.psqReact_inReset (s : State) : (s.psqReact).inReset = s.inReset := by
  simp only [State.psqReact]
  split <;> simp
@[simp] theorem State.psqReact_pe (s : State) : (s.psqReact).pe = s.pe := by
  simp only [State.psqReact]
  split <;> simp
@[simp] theorem State.psqReact_icu (s : State) : (s.psqReact).icu = s.icu := by
  simp only [State.psqReact]
  split <;> simp
@[simp] theorem State.psqReact_lif (s : State) : (s.psqReact).lif = s.lif := by
  simp only [State.psqReact]
  split <;> simp
@[simp] theorem State.reportTotal_pending (s : State) : (s.reportTotal).pending = s.pending := by
  simp only [State.reportTotal]
  split <;> simp
@[simp] theorem State.reportTotal_inReset (s : State) : (s.reportTotal).inReset = s.inReset := by
  simp only [State.reportTotal]
  split <;> simp
@[simp] theorem State.reportTotal_pe (s : State) : (s.reportTotal).pe = s.pe := by
  simp only [State.reportTotal]
  split <;> simp
@[simp] theorem State.reportTotal_icu (s : State) : (s.reportTotal).icu = s.icu := by
  simp only [State.reportTotal]
  split <;> simp
@[simp] theorem State.reportTotal_lif (s : State) : (s.reportTotal).lif = s.lif := by
  simp only [State.reportTotal]
  split <;> simp
@[simp] theorem State.psqRampExpiry_pending (s : State) : (s.psqRampExpiry).pending = s.pending := by
  simp only [State.psqRampExpiry]
  split <;> simp
@[simp] theorem State.psqRampExpiry_inReset (s : State) : (s.psqRampExpiry).inReset = s.inReset := by
  simp only [State.psqRampExpiry]
  split <;> simp
@[simp] theorem State.psqRampExpiry_pe (s : State) : (s.psqRampExpiry).pe = s.pe := by
  simp only [State.psqRampExpiry]
  split <;> simp
@[simp] theorem State.psqRampExpiry_icu (s : State) : (s.psqRampExpiry).icu = s.icu := by
  simp only [State.psqRampExpiry]
  split <;> simp
@[simp] theorem State.psqRampExpiry_lif (s : State) : (s.psqRampExpiry).lif = s.lif := by
  simp only [State.psqRampExpiry]
  split <;> simp
@[simp] theorem State.confirmExpiry_pending (s : State) : (s.confirmExpiry).pending = s.pending := by
  simp only [State.confirmExpiry]
  (repeat' split) <;> simp
@[simp] theorem State.confirmExpiry_inReset (s : State) : (s.confirmExpiry).inReset = s.inReset := by
  simp only [State.confirmExpiry]
  (repeat' split) <;> simp
@[simp] theorem State.confirmExpiry_pe (s : State) : (s.confirmExpiry).pe = s.pe := by
  simp only [State.confirmExpiry]
  (repeat' split) <;> simp
@[simp] theorem State.confirmExpiry_icu (s : State) : (s.confirmExpiry).icu = s.icu := by
  simp only [State.confirmExpiry]
  (repeat' split) <;> simp
@[simp] theorem State.confirmExpiry_lif (s : State) : (s.confirmExpiry).lif = s.lif := by
  simp only [State.confirmExpiry]
  (repeat' split) <;> simp
@[simp] theorem State.confirmRestart_pending (s : State) : (s.confirmRestart).pending = s.pending := by
  simp only [State.confirmRestart]
  split <;> simp
@[simp] theorem State.confirmRestart_inReset (s : State) : (s.confirmRestart).inReset = s.inReset := by
  simp only [State.confirmRestart]
  split <;> simp
@[simp] theorem State.confirmRestart_pe (s : State) : (s.confirmRestart).pe = s.pe := by
  simp only [State.confirmRestart]
  split <;> simp
@[simp] theorem State.confirmRestart_teq (s : State) : (s.confirmRestart).teq = s.teq := by
  simp only [State.confirmRestart]
  split <;> simp
@[simp] theorem State.confirmRestart_lsu (s : State) : (s.confirmRestart).lsu = s.lsu := by
  simp only [State.confirmRestart]
  split <;> simp
@[simp] theorem State.confirmRestart_slots (s : State) : (s.confirmRestart).slots = s.slots := by
  simp only [State.confirmRestart]
  split <;> simp
@[simp] theorem State.confirmRestart_cs (s : State) : (s.confirmRestart).cs = s.cs := by
  simp only [State.confirmRestart]
  split <;> simp
@[simp] theorem State.confirmRestart_bki (s : State) : (s.confirmRestart).bki = s.bki := by
  simp only [State.confirmRestart]
  split <;> simp
@[simp] theorem State.confirmRestart_icu (s : State) : (s.confirmRestart).icu = s.icu := by
  simp only [State.confirmRestart]
  split <;> simp
@[simp] theorem State.confirmRestart_csu (s : State) : (s.confirmRestart).csu = s.csu := by
  simp only [State.confirmRestart]
  split <;> simp
@[simp] theorem State.confirmRestart_fnu (s : State) : (s.confirmRestart).fnu = s.fnu := by
  simp only [State.confirmRestart]
  split <;> simp
@[simp] theorem State.confirmRestart_lif (s : State) : (s.confirmRestart).lif = s.lif := by
  simp only [State.confirmRestart]
  split <;> simp
@[simp] theorem State.setStatus_pending (s : State) (e : Entry) (st : EntryStatus) : (s.setStatus e st).pending = s.pending := rfl
@[simp] theorem State.setStatus_inReset (s : State) (e : Entry) (st : EntryStatus) : (s.setStatus e st).inReset = s.inReset := rfl
@[simp] theorem State.setStatus_pe (s : State) (e : Entry) (st : EntryStatus) : (s.setStatus e st).pe = s.pe := rfl
@[simp] theorem State.setStatus_psq (s : State) (e : Entry) (st : EntryStatus) : (s.setStatus e st).psq = s.psq := rfl
@[simp] theorem State.setStatus_lsu (s : State) (e : Entry) (st : EntryStatus) : (s.setStatus e st).lsu = s.lsu := rfl
@[simp] theorem State.setStatus_slots (s : State) (e : Entry) (st : EntryStatus) : (s.setStatus e st).slots = s.slots := rfl
@[simp] theorem State.setStatus_cs (s : State) (e : Entry) (st : EntryStatus) : (s.setStatus e st).cs = s.cs := rfl
@[simp] theorem State.setStatus_bki (s : State) (e : Entry) (st : EntryStatus) : (s.setStatus e st).bki = s.bki := rfl
@[simp] theorem State.setStatus_icu (s : State) (e : Entry) (st : EntryStatus) : (s.setStatus e st).icu = s.icu := rfl
@[simp] theorem State.setStatus_csu (s : State) (e : Entry) (st : EntryStatus) : (s.setStatus e st).csu = s.csu := rfl
@[simp] theorem State.setStatus_fnu (s : State) (e : Entry) (st : EntryStatus) : (s.setStatus e st).fnu = s.fnu := rfl
@[simp] theorem State.setStatus_lif (s : State) (e : Entry) (st : EntryStatus) : (s.setStatus e st).lif = s.lif := rfl
@[simp] theorem State.arm_pending (s : State) (e : Entry) : (s.arm e).pending = s.pending := by simp [State.arm]
@[simp] theorem State.arm_inReset (s : State) (e : Entry) : (s.arm e).inReset = s.inReset := by simp [State.arm]
@[simp] theorem State.arm_pe (s : State) (e : Entry) : (s.arm e).pe = s.pe := by simp [State.arm]
@[simp] theorem State.arm_lsu (s : State) (e : Entry) : (s.arm e).lsu = s.lsu := by simp [State.arm]
@[simp] theorem State.arm_slots (s : State) (e : Entry) : (s.arm e).slots = s.slots := by simp [State.arm]
@[simp] theorem State.arm_bki (s : State) (e : Entry) : (s.arm e).bki = s.bki := by simp [State.arm]
@[simp] theorem State.arm_icu (s : State) (e : Entry) : (s.arm e).icu = s.icu := by simp [State.arm]
@[simp] theorem State.arm_csu (s : State) (e : Entry) : (s.arm e).csu = s.csu := by simp [State.arm]
@[simp] theorem State.arm_fnu (s : State) (e : Entry) : (s.arm e).fnu = s.fnu := by simp [State.arm]
@[simp] theorem State.arm_lif (s : State) (e : Entry) : (s.arm e).lif = s.lif := by simp [State.arm]
@[simp] theorem State.activate_pending (s : State) (e : Entry) : (s.activate e).pending = s.pending := by simp [State.activate]
@[simp] theorem State.activate_inReset (s : State) (e : Entry) : (s.activate e).inReset = s.inReset := by simp [State.activate]
@[simp] theorem State.activate_pe (s : State) (e : Entry) : (s.activate e).pe = s.pe := by simp [State.activate]
@[simp] theorem State.activate_icu (s : State) (e : Entry) : (s.activate e).icu = s.icu := by simp [State.activate]
@[simp] theorem State.activate_lif (s : State) (e : Entry) : (s.activate e).lif = s.lif := by simp [State.activate]
@[simp] theorem State.deadlineTests_pending (s : State) (d : Pos) : (s.deadlineTests d).pending = s.pending := by
  simp only [State.deadlineTests]
  (repeat' split) <;> simp
@[simp] theorem State.deadlineTests_inReset (s : State) (d : Pos) : (s.deadlineTests d).inReset = s.inReset := by
  simp only [State.deadlineTests]
  (repeat' split) <;> simp
@[simp] theorem State.deadlineTests_pe (s : State) (d : Pos) : (s.deadlineTests d).pe = s.pe := by
  simp only [State.deadlineTests]
  (repeat' split) <;> simp
@[simp] theorem State.deadlineTests_icu (s : State) (d : Pos) : (s.deadlineTests d).icu = s.icu := by
  simp only [State.deadlineTests]
  (repeat' split) <;> simp
@[simp] theorem State.deadlineTests_lif (s : State) (d : Pos) : (s.deadlineTests d).lif = s.lif := by
  simp only [State.deadlineTests]
  (repeat' split) <;> simp
@[simp] theorem State.psqUpdate_pending (s : State) : (s.psqUpdate).pending = s.pending := by
  simp only [State.psqUpdate]
  (repeat' split) <;> simp
@[simp] theorem State.psqUpdate_inReset (s : State) : (s.psqUpdate).inReset = s.inReset := by
  simp only [State.psqUpdate]
  (repeat' split) <;> simp
@[simp] theorem State.psqUpdate_pe (s : State) : (s.psqUpdate).pe = s.pe := by
  simp only [State.psqUpdate]
  (repeat' split) <;> simp
@[simp] theorem State.psqUpdate_icu (s : State) : (s.psqUpdate).icu = s.icu := by
  simp only [State.psqUpdate]
  (repeat' split) <;> simp
@[simp] theorem State.psqUpdate_lif (s : State) : (s.psqUpdate).lif = s.lif := by
  simp only [State.psqUpdate]
  (repeat' split) <;> simp
@[simp] theorem State.pointsTidy_pending (s : State) : (s.pointsTidy).pending = s.pending := by
  simp only [State.pointsTidy]
  split <;> simp
@[simp] theorem State.pointsTidy_inReset (s : State) : (s.pointsTidy).inReset = s.inReset := by
  simp only [State.pointsTidy]
  split <;> simp
@[simp] theorem State.pointsTidy_pe (s : State) : (s.pointsTidy).pe = s.pe := by
  simp only [State.pointsTidy]
  split <;> simp
@[simp] theorem State.pointsTidy_teq (s : State) : (s.pointsTidy).teq = s.teq := by
  simp only [State.pointsTidy]
  split <;> simp
@[simp] theorem State.pointsTidy_lsu (s : State) : (s.pointsTidy).lsu = s.lsu := by
  simp only [State.pointsTidy]
  split <;> simp
@[simp] theorem State.pointsTidy_slots (s : State) : (s.pointsTidy).slots = s.slots := by
  simp only [State.pointsTidy]
  split <;> simp
@[simp] theorem State.pointsTidy_cs (s : State) : (s.pointsTidy).cs = s.cs := by
  simp only [State.pointsTidy]
  split <;> simp
@[simp] theorem State.pointsTidy_bki (s : State) : (s.pointsTidy).bki = s.bki := by
  simp only [State.pointsTidy]
  split <;> simp
@[simp] theorem State.pointsTidy_icu (s : State) : (s.pointsTidy).icu = s.icu := by
  simp only [State.pointsTidy]
  split <;> simp
@[simp] theorem State.pointsTidy_csu (s : State) : (s.pointsTidy).csu = s.csu := by
  simp only [State.pointsTidy]
  split <;> simp
@[simp] theorem State.pointsTidy_fnu (s : State) : (s.pointsTidy).fnu = s.fnu := by
  simp only [State.pointsTidy]
  split <;> simp
@[simp] theorem State.pointsTidy_lif (s : State) : (s.pointsTidy).lif = s.lif := by
  simp only [State.pointsTidy]
  split <;> simp
@[simp] theorem State.iceLevelUpdate_pending (s : State) : (s.iceLevelUpdate).pending = s.pending := by simp [State.iceLevelUpdate]
@[simp] theorem State.iceLevelUpdate_inReset (s : State) : (s.iceLevelUpdate).inReset = s.inReset := by simp [State.iceLevelUpdate]
@[simp] theorem State.iceLevelUpdate_pe (s : State) : (s.iceLevelUpdate).pe = s.pe := by simp [State.iceLevelUpdate]
@[simp] theorem State.iceLevelUpdate_teq (s : State) : (s.iceLevelUpdate).teq = s.teq := by simp [State.iceLevelUpdate]
@[simp] theorem State.iceLevelUpdate_psq (s : State) : (s.iceLevelUpdate).psq = s.psq := by simp [State.iceLevelUpdate]
@[simp] theorem State.iceLevelUpdate_lsu (s : State) : (s.iceLevelUpdate).lsu = s.lsu := by simp [State.iceLevelUpdate]
@[simp] theorem State.iceLevelUpdate_slots (s : State) : (s.iceLevelUpdate).slots = s.slots := by simp [State.iceLevelUpdate]
@[simp] theorem State.iceLevelUpdate_cs (s : State) : (s.iceLevelUpdate).cs = s.cs := by simp [State.iceLevelUpdate]
@[simp] theorem State.iceLevelUpdate_bki (s : State) : (s.iceLevelUpdate).bki = s.bki := by simp [State.iceLevelUpdate]
@[simp] theorem State.iceLevelUpdate_csu (s : State) : (s.iceLevelUpdate).csu = s.csu := by simp [State.iceLevelUpdate]
@[simp] theorem State.iceLevelUpdate_lif (s : State) : (s.iceLevelUpdate).lif = s.lif := by simp [State.iceLevelUpdate]
@[simp] theorem State.icuReact_pending (s : State) : (s.icuReact).pending = s.pending := by simp [State.icuReact]
@[simp] theorem State.icuReact_inReset (s : State) : (s.icuReact).inReset = s.inReset := by simp [State.icuReact]
@[simp] theorem State.icuReact_pe (s : State) : (s.icuReact).pe = s.pe := by simp [State.icuReact]
@[simp] theorem State.icuReact_teq (s : State) : (s.icuReact).teq = s.teq := by simp [State.icuReact]
@[simp] theorem State.icuReact_psq (s : State) : (s.icuReact).psq = s.psq := by simp [State.icuReact]
@[simp] theorem State.icuReact_lsu (s : State) : (s.icuReact).lsu = s.lsu := by simp [State.icuReact]
@[simp] theorem State.icuReact_slots (s : State) : (s.icuReact).slots = s.slots := by simp [State.icuReact]
@[simp] theorem State.icuReact_cs (s : State) : (s.icuReact).cs = s.cs := by simp [State.icuReact]
@[simp] theorem State.icuReact_bki (s : State) : (s.icuReact).bki = s.bki := by simp [State.icuReact]
@[simp] theorem State.icuReact_csu (s : State) : (s.icuReact).csu = s.csu := by simp [State.icuReact]
@[simp] theorem State.icuReact_lif (s : State) : (s.icuReact).lif = s.lif := by simp [State.icuReact]
@[simp] theorem State.scanComplete_pending (s : State) : (s.scanComplete).pending = s.pending := by simp [State.scanComplete]
@[simp] theorem State.scanComplete_inReset (s : State) : (s.scanComplete).inReset = s.inReset := by simp [State.scanComplete]
@[simp] theorem State.scanComplete_pe (s : State) : (s.scanComplete).pe = s.pe := by simp [State.scanComplete]
@[simp] theorem State.scanComplete_teq (s : State) : (s.scanComplete).teq = s.teq := by simp [State.scanComplete]
@[simp] theorem State.scanComplete_psq (s : State) : (s.scanComplete).psq = s.psq := by simp [State.scanComplete]
@[simp] theorem State.scanComplete_lsu (s : State) : (s.scanComplete).lsu = s.lsu := by simp [State.scanComplete]
@[simp] theorem State.scanComplete_slots (s : State) : (s.scanComplete).slots = s.slots := by simp [State.scanComplete]
@[simp] theorem State.scanComplete_cs (s : State) : (s.scanComplete).cs = s.cs := by simp [State.scanComplete]
@[simp] theorem State.scanComplete_bki (s : State) : (s.scanComplete).bki = s.bki := by simp [State.scanComplete]
@[simp] theorem State.scanComplete_csu (s : State) : (s.scanComplete).csu = s.csu := by simp [State.scanComplete]
@[simp] theorem State.scanComplete_lif (s : State) : (s.scanComplete).lif = s.lif := by simp [State.scanComplete]
@[simp] theorem State.windowComplete_pending (s : State) (p : Option Nat) (b : Bool) : (s.windowComplete p b).pending = s.pending := by
  simp only [State.windowComplete]
  split <;> simp
@[simp] theorem State.windowComplete_inReset (s : State) (p : Option Nat) (b : Bool) : (s.windowComplete p b).inReset = s.inReset := by
  simp only [State.windowComplete]
  split <;> simp
@[simp] theorem State.windowComplete_pe (s : State) (p : Option Nat) (b : Bool) : (s.windowComplete p b).pe = s.pe := by
  simp only [State.windowComplete]
  split <;> simp
@[simp] theorem State.windowComplete_teq (s : State) (p : Option Nat) (b : Bool) : (s.windowComplete p b).teq = s.teq := by
  simp only [State.windowComplete]
  split <;> simp
@[simp] theorem State.windowComplete_slots (s : State) (p : Option Nat) (b : Bool) : (s.windowComplete p b).slots = s.slots := by
  simp only [State.windowComplete]
  split <;> simp
@[simp] theorem State.windowComplete_cs (s : State) (p : Option Nat) (b : Bool) : (s.windowComplete p b).cs = s.cs := by
  simp only [State.windowComplete]
  split <;> simp
@[simp] theorem State.windowComplete_bki (s : State) (p : Option Nat) (b : Bool) : (s.windowComplete p b).bki = s.bki := by
  simp only [State.windowComplete]
  split <;> simp
@[simp] theorem State.windowComplete_icu (s : State) (p : Option Nat) (b : Bool) : (s.windowComplete p b).icu = s.icu := by
  simp only [State.windowComplete]
  split <;> simp
@[simp] theorem State.windowComplete_csu (s : State) (p : Option Nat) (b : Bool) : (s.windowComplete p b).csu = s.csu := by
  simp only [State.windowComplete]
  split <;> simp
@[simp] theorem State.windowComplete_lif (s : State) (p : Option Nat) (b : Bool) : (s.windowComplete p b).lif = s.lif := by
  simp only [State.windowComplete]
  split <;> simp
@[simp] theorem State.crossing_pending (s : State) : (s.crossing).pending = s.pending := by
  simp only [State.crossing]
  (repeat' split) <;> simp
@[simp] theorem State.crossing_inReset (s : State) : (s.crossing).inReset = s.inReset := by
  simp only [State.crossing]
  (repeat' split) <;> simp
@[simp] theorem State.crossing_pe (s : State) : (s.crossing).pe = s.pe := by
  simp only [State.crossing]
  (repeat' split) <;> simp
@[simp] theorem State.crossing_teq (s : State) : (s.crossing).teq = s.teq := by
  simp only [State.crossing]
  (repeat' split) <;> simp
@[simp] theorem State.crossing_slots (s : State) : (s.crossing).slots = s.slots := by
  simp only [State.crossing]
  (repeat' split) <;> simp
@[simp] theorem State.crossing_cs (s : State) : (s.crossing).cs = s.cs := by
  simp only [State.crossing]
  (repeat' split) <;> simp
@[simp] theorem State.crossing_bki (s : State) : (s.crossing).bki = s.bki := by
  simp only [State.crossing]
  (repeat' split) <;> simp
@[simp] theorem State.crossing_icu (s : State) : (s.crossing).icu = s.icu := by
  simp only [State.crossing]
  (repeat' split) <;> simp
@[simp] theorem State.crossing_csu (s : State) : (s.crossing).csu = s.csu := by
  simp only [State.crossing]
  (repeat' split) <;> simp
@[simp] theorem State.crossing_lif (s : State) : (s.crossing).lif = s.lif := by
  simp only [State.crossing]
  (repeat' split) <;> simp
@[simp] theorem State.csuReact_pending (s : State) : (s.csuReact).pending = s.pending := by
  simp only [State.csuReact]
  split <;> simp
@[simp] theorem State.csuReact_inReset (s : State) : (s.csuReact).inReset = s.inReset := by
  simp only [State.csuReact]
  split <;> simp
@[simp] theorem State.csuReact_pe (s : State) : (s.csuReact).pe = s.pe := by
  simp only [State.csuReact]
  split <;> simp
@[simp] theorem State.csuReact_icu (s : State) : (s.csuReact).icu = s.icu := by
  simp only [State.csuReact]
  split <;> simp
@[simp] theorem State.csuReact_lif (s : State) : (s.csuReact).lif = s.lif := by
  simp only [State.csuReact]
  split <;> simp
@[simp] theorem State.wrongTest_pending (s : State) : (s.wrongTest).pending = s.pending := by simp [State.wrongTest]
@[simp] theorem State.wrongTest_inReset (s : State) : (s.wrongTest).inReset = s.inReset := by simp [State.wrongTest]
@[simp] theorem State.wrongTest_pe (s : State) : (s.wrongTest).pe = s.pe := by simp [State.wrongTest]
@[simp] theorem State.wrongTest_teq (s : State) : (s.wrongTest).teq = s.teq := by simp [State.wrongTest]
@[simp] theorem State.wrongTest_psq (s : State) : (s.wrongTest).psq = s.psq := by simp [State.wrongTest]
@[simp] theorem State.wrongTest_lsu (s : State) : (s.wrongTest).lsu = s.lsu := by simp [State.wrongTest]
@[simp] theorem State.wrongTest_slots (s : State) : (s.wrongTest).slots = s.slots := by simp [State.wrongTest]
@[simp] theorem State.wrongTest_cs (s : State) : (s.wrongTest).cs = s.cs := by simp [State.wrongTest]
@[simp] theorem State.wrongTest_icu (s : State) : (s.wrongTest).icu = s.icu := by simp [State.wrongTest]
@[simp] theorem State.wrongTest_csu (s : State) : (s.wrongTest).csu = s.csu := by simp [State.wrongTest]
@[simp] theorem State.wrongTest_lif (s : State) : (s.wrongTest).lif = s.lif := by simp [State.wrongTest]
@[simp] theorem State.testItems_pending (s : State) : (s.testItems).pending = s.pending := rfl
@[simp] theorem State.testItems_inReset (s : State) : (s.testItems).inReset = s.inReset := rfl
@[simp] theorem State.testItems_pe (s : State) : (s.testItems).pe = s.pe := rfl
@[simp] theorem State.testItems_teq (s : State) : (s.testItems).teq = s.teq := rfl
@[simp] theorem State.testItems_psq (s : State) : (s.testItems).psq = s.psq := rfl
@[simp] theorem State.testItems_lsu (s : State) : (s.testItems).lsu = s.lsu := rfl
@[simp] theorem State.testItems_slots (s : State) : (s.testItems).slots = s.slots := rfl
@[simp] theorem State.testItems_cs (s : State) : (s.testItems).cs = s.cs := rfl
@[simp] theorem State.testItems_icu (s : State) : (s.testItems).icu = s.icu := rfl
@[simp] theorem State.testItems_csu (s : State) : (s.testItems).csu = s.csu := rfl
@[simp] theorem State.testItems_fnu (s : State) : (s.testItems).fnu = s.fnu := rfl
@[simp] theorem State.testItems_lif (s : State) : (s.testItems).lif = s.lif := rfl
@[simp] theorem State.interlock_pending (s : State) : (s.interlock).pending = s.pending := by
  unfold State.interlock
  (repeat' split) <;> simp
@[simp] theorem State.interlock_inReset (s : State) : (s.interlock).inReset = s.inReset := by
  unfold State.interlock
  (repeat' split) <;> simp
@[simp] theorem State.interlock_pe (s : State) : (s.interlock).pe = s.pe := by
  unfold State.interlock
  (repeat' split) <;> simp
@[simp] theorem State.interlock_teq (s : State) : (s.interlock).teq = s.teq := by
  unfold State.interlock
  (repeat' split) <;> simp
@[simp] theorem State.interlock_psq (s : State) : (s.interlock).psq = s.psq := by
  unfold State.interlock
  (repeat' split) <;> simp
@[simp] theorem State.interlock_lsu (s : State) : (s.interlock).lsu = s.lsu := by
  unfold State.interlock
  (repeat' split) <;> simp
@[simp] theorem State.interlock_slots (s : State) : (s.interlock).slots = s.slots := by
  unfold State.interlock
  (repeat' split) <;> simp
@[simp] theorem State.interlock_cs (s : State) : (s.interlock).cs = s.cs := by
  unfold State.interlock
  (repeat' split) <;> simp
@[simp] theorem State.interlock_icu (s : State) : (s.interlock).icu = s.icu := by
  unfold State.interlock
  (repeat' split) <;> simp
@[simp] theorem State.interlock_lif (s : State) : (s.interlock).lif = s.lif := by
  unfold State.interlock
  (repeat' split) <;> simp
@[simp] theorem State.bkiReact_pending (s : State) : (s.bkiReact).pending = s.pending := by
  simp only [State.bkiReact]
  split <;> simp
@[simp] theorem State.bkiReact_inReset (s : State) : (s.bkiReact).inReset = s.inReset := by
  simp only [State.bkiReact]
  split <;> simp
@[simp] theorem State.bkiReact_pe (s : State) : (s.bkiReact).pe = s.pe := by
  simp only [State.bkiReact]
  split <;> simp
@[simp] theorem State.bkiReact_icu (s : State) : (s.bkiReact).icu = s.icu := by
  simp only [State.bkiReact]
  split <;> simp
@[simp] theorem State.bkiReact_lif (s : State) : (s.bkiReact).lif = s.lif := by
  simp only [State.bkiReact]
  split <;> simp
@[simp] theorem State.puReact_pending (s : State) : (s.puReact).pending = s.pending := by simp [State.puReact]
@[simp] theorem State.puReact_inReset (s : State) : (s.puReact).inReset = s.inReset := by simp [State.puReact]
@[simp] theorem State.puReact_pe (s : State) : (s.puReact).pe = s.pe := by simp [State.puReact]
@[simp] theorem State.puReact_teq (s : State) : (s.puReact).teq = s.teq := by simp [State.puReact]
@[simp] theorem State.puReact_psq (s : State) : (s.puReact).psq = s.psq := by simp [State.puReact]
@[simp] theorem State.puReact_lsu (s : State) : (s.puReact).lsu = s.lsu := by simp [State.puReact]
@[simp] theorem State.puReact_cs (s : State) : (s.puReact).cs = s.cs := by simp [State.puReact]
@[simp] theorem State.puReact_bki (s : State) : (s.puReact).bki = s.bki := by simp [State.puReact]
@[simp] theorem State.puReact_icu (s : State) : (s.puReact).icu = s.icu := by simp [State.puReact]
@[simp] theorem State.puReact_csu (s : State) : (s.puReact).csu = s.csu := by simp [State.puReact]
@[simp] theorem State.puReact_fnu (s : State) : (s.puReact).fnu = s.fnu := by simp [State.puReact]
@[simp] theorem State.puReact_lif (s : State) : (s.puReact).lif = s.lif := by simp [State.puReact]
@[simp] theorem State.settle_pending (s : State) : (s.settle).pending = s.pending := by simp [State.settle]
@[simp] theorem State.settle_inReset (s : State) : (s.settle).inReset = s.inReset := by simp [State.settle]
@[simp] theorem State.settle_pe (s : State) : (s.settle).pe = s.pe := by simp [State.settle]
@[simp] theorem State.settle_lif (s : State) : (s.settle).lif = s.lif := by simp [State.settle]
@[simp] theorem State.round_pending (s : State) : (s.round).pending = s.pending := by simp [State.round]
@[simp] theorem State.round_inReset (s : State) : (s.round).inReset = s.inReset := by simp [State.round]
@[simp] theorem State.round_pe (s : State) : (s.round).pe = s.pe := by simp [State.round]
@[simp] theorem State.round_lif (s : State) : (s.round).lif = s.lif := by simp [State.round]
@[simp] theorem State.rounds_pending (s : State) (n : Nat) : (State.rounds n s).pending = s.pending := by
  induction n generalizing s with
  | zero => rfl
  | succ n ih => simp [State.rounds, ih]
@[simp] theorem State.rounds_inReset (s : State) (n : Nat) : (State.rounds n s).inReset = s.inReset := by
  induction n generalizing s with
  | zero => rfl
  | succ n ih => simp [State.rounds, ih]
@[simp] theorem State.rounds_pe (s : State) (n : Nat) : (State.rounds n s).pe = s.pe := by
  induction n generalizing s with
  | zero => rfl
  | succ n ih => simp [State.rounds, ih]
@[simp] theorem State.rounds_lif (s : State) (n : Nat) : (State.rounds n s).lif = s.lif := by
  induction n generalizing s with
  | zero => rfl
  | succ n ih => simp [State.rounds, ih]
@[simp] theorem State.handOn_pending (s : State) : (s.handOn).pending = s.pending := by simp [State.handOn]
@[simp] theorem State.handOn_inReset (s : State) : (s.handOn).inReset = s.inReset := by simp [State.handOn]
@[simp] theorem State.handOn_pe (s : State) : (s.handOn).pe = s.pe := by simp [State.handOn]
@[simp] theorem State.handOn_lif (s : State) : (s.handOn).lif = s.lif := by simp [State.handOn]
@[simp] theorem State.estimateUpdate_pending (s : State) : (s.estimateUpdate).pending = s.pending := by simp [State.estimateUpdate]
@[simp] theorem State.estimateUpdate_inReset (s : State) : (s.estimateUpdate).inReset = s.inReset := by simp [State.estimateUpdate]
@[simp] theorem State.estimateUpdate_pe (s : State) : (s.estimateUpdate).pe = s.pe := by simp [State.estimateUpdate]
@[simp] theorem State.estimateUpdate_lif (s : State) : (s.estimateUpdate).lif = s.lif := by simp [State.estimateUpdate]
@[simp] theorem State.slotEvent_pending (s : State) (k : SlotId) (r : Slot × List Flag) : (s.slotEvent k r).pending = s.pending := by simp [State.slotEvent]
@[simp] theorem State.slotEvent_inReset (s : State) (k : SlotId) (r : Slot × List Flag) : (s.slotEvent k r).inReset = s.inReset := by simp [State.slotEvent]
@[simp] theorem State.slotEvent_pe (s : State) (k : SlotId) (r : Slot × List Flag) : (s.slotEvent k r).pe = s.pe := by simp [State.slotEvent]
@[simp] theorem State.slotEvent_lif (s : State) (k : SlotId) (r : Slot × List Flag) : (s.slotEvent k r).lif = s.lif := by simp [State.slotEvent]
@[simp] theorem State.setPe_pending (s : State) (p : Pe) : (s.setPe p).pending = s.pending := by simp [State.setPe]
@[simp] theorem State.setPe_inReset (s : State) (p : Pe) : (s.setPe p).inReset = s.inReset := by simp [State.setPe]
@[simp] theorem State.setPe_teq (s : State) (p : Pe) : (s.setPe p).teq = s.teq := by simp [State.setPe]
@[simp] theorem State.setPe_psq (s : State) (p : Pe) : (s.setPe p).psq = s.psq := by simp [State.setPe]
@[simp] theorem State.setPe_lsu (s : State) (p : Pe) : (s.setPe p).lsu = s.lsu := by simp [State.setPe]
@[simp] theorem State.setPe_slots (s : State) (p : Pe) : (s.setPe p).slots = s.slots := by simp [State.setPe]
@[simp] theorem State.setPe_cs (s : State) (p : Pe) : (s.setPe p).cs = s.cs := by simp [State.setPe]
@[simp] theorem State.setPe_bki (s : State) (p : Pe) : (s.setPe p).bki = s.bki := by simp [State.setPe]
@[simp] theorem State.setPe_icu (s : State) (p : Pe) : (s.setPe p).icu = s.icu := by simp [State.setPe]
@[simp] theorem State.setPe_csu (s : State) (p : Pe) : (s.setPe p).csu = s.csu := by simp [State.setPe]
@[simp] theorem State.setPe_lif (s : State) (p : Pe) : (s.setPe p).lif = s.lif := by simp [State.setPe]

end Sys2Proof.Machine
end

