-- ==== Sys2Proof/Laws/Links.lean ====
section
/-! SUPPORT. The operations of the links leave every block but the Link Interface and the flags as it is: one lemma for each
operation and block. -/

set_option Elab.async false

namespace Sys2Proof.Machine

@[simp] theorem State.setHolder_pending (s : State) (h : Option Link) (p : Option Nat) : (s.setHolder h p).pending = s.pending := by simp [State.setHolder]
@[simp] theorem State.setHolder_inReset (s : State) (h : Option Link) (p : Option Nat) : (s.setHolder h p).inReset = s.inReset := by simp [State.setHolder]
@[simp] theorem State.setHolder_pe (s : State) (h : Option Link) (p : Option Nat) : (s.setHolder h p).pe = s.pe := by simp [State.setHolder]
@[simp] theorem State.setHolder_teq (s : State) (h : Option Link) (p : Option Nat) : (s.setHolder h p).teq = s.teq := by simp [State.setHolder]
@[simp] theorem State.setHolder_psq (s : State) (h : Option Link) (p : Option Nat) : (s.setHolder h p).psq = s.psq := by simp [State.setHolder]
@[simp] theorem State.setHolder_lsu (s : State) (h : Option Link) (p : Option Nat) : (s.setHolder h p).lsu = s.lsu := by simp [State.setHolder]
@[simp] theorem State.setHolder_slots (s : State) (h : Option Link) (p : Option Nat) : (s.setHolder h p).slots = s.slots := by simp [State.setHolder]
@[simp] theorem State.setHolder_cs (s : State) (h : Option Link) (p : Option Nat) : (s.setHolder h p).cs = s.cs := by simp [State.setHolder]
@[simp] theorem State.setHolder_bki (s : State) (h : Option Link) (p : Option Nat) : (s.setHolder h p).bki = s.bki := by simp [State.setHolder]
@[simp] theorem State.setHolder_icu (s : State) (h : Option Link) (p : Option Nat) : (s.setHolder h p).icu = s.icu := by simp [State.setHolder]
@[simp] theorem State.setHolder_csu (s : State) (h : Option Link) (p : Option Nat) : (s.setHolder h p).csu = s.csu := by simp [State.setHolder]
@[simp] theorem State.sendReply_pending (s : State) (l : Link) (code : Nat) (a : Answer) : (s.sendReply l code a).pending = s.pending := rfl
@[simp] theorem State.sendReply_inReset (s : State) (l : Link) (code : Nat) (a : Answer) : (s.sendReply l code a).inReset = s.inReset := rfl
@[simp] theorem State.sendReply_pe (s : State) (l : Link) (code : Nat) (a : Answer) : (s.sendReply l code a).pe = s.pe := rfl
@[simp] theorem State.sendReply_teq (s : State) (l : Link) (code : Nat) (a : Answer) : (s.sendReply l code a).teq = s.teq := rfl
@[simp] theorem State.sendReply_psq (s : State) (l : Link) (code : Nat) (a : Answer) : (s.sendReply l code a).psq = s.psq := rfl
@[simp] theorem State.sendReply_lsu (s : State) (l : Link) (code : Nat) (a : Answer) : (s.sendReply l code a).lsu = s.lsu := rfl
@[simp] theorem State.sendReply_slots (s : State) (l : Link) (code : Nat) (a : Answer) : (s.sendReply l code a).slots = s.slots := rfl
@[simp] theorem State.sendReply_cs (s : State) (l : Link) (code : Nat) (a : Answer) : (s.sendReply l code a).cs = s.cs := rfl
@[simp] theorem State.sendReply_bki (s : State) (l : Link) (code : Nat) (a : Answer) : (s.sendReply l code a).bki = s.bki := rfl
@[simp] theorem State.sendReply_icu (s : State) (l : Link) (code : Nat) (a : Answer) : (s.sendReply l code a).icu = s.icu := rfl
@[simp] theorem State.sendReply_csu (s : State) (l : Link) (code : Nat) (a : Answer) : (s.sendReply l code a).csu = s.csu := rfl
@[simp] theorem State.applySel_pending (s : State) (lvl : SelLevel) : (s.applySel lvl).pending = s.pending := by
  simp only [State.applySel]
  split <;> simp
@[simp] theorem State.applySel_inReset (s : State) (lvl : SelLevel) : (s.applySel lvl).inReset = s.inReset := by
  simp only [State.applySel]
  split <;> simp
@[simp] theorem State.applySel_pe (s : State) (lvl : SelLevel) : (s.applySel lvl).pe = s.pe := by
  simp only [State.applySel]
  split <;> simp
@[simp] theorem State.applySel_teq (s : State) (lvl : SelLevel) : (s.applySel lvl).teq = s.teq := by
  simp only [State.applySel]
  split <;> simp
@[simp] theorem State.applySel_psq (s : State) (lvl : SelLevel) : (s.applySel lvl).psq = s.psq := by
  simp only [State.applySel]
  split <;> simp
@[simp] theorem State.applySel_lsu (s : State) (lvl : SelLevel) : (s.applySel lvl).lsu = s.lsu := by
  simp only [State.applySel]
  split <;> simp
@[simp] theorem State.applySel_slots (s : State) (lvl : SelLevel) : (s.applySel lvl).slots = s.slots := by
  simp only [State.applySel]
  split <;> simp
@[simp] theorem State.applySel_cs (s : State) (lvl : SelLevel) : (s.applySel lvl).cs = s.cs := by
  simp only [State.applySel]
  split <;> simp
@[simp] theorem State.applySel_bki (s : State) (lvl : SelLevel) : (s.applySel lvl).bki = s.bki := by
  simp only [State.applySel]
  split <;> simp
@[simp] theorem State.applySel_icu (s : State) (lvl : SelLevel) : (s.applySel lvl).icu = s.icu := by
  simp only [State.applySel]
  split <;> simp
@[simp] theorem State.applySel_csu (s : State) (lvl : SelLevel) : (s.applySel lvl).csu = s.csu := by
  simp only [State.applySel]
  split <;> simp
@[simp] theorem State.applyTake_pending (s : State) (l : Link) (p : Nat) : (s.applyTake l p).pending = s.pending := by
  simp only [State.applyTake]
  split <;> simp
@[simp] theorem State.applyTake_inReset (s : State) (l : Link) (p : Nat) : (s.applyTake l p).inReset = s.inReset := by
  simp only [State.applyTake]
  split <;> simp
@[simp] theorem State.applyTake_pe (s : State) (l : Link) (p : Nat) : (s.applyTake l p).pe = s.pe := by
  simp only [State.applyTake]
  split <;> simp
@[simp] theorem State.applyTake_teq (s : State) (l : Link) (p : Nat) : (s.applyTake l p).teq = s.teq := by
  simp only [State.applyTake]
  split <;> simp
@[simp] theorem State.applyTake_psq (s : State) (l : Link) (p : Nat) : (s.applyTake l p).psq = s.psq := by
  simp only [State.applyTake]
  split <;> simp
@[simp] theorem State.applyTake_lsu (s : State) (l : Link) (p : Nat) : (s.applyTake l p).lsu = s.lsu := by
  simp only [State.applyTake]
  split <;> simp
@[simp] theorem State.applyTake_slots (s : State) (l : Link) (p : Nat) : (s.applyTake l p).slots = s.slots := by
  simp only [State.applyTake]
  split <;> simp
@[simp] theorem State.applyTake_cs (s : State) (l : Link) (p : Nat) : (s.applyTake l p).cs = s.cs := by
  simp only [State.applyTake]
  split <;> simp
@[simp] theorem State.applyTake_bki (s : State) (l : Link) (p : Nat) : (s.applyTake l p).bki = s.bki := by
  simp only [State.applyTake]
  split <;> simp
@[simp] theorem State.applyTake_icu (s : State) (l : Link) (p : Nat) : (s.applyTake l p).icu = s.icu := by
  simp only [State.applyTake]
  split <;> simp
@[simp] theorem State.applyTake_csu (s : State) (l : Link) (p : Nat) : (s.applyTake l p).csu = s.csu := by
  simp only [State.applyTake]
  split <;> simp
@[simp] theorem State.applyPass_pending (s : State) (l : Link) : (s.applyPass l).pending = s.pending := by
  simp only [State.applyPass]
  split <;> simp
@[simp] theorem State.applyPass_inReset (s : State) (l : Link) : (s.applyPass l).inReset = s.inReset := by
  simp only [State.applyPass]
  split <;> simp
@[simp] theorem State.applyPass_pe (s : State) (l : Link) : (s.applyPass l).pe = s.pe := by
  simp only [State.applyPass]
  split <;> simp
@[simp] theorem State.applyPass_teq (s : State) (l : Link) : (s.applyPass l).teq = s.teq := by
  simp only [State.applyPass]
  split <;> simp
@[simp] theorem State.applyPass_psq (s : State) (l : Link) : (s.applyPass l).psq = s.psq := by
  simp only [State.applyPass]
  split <;> simp
@[simp] theorem State.applyPass_lsu (s : State) (l : Link) : (s.applyPass l).lsu = s.lsu := by
  simp only [State.applyPass]
  split <;> simp
@[simp] theorem State.applyPass_slots (s : State) (l : Link) : (s.applyPass l).slots = s.slots := by
  simp only [State.applyPass]
  split <;> simp
@[simp] theorem State.applyPass_cs (s : State) (l : Link) : (s.applyPass l).cs = s.cs := by
  simp only [State.applyPass]
  split <;> simp
@[simp] theorem State.applyPass_bki (s : State) (l : Link) : (s.applyPass l).bki = s.bki := by
  simp only [State.applyPass]
  split <;> simp
@[simp] theorem State.applyPass_icu (s : State) (l : Link) : (s.applyPass l).icu = s.icu := by
  simp only [State.applyPass]
  split <;> simp
@[simp] theorem State.applyPass_csu (s : State) (l : Link) : (s.applyPass l).csu = s.csu := by
  simp only [State.applyPass]
  split <;> simp
@[simp] theorem State.applyParts_pending (s : State) : (s.applyParts).pending = s.pending := by
  simp only [State.applyParts]
  (repeat' split) <;> simp
@[simp] theorem State.applyParts_inReset (s : State) : (s.applyParts).inReset = s.inReset := by
  simp only [State.applyParts]
  (repeat' split) <;> simp
@[simp] theorem State.applyParts_pe (s : State) : (s.applyParts).pe = s.pe := by
  simp only [State.applyParts]
  (repeat' split) <;> simp
@[simp] theorem State.applyParts_teq (s : State) : (s.applyParts).teq = s.teq := by
  simp only [State.applyParts]
  (repeat' split) <;> simp
@[simp] theorem State.applyParts_psq (s : State) : (s.applyParts).psq = s.psq := by
  simp only [State.applyParts]
  (repeat' split) <;> simp
@[simp] theorem State.applyParts_lsu (s : State) : (s.applyParts).lsu = s.lsu := by
  simp only [State.applyParts]
  (repeat' split) <;> simp
@[simp] theorem State.applyParts_slots (s : State) : (s.applyParts).slots = s.slots := by
  simp only [State.applyParts]
  (repeat' split) <;> simp
@[simp] theorem State.applyParts_cs (s : State) : (s.applyParts).cs = s.cs := by
  simp only [State.applyParts]
  (repeat' split) <;> simp
@[simp] theorem State.applyParts_bki (s : State) : (s.applyParts).bki = s.bki := by
  simp only [State.applyParts]
  (repeat' split) <;> simp
@[simp] theorem State.applyParts_icu (s : State) : (s.applyParts).icu = s.icu := by
  simp only [State.applyParts]
  (repeat' split) <;> simp
@[simp] theorem State.applyParts_csu (s : State) : (s.applyParts).csu = s.csu := by
  simp only [State.applyParts]
  (repeat' split) <;> simp
@[simp] theorem State.deferredPass_pending (s : State) : (s.deferredPass).pending = s.pending := by
  simp only [State.deferredPass]
  (repeat' split) <;> simp
@[simp] theorem State.deferredPass_inReset (s : State) : (s.deferredPass).inReset = s.inReset := by
  simp only [State.deferredPass]
  (repeat' split) <;> simp
@[simp] theorem State.deferredPass_pe (s : State) : (s.deferredPass).pe = s.pe := by
  simp only [State.deferredPass]
  (repeat' split) <;> simp
@[simp] theorem State.deferredPass_teq (s : State) : (s.deferredPass).teq = s.teq := by
  simp only [State.deferredPass]
  (repeat' split) <;> simp
@[simp] theorem State.deferredPass_psq (s : State) : (s.deferredPass).psq = s.psq := by
  simp only [State.deferredPass]
  (repeat' split) <;> simp
@[simp] theorem State.deferredPass_lsu (s : State) : (s.deferredPass).lsu = s.lsu := by
  simp only [State.deferredPass]
  (repeat' split) <;> simp
@[simp] theorem State.deferredPass_slots (s : State) : (s.deferredPass).slots = s.slots := by
  simp only [State.deferredPass]
  (repeat' split) <;> simp
@[simp] theorem State.deferredPass_cs (s : State) : (s.deferredPass).cs = s.cs := by
  simp only [State.deferredPass]
  (repeat' split) <;> simp
@[simp] theorem State.deferredPass_bki (s : State) : (s.deferredPass).bki = s.bki := by
  simp only [State.deferredPass]
  (repeat' split) <;> simp
@[simp] theorem State.deferredPass_icu (s : State) : (s.deferredPass).icu = s.icu := by
  simp only [State.deferredPass]
  (repeat' split) <;> simp
@[simp] theorem State.deferredPass_csu (s : State) : (s.deferredPass).csu = s.csu := by
  simp only [State.deferredPass]
  (repeat' split) <;> simp
@[simp] theorem State.changeEffect_pending (s : State) : (s.changeEffect).pending = s.pending := by
  simp only [State.changeEffect]
  (repeat' split) <;> simp
@[simp] theorem State.changeEffect_inReset (s : State) : (s.changeEffect).inReset = s.inReset := by
  simp only [State.changeEffect]
  (repeat' split) <;> simp
@[simp] theorem State.changeEffect_pe (s : State) : (s.changeEffect).pe = s.pe := by
  simp only [State.changeEffect]
  (repeat' split) <;> simp
@[simp] theorem State.changeEffect_teq (s : State) : (s.changeEffect).teq = s.teq := by
  simp only [State.changeEffect]
  (repeat' split) <;> simp
@[simp] theorem State.changeEffect_psq (s : State) : (s.changeEffect).psq = s.psq := by
  simp only [State.changeEffect]
  (repeat' split) <;> simp
@[simp] theorem State.changeEffect_lsu (s : State) : (s.changeEffect).lsu = s.lsu := by
  simp only [State.changeEffect]
  (repeat' split) <;> simp
@[simp] theorem State.changeEffect_slots (s : State) : (s.changeEffect).slots = s.slots := by
  simp only [State.changeEffect]
  (repeat' split) <;> simp
@[simp] theorem State.changeEffect_cs (s : State) : (s.changeEffect).cs = s.cs := by
  simp only [State.changeEffect]
  (repeat' split) <;> simp
@[simp] theorem State.changeEffect_bki (s : State) : (s.changeEffect).bki = s.bki := by
  simp only [State.changeEffect]
  (repeat' split) <;> simp
@[simp] theorem State.changeEffect_icu (s : State) : (s.changeEffect).icu = s.icu := by
  simp only [State.changeEffect]
  (repeat' split) <;> simp
@[simp] theorem State.changeEffect_csu (s : State) : (s.changeEffect).csu = s.csu := by
  simp only [State.changeEffect]
  (repeat' split) <;> simp
@[simp] theorem State.makePass_pending (s : State) (l : Link) : (s.makePass l).pending = s.pending := by
  simp only [State.makePass]
  split <;> simp
@[simp] theorem State.makePass_inReset (s : State) (l : Link) : (s.makePass l).inReset = s.inReset := by
  simp only [State.makePass]
  split <;> simp
@[simp] theorem State.makePass_pe (s : State) (l : Link) : (s.makePass l).pe = s.pe := by
  simp only [State.makePass]
  split <;> simp
@[simp] theorem State.makePass_teq (s : State) (l : Link) : (s.makePass l).teq = s.teq := by
  simp only [State.makePass]
  split <;> simp
@[simp] theorem State.makePass_psq (s : State) (l : Link) : (s.makePass l).psq = s.psq := by
  simp only [State.makePass]
  split <;> simp
@[simp] theorem State.makePass_lsu (s : State) (l : Link) : (s.makePass l).lsu = s.lsu := by
  simp only [State.makePass]
  split <;> simp
@[simp] theorem State.makePass_slots (s : State) (l : Link) : (s.makePass l).slots = s.slots := by
  simp only [State.makePass]
  split <;> simp
@[simp] theorem State.makePass_cs (s : State) (l : Link) : (s.makePass l).cs = s.cs := by
  simp only [State.makePass]
  split <;> simp
@[simp] theorem State.makePass_bki (s : State) (l : Link) : (s.makePass l).bki = s.bki := by
  simp only [State.makePass]
  split <;> simp
@[simp] theorem State.makePass_icu (s : State) (l : Link) : (s.makePass l).icu = s.icu := by
  simp only [State.makePass]
  split <;> simp
@[simp] theorem State.makePass_csu (s : State) (l : Link) : (s.makePass l).csu = s.csu := by
  simp only [State.makePass]
  split <;> simp
@[simp] theorem State.selAccepted_pending (s : State) : (s.selAccepted).pending = s.pending := by simp [State.selAccepted]
@[simp] theorem State.selAccepted_inReset (s : State) : (s.selAccepted).inReset = s.inReset := by simp [State.selAccepted]
@[simp] theorem State.selAccepted_pe (s : State) : (s.selAccepted).pe = s.pe := by simp [State.selAccepted]
@[simp] theorem State.selAccepted_teq (s : State) : (s.selAccepted).teq = s.teq := by simp [State.selAccepted]
@[simp] theorem State.selAccepted_psq (s : State) : (s.selAccepted).psq = s.psq := by simp [State.selAccepted]
@[simp] theorem State.selAccepted_lsu (s : State) : (s.selAccepted).lsu = s.lsu := by simp [State.selAccepted]
@[simp] theorem State.selAccepted_slots (s : State) : (s.selAccepted).slots = s.slots := by simp [State.selAccepted]
@[simp] theorem State.selAccepted_cs (s : State) : (s.selAccepted).cs = s.cs := by simp [State.selAccepted]
@[simp] theorem State.selAccepted_bki (s : State) : (s.selAccepted).bki = s.bki := by simp [State.selAccepted]
@[simp] theorem State.selAccepted_icu (s : State) : (s.selAccepted).icu = s.icu := by simp [State.selAccepted]
@[simp] theorem State.selAccepted_csu (s : State) : (s.selAccepted).csu = s.csu := by simp [State.selAccepted]
@[simp] theorem State.linkAlive_pending (s : State) (l : Link) : (s.linkAlive l).pending = s.pending := by
  simp only [State.linkAlive]
  split <;> simp
@[simp] theorem State.linkAlive_inReset (s : State) (l : Link) : (s.linkAlive l).inReset = s.inReset := by
  simp only [State.linkAlive]
  split <;> simp
@[simp] theorem State.linkAlive_pe (s : State) (l : Link) : (s.linkAlive l).pe = s.pe := by
  simp only [State.linkAlive]
  split <;> simp
@[simp] theorem State.linkAlive_teq (s : State) (l : Link) : (s.linkAlive l).teq = s.teq := by
  simp only [State.linkAlive]
  split <;> simp
@[simp] theorem State.linkAlive_psq (s : State) (l : Link) : (s.linkAlive l).psq = s.psq := by
  simp only [State.linkAlive]
  split <;> simp
@[simp] theorem State.linkAlive_lsu (s : State) (l : Link) : (s.linkAlive l).lsu = s.lsu := by
  simp only [State.linkAlive]
  split <;> simp
@[simp] theorem State.linkAlive_slots (s : State) (l : Link) : (s.linkAlive l).slots = s.slots := by
  simp only [State.linkAlive]
  split <;> simp
@[simp] theorem State.linkAlive_cs (s : State) (l : Link) : (s.linkAlive l).cs = s.cs := by
  simp only [State.linkAlive]
  split <;> simp
@[simp] theorem State.linkAlive_bki (s : State) (l : Link) : (s.linkAlive l).bki = s.bki := by
  simp only [State.linkAlive]
  split <;> simp
@[simp] theorem State.linkAlive_icu (s : State) (l : Link) : (s.linkAlive l).icu = s.icu := by
  simp only [State.linkAlive]
  split <;> simp
@[simp] theorem State.linkAlive_csu (s : State) (l : Link) : (s.linkAlive l).csu = s.csu := by
  simp only [State.linkAlive]
  split <;> simp
@[simp] theorem State.takeFrame_pending (s : State) (l : Link) (bs : List Byte) : (s.takeFrame l bs).pending = s.pending := by
  simp only [State.takeFrame]
  (repeat' split) <;> simp
@[simp] theorem State.takeFrame_inReset (s : State) (l : Link) (bs : List Byte) : (s.takeFrame l bs).inReset = s.inReset := by
  simp only [State.takeFrame]
  (repeat' split) <;> simp
@[simp] theorem State.takeFrame_pe (s : State) (l : Link) (bs : List Byte) : (s.takeFrame l bs).pe = s.pe := by
  simp only [State.takeFrame]
  (repeat' split) <;> simp
@[simp] theorem State.takeFrame_teq (s : State) (l : Link) (bs : List Byte) : (s.takeFrame l bs).teq = s.teq := by
  simp only [State.takeFrame]
  (repeat' split) <;> simp
@[simp] theorem State.takeFrame_psq (s : State) (l : Link) (bs : List Byte) : (s.takeFrame l bs).psq = s.psq := by
  simp only [State.takeFrame]
  (repeat' split) <;> simp
@[simp] theorem State.takeFrame_lsu (s : State) (l : Link) (bs : List Byte) : (s.takeFrame l bs).lsu = s.lsu := by
  simp only [State.takeFrame]
  (repeat' split) <;> simp
@[simp] theorem State.takeFrame_slots (s : State) (l : Link) (bs : List Byte) : (s.takeFrame l bs).slots = s.slots := by
  simp only [State.takeFrame]
  (repeat' split) <;> simp
@[simp] theorem State.takeFrame_cs (s : State) (l : Link) (bs : List Byte) : (s.takeFrame l bs).cs = s.cs := by
  simp only [State.takeFrame]
  (repeat' split) <;> simp
@[simp] theorem State.takeFrame_bki (s : State) (l : Link) (bs : List Byte) : (s.takeFrame l bs).bki = s.bki := by
  simp only [State.takeFrame]
  (repeat' split) <;> simp
@[simp] theorem State.takeFrame_icu (s : State) (l : Link) (bs : List Byte) : (s.takeFrame l bs).icu = s.icu := by
  simp only [State.takeFrame]
  (repeat' split) <;> simp
@[simp] theorem State.takeFrame_csu (s : State) (l : Link) (bs : List Byte) : (s.takeFrame l bs).csu = s.csu := by
  simp only [State.takeFrame]
  (repeat' split) <;> simp
@[simp] theorem State.startNotice_pending (s : State) (l : Link) : (s.startNotice l).pending = s.pending := by simp [State.startNotice]
@[simp] theorem State.startNotice_inReset (s : State) (l : Link) : (s.startNotice l).inReset = s.inReset := by simp [State.startNotice]
@[simp] theorem State.startNotice_pe (s : State) (l : Link) : (s.startNotice l).pe = s.pe := by simp [State.startNotice]
@[simp] theorem State.startNotice_teq (s : State) (l : Link) : (s.startNotice l).teq = s.teq := by simp [State.startNotice]
@[simp] theorem State.startNotice_psq (s : State) (l : Link) : (s.startNotice l).psq = s.psq := by simp [State.startNotice]
@[simp] theorem State.startNotice_lsu (s : State) (l : Link) : (s.startNotice l).lsu = s.lsu := by simp [State.startNotice]
@[simp] theorem State.startNotice_slots (s : State) (l : Link) : (s.startNotice l).slots = s.slots := by simp [State.startNotice]
@[simp] theorem State.startNotice_cs (s : State) (l : Link) : (s.startNotice l).cs = s.cs := by simp [State.startNotice]
@[simp] theorem State.startNotice_bki (s : State) (l : Link) : (s.startNotice l).bki = s.bki := by simp [State.startNotice]
@[simp] theorem State.startNotice_icu (s : State) (l : Link) : (s.startNotice l).icu = s.icu := by simp [State.startNotice]
@[simp] theorem State.startNotice_csu (s : State) (l : Link) : (s.startNotice l).csu = s.csu := by simp [State.startNotice]
@[simp] theorem State.startNext_pending (s : State) (l : Link) : (s.startNext l).pending = s.pending := by
  simp only [State.startNext]
  (repeat' split) <;> simp
@[simp] theorem State.startNext_inReset (s : State) (l : Link) : (s.startNext l).inReset = s.inReset := by
  simp only [State.startNext]
  (repeat' split) <;> simp
@[simp] theorem State.startNext_pe (s : State) (l : Link) : (s.startNext l).pe = s.pe := by
  simp only [State.startNext]
  (repeat' split) <;> simp
@[simp] theorem State.startNext_teq (s : State) (l : Link) : (s.startNext l).teq = s.teq := by
  simp only [State.startNext]
  (repeat' split) <;> simp
@[simp] theorem State.startNext_psq (s : State) (l : Link) : (s.startNext l).psq = s.psq := by
  simp only [State.startNext]
  (repeat' split) <;> simp
@[simp] theorem State.startNext_lsu (s : State) (l : Link) : (s.startNext l).lsu = s.lsu := by
  simp only [State.startNext]
  (repeat' split) <;> simp
@[simp] theorem State.startNext_slots (s : State) (l : Link) : (s.startNext l).slots = s.slots := by
  simp only [State.startNext]
  (repeat' split) <;> simp
@[simp] theorem State.startNext_cs (s : State) (l : Link) : (s.startNext l).cs = s.cs := by
  simp only [State.startNext]
  (repeat' split) <;> simp
@[simp] theorem State.startNext_bki (s : State) (l : Link) : (s.startNext l).bki = s.bki := by
  simp only [State.startNext]
  (repeat' split) <;> simp
@[simp] theorem State.startNext_icu (s : State) (l : Link) : (s.startNext l).icu = s.icu := by
  simp only [State.startNext]
  (repeat' split) <;> simp
@[simp] theorem State.startNext_csu (s : State) (l : Link) : (s.startNext l).csu = s.csu := by
  simp only [State.startNext]
  (repeat' split) <;> simp
@[simp] theorem State.linkSilent_pending (s : State) (l : Link) : (s.linkSilent? l).pending = s.pending := by
  simp only [State.linkSilent?]
  (repeat' split) <;> simp
@[simp] theorem State.linkSilent_inReset (s : State) (l : Link) : (s.linkSilent? l).inReset = s.inReset := by
  simp only [State.linkSilent?]
  (repeat' split) <;> simp
@[simp] theorem State.linkSilent_pe (s : State) (l : Link) : (s.linkSilent? l).pe = s.pe := by
  simp only [State.linkSilent?]
  (repeat' split) <;> simp
@[simp] theorem State.linkSilent_teq (s : State) (l : Link) : (s.linkSilent? l).teq = s.teq := by
  simp only [State.linkSilent?]
  (repeat' split) <;> simp
@[simp] theorem State.linkSilent_psq (s : State) (l : Link) : (s.linkSilent? l).psq = s.psq := by
  simp only [State.linkSilent?]
  (repeat' split) <;> simp
@[simp] theorem State.linkSilent_lsu (s : State) (l : Link) : (s.linkSilent? l).lsu = s.lsu := by
  simp only [State.linkSilent?]
  (repeat' split) <;> simp
@[simp] theorem State.linkSilent_slots (s : State) (l : Link) : (s.linkSilent? l).slots = s.slots := by
  simp only [State.linkSilent?]
  (repeat' split) <;> simp
@[simp] theorem State.linkSilent_cs (s : State) (l : Link) : (s.linkSilent? l).cs = s.cs := by
  simp only [State.linkSilent?]
  (repeat' split) <;> simp
@[simp] theorem State.linkSilent_bki (s : State) (l : Link) : (s.linkSilent? l).bki = s.bki := by
  simp only [State.linkSilent?]
  (repeat' split) <;> simp
@[simp] theorem State.linkSilent_icu (s : State) (l : Link) : (s.linkSilent? l).icu = s.icu := by
  simp only [State.linkSilent?]
  (repeat' split) <;> simp
@[simp] theorem State.linkSilent_csu (s : State) (l : Link) : (s.linkSilent? l).csu = s.csu := by
  simp only [State.linkSilent?]
  (repeat' split) <;> simp
@[simp] theorem State.replied_pending (s : State) (l : Link) (code : Nat) (p : List Byte) : (s.replied l code p).pending = s.pending := rfl
@[simp] theorem State.replied_inReset (s : State) (l : Link) (code : Nat) (p : List Byte) : (s.replied l code p).inReset = s.inReset := rfl
@[simp] theorem State.replied_pe (s : State) (l : Link) (code : Nat) (p : List Byte) : (s.replied l code p).pe = s.pe := rfl
@[simp] theorem State.replied_teq (s : State) (l : Link) (code : Nat) (p : List Byte) : (s.replied l code p).teq = s.teq := rfl
@[simp] theorem State.replied_psq (s : State) (l : Link) (code : Nat) (p : List Byte) : (s.replied l code p).psq = s.psq := rfl
@[simp] theorem State.replied_lsu (s : State) (l : Link) (code : Nat) (p : List Byte) : (s.replied l code p).lsu = s.lsu := rfl
@[simp] theorem State.replied_slots (s : State) (l : Link) (code : Nat) (p : List Byte) : (s.replied l code p).slots = s.slots := rfl
@[simp] theorem State.replied_cs (s : State) (l : Link) (code : Nat) (p : List Byte) : (s.replied l code p).cs = s.cs := rfl
@[simp] theorem State.replied_bki (s : State) (l : Link) (code : Nat) (p : List Byte) : (s.replied l code p).bki = s.bki := rfl
@[simp] theorem State.replied_icu (s : State) (l : Link) (code : Nat) (p : List Byte) : (s.replied l code p).icu = s.icu := rfl
@[simp] theorem State.replied_csu (s : State) (l : Link) (code : Nat) (p : List Byte) : (s.replied l code p).csu = s.csu := rfl
@[simp] theorem State.answered_pending (s : State) (l : Link) (code : Nat) (p : List Byte) : (s.answered l code p).pending = s.pending := rfl
@[simp] theorem State.answered_inReset (s : State) (l : Link) (code : Nat) (p : List Byte) : (s.answered l code p).inReset = s.inReset := rfl
@[simp] theorem State.answered_pe (s : State) (l : Link) (code : Nat) (p : List Byte) : (s.answered l code p).pe = s.pe := rfl
@[simp] theorem State.answered_teq (s : State) (l : Link) (code : Nat) (p : List Byte) : (s.answered l code p).teq = s.teq := rfl
@[simp] theorem State.answered_psq (s : State) (l : Link) (code : Nat) (p : List Byte) : (s.answered l code p).psq = s.psq := rfl
@[simp] theorem State.answered_lsu (s : State) (l : Link) (code : Nat) (p : List Byte) : (s.answered l code p).lsu = s.lsu := rfl
@[simp] theorem State.answered_slots (s : State) (l : Link) (code : Nat) (p : List Byte) : (s.answered l code p).slots = s.slots := rfl
@[simp] theorem State.answered_cs (s : State) (l : Link) (code : Nat) (p : List Byte) : (s.answered l code p).cs = s.cs := rfl
@[simp] theorem State.answered_bki (s : State) (l : Link) (code : Nat) (p : List Byte) : (s.answered l code p).bki = s.bki := rfl
@[simp] theorem State.answered_icu (s : State) (l : Link) (code : Nat) (p : List Byte) : (s.answered l code p).icu = s.icu := rfl
@[simp] theorem State.answered_csu (s : State) (l : Link) (code : Nat) (p : List Byte) : (s.answered l code p).csu = s.csu := rfl

end Sys2Proof.Machine
end

