-- ==== Sys2Proof/Laws/Ops.lean ====
section
/-! SUPPORT. What the shared operations can do, said once for each: service of a request, the reply, accepting a filtered
input, the rise of a flag, a close, and that no command stops the part. -/

namespace Sys2Proof.Machine

/-! ### Commands -/

/-- No command ends in a fault or a refusal. -/
theorem exec_answers_next (c : Instr) (s : State) : ∃ t, exec c s = .next t := by
  cases c <;> exact ⟨_, rfl⟩

/-! ### Service of a request -/

/-- A request that can start service is the one at the front of its link's buffer. -/
theorem State.canServe_of_starts {s : State} {l : Link} {r : Req} {p : List Byte} (h : s.Starts l r p) :
    s.canServe l = some ⟨r.code, p⟩ := by
  obtain ⟨_, oldest, idle, noReply, notReplying, noTake, noLevel, noPass⟩ := h
  unfold State.canServe
  simp only [idle, noReply, Lif.changePending, noTake, noLevel, noPass]
  split <;> simp_all

/-- Only the request at the front of the buffer can be served. -/
theorem State.canServe_eq_some {s : State} {l : Link} {q : Request} (h : s.canServe l = some q) :
    (s.linkOf l).buffer.head? = some q ∧ (s.linkOf l).serving = false ∧ (s.linkOf l).ready = none ∧
      s.lif.changePending = false := by
  unfold State.canServe at h
  cases hs : (s.linkOf l).serving <;> cases hr : (s.linkOf l).ready <;> cases hp : s.lif.changePending <;>
    cases ht : (s.linkOf l).tx <;> simp_all

/-- A request of the right length from the link that holds command goes to its owner (R189). -/
theorem State.serve_of_commands {s : State} {l : Link} {r : Req} {p : List Byte} (h : s.Commands l r p)
    (owner : List Byte → State → State × Option Answer) : s.serve l r owner = s.serveOwner l r.code p owner := by
  simp [State.serve, State.canServe_of_starts h.toStarts, h.length, h.holds]

/-- A request that changes no state goes to its owner on either link (R189). -/
theorem State.serve_of_starts {s : State} {l : Link} {r : Req} {p : List Byte} (h : s.Starts l r p)
    (hl : p.length = r.len) (hr : r.changes = false) (owner : List Byte → State → State × Option Answer) :
    s.serve l r owner = s.serveOwner l r.code p owner := by
  simp [State.serve, State.canServe_of_starts h, hl, hr]

/-- A reply on its way is `State.replied` of its payload (R190). -/
theorem State.sendReply_eq_replied (s : State) (l : Link) (code : Nat) (a : Answer) :
    s.sendReply l code a = s.replied l code a.payload := by
  unfold State.sendReply State.replied State.updLink
  cases h : (s.lif.link.get l).tx <;> simp [h]

/-- What serving a request can do: nothing, a refusal of R189, or its owner's effect. A property that no change of a link
touches, and that the owner keeps, is kept by the service. -/
theorem State.serve_keeps {P : State → Prop} {owner : List Byte → State → State × Option Answer} {s : State} {l : Link}
    {r : Req} (hlink : ∀ (u : State) (f : LinkState → LinkState), P u → P (u.updLink l f))
    (howner : ∀ p u, P u → P (owner p u).1) (hs : P s) : P (s.serve l r owner) := by
  have hreply : ∀ (u : State) (code : Nat) (a : Answer), P u → P (u.sendReply l code a) := fun u code a hu => by
    rw [State.sendReply_eq_replied]; exact hlink u _ hu
  unfold State.serve
  split
  · exact hs
  · split
    · exact hs
    · split
      · exact hreply _ _ _ (hlink _ _ hs)
      · split
        · exact hreply _ _ _ (hlink _ _ hs)
        · unfold State.serveOwner
          have h := howner (by assumption : Request).payload (s.beginService l) (hlink _ _ hs)
          split <;> rename_i heq <;> rw [heq] at h
          · exact hreply _ _ _ h
          · exact h

/-! ### Filters -/

/-- A filter accepts exactly the level it has waited for (R55). -/
theorem Filter.accept_of_due {f : Filter} {b : Bool} (h : f.due b) : f.accept b = some (.at b) := by
  obtain ⟨raw, acc, wait⟩ := f
  obtain ⟨h1, h2, h3⟩ := h
  simp only at h1 h2 h3
  subst h1 h2
  unfold Filter.accept
  cases raw <;> exact if_pos ⟨rfl, Bool.noConfusion, h3⟩

/-- A filter that accepts a level takes it, with its wait over. -/
theorem Filter.accept_eq_some {f g : Filter} {b : Bool} (h : f.accept b = some g) : g = .at b ∧ f.due b := by
  obtain ⟨raw, acc, wait⟩ := f
  simp only [Filter.accept] at h
  split at h
  · rename_i hc
    obtain ⟨h1, h2, h3⟩ := hc
    cases h
    exact ⟨by simp [Filter.at, h1], h1, Bool.eq_not_of_ne h2, h3⟩
  · cases h

/-! ### Flags -/

/-- A flag raised is set. -/
@[simp] theorem Fnu.raise_has (x : Fnu) (f : Flag) : FlagSet.has (x.raise f).flags f = true := by
  unfold Fnu.raise
  split
  · assumption
  · simp only [FlagSet.has, Flag.bit]
    cases f <;> simp [Flag.num]

/-- Raising a flag clears none. -/
theorem Fnu.raise_keeps (x : Fnu) (f g : Flag) (h : FlagSet.has x.flags g = true) :
    FlagSet.has (x.raise f).flags g = true := by
  unfold Fnu.raise
  split
  · exact h
  · simp only [FlagSet.has] at *
    simp [h]

/-- Raising flags leaves the masks. -/
@[simp] theorem Fnu.raise_mask (x : Fnu) (f : Flag) : (x.raise f).mask = x.mask := by
  unfold Fnu.raise
  split <;> rfl

/-! ### The queue -/

/-- The record a close leaves (R24). -/
theorem State.recordClose_teq (s : State) (e : Entry) (r : CloseResult) (last : Option Step) :
    (s.recordClose e r last).teq = { s.teq with
      entries := s.teq.entries.erase e, closed := (⟨e.tag, e.kind, r, last, s.pe.e⟩ :: s.teq.closed).take 8,
      closedCount := s.teq.closedCount + 1, halted := s.teq.halted || r.halts } := by
  simp [State.recordClose]

/-- A close of an entry that is not queued does nothing. -/
theorem State.closeEntry_of_not_mem (s : State) (e : Entry) (r : CloseResult) (last : Option Step)
    (h : e ∉ s.teq.entries) : s.closeEntry e r last = s := by
  simp [State.closeEntry, h]

end Sys2Proof.Machine
end

