-- ==== Sys2Proof/Laws/PerInstr.lean ====
section
/-! SUPPORT. The per-command family: what every request row names is a request of R200's table, with bit 7 of its code clear
and a payload no longer than a frame's (R199). A row that is no request names none. -/

namespace Sys2Proof.Laws.Requests

open Sys2Proof Sys2Proof.Machine

/-- The request a command serves is one of the table, and a frame can carry it (R199, R200). -/
def Statement (i : Instr) : Prop :=
  match i.request? with
  | some (_, r) => (requestTable.contains r && decide (r.code < 0x80) && decide (r.len ≤ 56)) = true
  | none => True

theorem powerOn (pins : Pins) : Statement (.powerOn pins) := trivial

theorem rstNLow : Statement (.rstNLow) := trivial

theorem rstNRise (sel : SelLevel) (baudHigh : Bool) : Statement (.rstNRise sel baudHigh) := trivial

theorem frameReceived (l : Link) (b : Byte) : Statement (.frameReceived l b) := trivial

theorem rxGapTimeout (l : Link) : Statement (.rxGapTimeout l) := trivial

theorem unknownReq (l : Link) : Statement (.unknownReq l) := trivial

theorem frameSent (l : Link) : Statement (.frameSent l) := trivial

theorem noticeStart (l : Link) : Statement (.noticeStart l) := trivial

theorem reportPosition (l : Link) : Statement (.reportPosition l) := rfl

theorem reverse (l : Link) : Statement (.reverse l) := rfl

theorem readPosition (l : Link) : Statement (.readPosition l) := rfl

theorem postEvent (l : Link) : Statement (.postEvent l) := rfl

theorem cancelEvent (l : Link) : Statement (.cancelEvent l) := rfl

theorem resumeQueue (l : Link) : Statement (.resumeQueue l) := rfl

theorem readQueue (l : Link) : Statement (.readQueue l) := rfl

theorem readClosed (l : Link) : Statement (.readClosed l) := rfl

theorem readLine (l : Link) : Statement (.readLine l) := rfl

theorem setSlot (l : Link) : Statement (.setSlot l) := rfl

theorem unlockSlot (l : Link) : Statement (.unlockSlot l) := rfl

theorem readSlot (l : Link) : Statement (.readSlot l) := rfl

theorem setDemand (l : Link) : Statement (.setDemand l) := rfl

theorem writeRule (l : Link) : Statement (.writeRule l) := rfl

theorem readRule (l : Link) : Statement (.readRule l) := rfl

theorem readTarget (l : Link) : Statement (.readTarget l) := rfl

theorem readBreaker (l : Link) : Statement (.readBreaker l) := rfl

theorem readPassage (l : Link) : Statement (.readPassage l) := rfl

theorem readIce (l : Link) : Statement (.readIce l) := rfl

theorem clearTro (l : Link) : Statement (.clearTro l) := rfl

theorem readCurrent (l : Link) : Statement (.readCurrent l) := rfl

theorem clearFlags (l : Link) : Statement (.clearFlags l) := rfl

theorem clearFault (l : Link) : Statement (.clearFault l) := rfl

theorem getFlags (l : Link) : Statement (.getFlags l) := rfl

theorem setNoticeMask (l : Link) : Statement (.setNoticeMask l) := rfl

theorem takeCommand (l : Link) : Statement (.takeCommand l) := rfl

theorem getStatus (l : Link) : Statement (.getStatus l) := rfl

theorem readParam (l : Link) : Statement (.readParam l) := rfl

theorem setParam (l : Link) : Statement (.setParam l) := rfl

theorem resetPart (l : Link) : Statement (.resetPart l) := rfl

theorem commandChangeEffect : Statement (.commandChangeEffect) := trivial

theorem selAcceptedChange : Statement (.selAcceptedChange) := trivial

theorem silenceTimerExpiry (l : Link) : Statement (.silenceTimerExpiry l) := trivial

theorem positionRefresh : Statement (.positionRefresh) := trivial

theorem psqRampTimerExpiry : Statement (.psqRampTimerExpiry) := trivial

theorem confirmTimerExpiry : Statement (.confirmTimerExpiry) := trivial

theorem lsZcRise : Statement (.lsZcRise) := trivial

theorem periodOverflow : Statement (.periodOverflow) := trivial

theorem lsMagSample (volts : Nat) : Statement (.lsMagSample volts) := trivial

theorem inputRawChange (i : RawInput) : Statement (.inputRawChange i) := trivial

theorem downSwitchMade (k : SlotId) : Statement (.downSwitchMade k) := trivial

theorem downSwitchOpen (k : SlotId) : Statement (.downSwitchOpen k) := trivial

theorem contactMade (k : SlotId) : Statement (.contactMade k) := trivial

theorem contactLost (k : SlotId) : Statement (.contactLost k) := trivial

theorem autodropTrip (k : SlotId) : Statement (.autodropTrip k) := trivial

theorem autodropRelease (k : SlotId) : Statement (.autodropRelease k) := trivial

theorem dsfMade (k : SlotId) : Statement (.dsfMade k) := trivial

theorem dsfReleased (k : SlotId) : Statement (.dsfReleased k) := trivial

theorem raiseTimerExpiry (k : SlotId) : Statement (.raiseTimerExpiry k) := trivial

theorem lowerTimerExpiry (k : SlotId) : Statement (.lowerTimerExpiry k) := trivial

theorem retryTimerExpiry (k : SlotId) : Statement (.retryTimerExpiry k) := trivial

theorem contactLossTimerExpiry (k : SlotId) : Statement (.contactLossTimerExpiry k) := trivial

theorem travelTimerExpiry (k : SlotId) : Statement (.travelTimerExpiry k) := trivial

theorem bkiRampTimerExpiry : Statement (.bkiRampTimerExpiry) := trivial

theorem auxMade : Statement (.auxMade) := trivial

theorem auxReleased : Statement (.auxReleased) := trivial

theorem closeTimeout : Statement (.closeTimeout) := trivial

theorem openTimeout : Statement (.openTimeout) := trivial

theorem openCheckEnd : Statement (.openCheckEnd) := trivial

theorem recloseDelayExpiry : Statement (.recloseDelayExpiry) := trivial

theorem tripWindowExpiry : Statement (.tripWindowExpiry) := trivial

theorem gateEnd : Statement (.gateEnd) := trivial

theorem scanCompletion : Statement (.scanCompletion) := trivial

theorem heaterDriveEdge (k : SlotId) : Statement (.heaterDriveEdge k) := trivial

theorem fallTimerExpiry : Statement (.fallTimerExpiry) := trivial

theorem csuSample (amps : PerSlot Nat) : Statement (.csuSample amps) := trivial

theorem widthHalfPoint : Statement (.widthHalfPoint) := trivial

theorem widthTimerEnd : Statement (.widthTimerEnd) := trivial

theorem overloadTimerExpiry : Statement (.overloadTimerExpiry) := trivial

theorem dropoutTimerExpiry (k : SlotId) : Statement (.dropoutTimerExpiry k) := trivial

theorem bucketTurnover : Statement (.bucketTurnover) := trivial

theorem byteReceived (l : Link) (b : Byte) (stopBitError : Bool) : Statement (.byteReceived l b stopBitError) := trivial

theorem rfcCxRisingEdge : Statement (.rfcCxRisingEdge) := trivial

end Sys2Proof.Laws.Requests
end

