-- ==== Sys2Proof/WellFormed.lean ====
section
/-! DEFINITION. Which commands can be sent. The operand types leave two checks: an analogue input cannot
stand above the part's I/O supply. -/

namespace Sys2Proof

/-- The most line volts LS_MAG can present: 2.50 V stand for 40,000 V and the pin cannot exceed the highest
I/O supply, 3.465 V (00, Electrical and package summary; DEDUCED, log 11). -/
def maxLineVolts : Nat := 55440

/-- The most amperes IS_k can present: 2.50 V stand for 4,000 A and the highest supply is 3.465 V (00;
DEDUCED, log 11). -/
def maxSenseAmps : Nat := 5544

/-- The command can be sent. -/
def Instr.wellFormed : Instr → Bool
  | .lsMagSample v => decide (v ≤ maxLineVolts)
  | .csuSample amps => amps.every (fun x => decide (x ≤ maxSenseAmps))
  | _ => true

end Sys2Proof
end

