-- ==== Sys2Proof/Tests/Slice0.lean ====
section
/-! SUPPORT. Tests of single commands. The expected values are those of the spec's worked sequences and tables, or worked out by
hand from its rules; the docstring names the place. -/

set_option Elab.async false

namespace Sys2Proof.Tests

open Sys2Proof Sys2Proof.Machine

/-! ### Building small states -/

/-- What a command leaves of some part of the state. -/
def got {α : Type} (c : Instr) (s : State) (f : State → α) : Option α :=
  match exec c s with
  | .next t => some (f t)
  | .fault _ => none
  | .refused _ => none

/-- The state with one request waiting on a link. -/
def ask (l : Link) (r : Req) (p : List Byte) (s : State) : State := s.updLink l (fun x => { x with buffer := [⟨r.code, p⟩] })

/-- The payload of the reply that a link sends. -/
def replyOf (l : Link) (s : State) : List Byte :=
  match (s.linkOf l).tx with
  | .reply f => (f.drop 3).take (f.length - 5)
  | .notice _ => []
  | .idle => []

/-- One slot's record changed. -/
def slotIs (k : SlotId) (f : Slot → Slot) (s : State) : State := { s with slots := s.slots.set k (f (s.slots.get k)) }

/-- The four slots of the worked half-unit, all DOWN and enabled (05, Worked evaluation; 02, Worked sequence). -/
def roof : State :=
  let en (o : Nat) (m : BitVec 4) (x : Slot) : Slot := { x with enabled := true, offset := o, mask := m, state := .down }
  slotIs .ps0 (en 2850 3) (slotIs .ps1 (en 5400 12) (slotIs .ps2 (en 34600 12) (slotIs .ps3 (en 37150 3) State.reset)))

/-- PS3 UP and collecting with its disconnector CLOSED. -/
def collecting (x : Slot) : Slot :=
  { x with state := .up, role := .collect, tRole := .collect, prv := 360, down := .at false, contact := .at true,
           dsf := .at true, dsc := ⟨.closed, true, none⟩ }

/-- The Position Estimator after a report. -/
def at_ (p : Nat) (v u age : Nat) : Pe :=
  { p := BitVec.ofNat 32 p, v := v, uRep := u, age := age * 1000, e := BitVec.ofNat 32 p, u := u, status := .valid, band := 3,
    lead := .aEnd, refresh := some 0 }

/-! ### Well-formed commands -/

theorem test_volts_above_the_supply_refused : (Instr.lsMagSample 55441).wellFormed = false := by decide
theorem test_volts_at_the_supply_accepted : (Instr.lsMagSample 55440).wellFormed = true := by decide
theorem test_amps_above_the_supply_refused : (Instr.csuSample ⟨0, 0, 0, 5545⟩).wellFormed = false := by decide
theorem test_amps_at_the_supply_accepted : (Instr.csuSample ⟨5544, 0, 0, 5544⟩).wellFormed = true := by decide

/-! ### Arithmetic and frames -/

/-- The table of R1. -/
theorem test_signed_difference :
    signedDiff 1000 4294966000 = 2296 ∧ signedDiff 4294966000 1000 = -2296 ∧ reached 50570 50570 = true ∧
      signedDiff 2147483648 0 = -2147483648 := by decide

/-- The worked value of R188. -/
theorem test_check_of_digits : check [0x31, 0x32, 0x33, 0x34, 0x35, 0x36, 0x37, 0x38, 0x39] = 0x29B1#16 := by decide +kernel

/-- The worked case of R144 and the rounding of 00: halves away from zero. -/
theorem test_rounding : roundDiv (-30000) 385 = -78 ∧ roundDiv 5 10 = 1 ∧ roundDiv (-5) 10 = -1 ∧ roundDiv (-47100) 385 = -122 := by
  decide

/-- No row of the table gives bits, so no word spells a command. -/
theorem test_no_word_spells_a_command : decodeTableWord 32 0 = none ∧ State.reset.withFetchWord 32 5 = State.reset := by
  decide +kernel

/-! ### Reset -/

/-- R197: the rise reads SEL afresh; HIGH names LINK B (R186). -/
theorem test_rst_n_rise_reads_sel :
    got (.rstNRise .high true) { State.reset with inReset := true } (fun t => (t.lif.holder, t.inReset)) = some (some .b, false) := by
  decide +kernel

/-- R73, R99: a feedback and an aux made at reset are taken as OPENING. -/
theorem test_power_on_takes_the_levels :
    got (.powerOn { slots := .all ⟨true, false, false, true⟩, aux := true, sel := .opened, baud := false }) roof
      (fun t => (t.slots.ps0.dsc, t.bki.state, t.lif.holder, t.slots.ps0.enabled)) =
    some (⟨.opening, false, some 1500000⟩, .opening, none, false) := by decide +kernel

theorem test_rst_n_low_holds : got .rstNLow roof (fun t => (t.inReset, t.slots)) = some (true, State.reset.slots) := by
  decide +kernel

/-- R197: the reply OK goes out first, then the part is reset. -/
theorem test_reset_part :
    got (.resetPart .a) (ask .a .resetPart [] roof) (fun t => (replyOf .a t, t.slots == roof.slots,
      got (.frameSent .a) t (fun u => u.slots == State.reset.slots))) = some ([0x00], true, some true) := by decide +kernel

/-! ### Links -/

/-- R187: a LEN byte above 56 discards the frame. -/
theorem test_len_57_discards :
    got (.byteReceived .a 57 false) (State.reset.updLink .a (fun x => { x with rx := .inFrame [0x51] }))
      (fun t => ((t.linkOf .a).rx, (t.linkOf .a).counters.discards)) = some (.hunting, 1) := by decide +kernel

theorem test_gap_discards :
    got (.rxGapTimeout .b) (State.reset.updLink .b (fun x => { x with rx := .inFrame [0x51], gap := some 0 }))
      (fun t => ((t.linkOf .b).rx, (t.linkOf .b).counters.discards)) = some (.hunting, 1) := by decide +kernel

/-- R189: a third request is an overrun, with LINK_ERR. -/
theorem test_third_request_overruns :
    let f := mkFrame 0x51 []
    got (.frameReceived .a (f.getLastD 0))
      (State.reset.updLink .a (fun x => { x with rx := .inFrame f.tail.dropLast, buffer := [⟨3, []⟩, ⟨3, []⟩] }))
      (fun t => ((t.linkOf .a).buffer.length, (t.linkOf .a).counters.overruns, FlagSet.has t.fnu.flags .linkErr, (t.linkOf .a).live)) =
    some (2, 1, true, true) := by decide +kernel

/-- R189, R199: an unknown code is answered UNKNOWN_REQ with its own reply type. -/
theorem test_unknown_request :
    got (.unknownReq .a) (ask .a ⟨0x04, 0, false⟩ [] State.reset) (fun t => (t.linkOf .a).tx) =
      some (.reply (mkFrame 0x84 [0x02])) := by decide +kernel

/-- R189: a wrong length is answered BAD_LENGTH, and a change from the observer link NOT_COMMANDING. -/
theorem test_refusals_of_the_link :
    got (.reverse .a) (ask .a .reverse [0] State.reset) (replyOf .a) = some [0x03] ∧
    got (.reverse .b) (ask .b .reverse [] State.reset) (replyOf .b) = some [0x05] := by decide +kernel

/-- R190: the reply ends its service and a pending notice follows; its contents are those of R202. -/
theorem test_notice_follows_the_reply :
    got (.frameSent .a) ({ roof with fnu := ⟨0x00008001, roof.fnu.mask, ⟨true, false⟩⟩ }.updLink .a (fun x =>
        { x with tx := .reply [], serving := true, buffer := [⟨3, []⟩] }))
      (fun t => ((t.linkOf .a).tx, (t.linkOf .a).serving, (t.linkOf .a).buffer, t.fnu.notice.a)) =
    some (.notice (mkFrame 0xFF [0, 0, 0x80, 0x01, 0, 0, 0x11, 0x11, 0, 0]), false, [], false) := by decide +kernel

theorem test_notice_start :
    got (.noticeStart .b) { roof with fnu := ⟨0x02000000, roof.fnu.mask, ⟨false, true⟩⟩ }
      (fun t => ((t.linkOf .b).tx, t.fnu.notice.b)) =
    some (.notice (mkFrame 0xFF [2, 0, 0, 0, 0, 0, 0x11, 0x11, 0, 0]), false) := by decide +kernel

/-- SEL OPEN, LINK A holds at priority 3, both links LIVE (11, Worked sequence). -/
def pair (serving : Bool) : State :=
  ({ roof with lif := { roof.lif with
      sel := ⟨.opened, .opened, none⟩, selInForce := .opened, holder := some .a, prio := some 3 } }.updLink .a (fun x =>
    { x with live := true, serving := serving, silence := some 1 })).updLink .b (fun x => { x with live := true, silence := some 1 })

/-- A take with priority 5 over 3 waits for the request under service (11, Worked sequence, time 1). -/
theorem test_take_waits :
    got (.takeCommand .b) (ask .b .takeCommand [5] (pair true)) (fun t => (t.lif.take, t.lif.holder, replyOf .b t)) =
      some (some (.b, 5), some .a, []) := by decide +kernel

/-- With none under service it takes effect at once; the same priority is refused BUSY (R192). -/
theorem test_take_effect :
    got (.takeCommand .b) (ask .b .takeCommand [5] (pair false))
      (fun t => (t.lif.holder, t.lif.prio, (replyOf .b t).head?, FlagSet.has t.fnu.flags .handover)) =
        some (some .b, some 5, some 0x00, true) ∧
    got (.takeCommand .b) (ask .b .takeCommand [3] (pair false)) (fun t => (t.lif.holder, (replyOf .b t).head?)) =
      some (some .a, some 0x06) := by decide +kernel

/-- The pending take takes effect once the other service ends (11, Worked sequence, time 4). -/
theorem test_change_effect :
    got .commandChangeEffect { pair false with lif := { (pair false).lif with take := some (.b, 5) } }
      (fun t => (t.lif.holder, t.lif.prio, t.lif.take)) = some (some .b, some 5, none) := by decide +kernel

/-- The holder's silence passes command at priority 1 (11, Worked sequence, time 2,900). -/
theorem test_pass_on_silence :
    got (.silenceTimerExpiry .a) (pair false)
      (fun t => (t.lif.holder, t.lif.prio, (t.linkOf .a).live, FlagSet.has t.fnu.flags .linkSilent)) =
    some (some .b, some 1, false, true) := by decide +kernel

/-- R191: an accepted HIGH names LINK B, with no priority. -/
theorem test_sel_high :
    got .selAcceptedChange { pair false with lif := { (pair false).lif with sel := ⟨.high, .opened, some 0⟩ } }
      (fun t => (t.lif.holder, t.lif.prio, t.lif.sel)) = some (some .b, none, ⟨.high, .high, none⟩) := by decide +kernel

/-- R195, R202 at reset: A holds on SEL LOW, the slots DISABLED, the silence 65,535 ms. -/
theorem test_status_at_reset :
    got (.getStatus .a) (ask .a .getStatus [] State.reset) (replyOf .a) =
      some ([0, 8, 0] ++ [255, 255, 0, 0, 0, 0, 0, 0, 0, 0] ++ [255, 255, 0, 0, 0, 0, 0, 0, 0, 0] ++
        [0, 0, 0, 0] ++ [0, 0, 0, 0, 0, 0] ++ [0]) := by decide +kernel

/-- R203: LINK_SILENT has identifier 0x14 and default 1,000, which is 0x3E8; above 0x23 there is no parameter. -/
theorem test_params :
    got (.readParam .b) (ask .b .readParam [0x14] State.reset) (replyOf .b) = some [0x00, 0x14, 0, 0, 0x03, 0xE8] ∧
    got (.readParam .b) (ask .b .readParam [0x24] State.reset) (replyOf .b) = some [0x04] := by decide +kernel

/-! ### Position -/

/-- 01, Worked sequence: the first report. -/
theorem test_first_report :
    got (.reportPosition .a) (ask .a .reportPosition [0xFF, 0xFE, 0x35, 0xD0, 0x20, 0x8D, 0x00, 0xC8] State.reset)
      (fun t => (t.pe.e, t.pe.u, t.pe.status, t.pe.band, replyOf .a t)) =
    some (4294850000, 200, .valid, 3, [0x00, 0x20, 0x8D, 0x00, 0xC8]) := by decide +kernel

/-- 01, Worked sequence: the report at age 5,014 is a jump of 3,252 over 1,853. -/
theorem test_jump_report :
    let s : State := { roof with pe := { at_ 4294850000 8333 200 5014 with e := 4294891748, u := 853, status := .lost } }
    got (.reportPosition .a) (ask .a .reportPosition (toBE 4 4294895000 ++ toBE 2 8300 ++ toBE 2 150) s)
      (fun t => (t.pe.e, t.pe.u, t.pe.status, FlagSet.has t.fnu.flags .posJump, (replyOf .a t).head?)) =
    some (4294895000, 150, .valid, true, some 0x00) := by decide +kernel

/-- 01, Worked sequence: the refreshes at 120 ms and at 5,010 ms. -/
theorem test_refreshes :
    got .positionRefresh { State.reset with pe := at_ 4294850000 8333 200 120 } (fun t => (t.pe.e, t.pe.u, t.pe.status)) =
      some (4294850999, 216, .valid) ∧
    got .positionRefresh { State.reset with pe := at_ 4294850000 8333 200 5010 }
      (fun t => (t.pe.e, t.pe.u, t.pe.status, FlagSet.has t.fnu.flags .posLost)) = some (4294891748, 853, .lost, true) := by
  decide +kernel

/-- R13: refused while the last speed is not 0; accepted, the lead end turns and the estimate is lost. -/
theorem test_reverse :
    got (.reverse .a) (ask .a .reverse [] { roof with pe := at_ 500 1 0 0 }) (replyOf .a) = some [0x0E] ∧
    got (.reverse .a) (ask .a .reverse [] { roof with pe := at_ 500 0 0 0 }) (fun t => (t.pe.lead, t.pe.status, t.pe.u, replyOf .a t)) =
      some (.bEnd, .noFix, 65535, [0x00]) := by decide +kernel

theorem test_read_position :
    got (.readPosition .b) (ask .b .readPosition [] { roof with pe := at_ 0x01020304 0x0506 0x0708 0x090A }) (replyOf .b) =
      some [0x00, 1, 2, 3, 4, 7, 8, 1, 2, 3, 4, 5, 6, 7, 8, 9, 10, 0x0D] := by decide +kernel

/-- R14: with the B end leading the effective offset is TRAIN_LENGTH less the offset. -/
theorem test_effective_offsets :
    roof.oLeadNow = 2850 ∧ roof.oRearNow = 37150 ∧
      { roof with pe := { roof.pe with lead := .bEnd } }.oLeadNow = 40000 - 37150 := by decide +kernel

/-! ### Queue -/

/-- The queue of 02's worked sequence after its second request, with the zone's length at the limit of R22 (log 31). -/
def queued : State :=
  { roof with
    pe := at_ 10000000 8000 200 0
    teq := { roof.teq with
      entries := [⟨12, .iceZone 2, 10150000, 300000, .queued⟩, ⟨7, .neutral false, 10600000, 40000, .queued⟩], posted := 2 } }

/-- POST_EVENT's payload. -/
def post (tag kind : Byte) (s len : Nat) (next low hint : Byte) : List Byte :=
  [tag, kind] ++ toBE 4 s ++ toBE 4 len ++ [next, low, hint]

/-- 02, Worked sequence: requests 3, 4 and 5. -/
theorem test_posts :
    got (.postEvent .a) (ask .a .postEvent (post 3 1 10620000 80000 2 0 0) queued) (replyOf .a) = some [0x08] ∧
    got (.postEvent .a) (ask .a .postEvent (post 7 2 25000000 1000 0 0 0) queued) (replyOf .a) = some [0x0B] ∧
    got (.postEvent .a) (ask .a .postEvent (post 3 1 10640000 80000 2 0 0) queued)
      (fun t => (replyOf .a t, t.teq.entries.map (fun e => e.tag))) = some ([0, 3, 2, 3, 0, 0, 0, 3], [12, 7, 3]) := by
  decide +kernel

/-- 02, Worked sequence: the first refresh, 100 ms after the report. -/
theorem test_zone_becomes_inside :
    got .positionRefresh { queued with pe := at_ 10000000 8000 200 100 }
      (fun t => (t.pe.e, t.pe.u, t.teq.entries.map (fun e => e.status), t.icu.zoneHint, t.cs.cv.zone)) =
    some (10000800, 213, [.inside, .queued], 2, true) := by decide +kernel

/-- 02, Worked sequence: the jump report closes entry 7 SKIPPED PASSED; the zone stays INSIDE. -/
theorem test_jump_passes_an_entry :
    let zone : Entry := ⟨12, .iceZone 2, 10150000, 900000, .inside⟩
    got (.reportPosition .a) (ask .a .reportPosition (toBE 4 10700000 ++ toBE 2 8000 ++ toBE 2 200)
        { queued with teq := { queued.teq with entries := zone :: queued.teq.entries.tail } })
      (fun t => (t.teq.closed.map (fun r => (r.tag, r.result)), t.teq.entries, FlagSet.has t.fnu.flags .entrySkip)) =
    some ([(7, .skipped .passed)], [zone], true) := by decide +kernel

/-- 02, Worked sequence: the cancel, with its reply by R26. -/
theorem test_cancel :
    got (.cancelEvent .a) (ask .a .cancelEvent [7] queued) (fun t => (replyOf .a t, t.teq.closed)) =
      some ([0x00, 1, 0, 0, 0, 1], [⟨7, .neutral false, .skipped .cancelled, none, 10000000⟩]) := by decide +kernel

theorem test_resume :
    got (.resumeQueue .a) (ask .a .resumeQueue [] { roof with teq := { roof.teq with halted := true } })
      (fun t => (t.teq.halted, replyOf .a t)) = some (false, [0x00, 0x01]) := by decide +kernel

/-- R34, R202: 10,150,000 is 0x009AE070, 300,000 is 0x000493E0; the zone QUEUED is kind 3, status 1. -/
theorem test_read_queue :
    got (.readQueue .b) (ask .b .readQueue [0] { queued with teq := { queued.teq with entries := queued.teq.entries.take 1 } }) (replyOf .b) =
      some ([0x00, 1, 0, 0, 0, 2, 0, 0, 0, 0, 2] ++ [12, 0x07, 0, 0x9A, 0xE0, 0x70, 0, 0x04, 0x93, 0xE0, 0, 0, 2]) := by decide +kernel

/-- R35, R202: a BOUNDARY aborted REVERSED in step COAST. -/
theorem test_read_closed :
    got (.readClosed .b) (ask .b .readClosed [0] { roof with
        teq := { roof.teq with closed := [⟨3, .boundary .a16, .aborted .reversed, some .coast, 258⟩], closedCount := 9 } }) (replyOf .b) =
      some [0x00, 0, 0, 0, 9, 3, 0x0D, 4, 4, 0, 0, 1, 2] := by decide +kernel

/-! ### Line -/

/-- The Line Sense Unit in a window with one sample. -/
def window (anchored : Bool) (counter volts : Nat) (cand confirmed : LineClass) (n : Nat) : Lsu :=
  { Lsu.reset with
    counter := counter, anchored := anchored, accN := 1, accSum := volts, accSq := volts * volts, cand := some cand,
    candCount := n, confirmed := confirmed }

/-- 03, Worked sequence: the overflows at 65,536 and at 196,608, with the breaker OPEN. -/
theorem test_overflows :
    got .periodOverflow { roof with lsu := window true 65535 140 (.sys .a50) (.sys .a50) 3 }
      (fun t => (t.lsu.last, t.lsu.cand, t.lsu.candCount, t.lsu.confirmed, t.lsu.anchored)) =
      some (some ⟨none, 140, .none⟩, some .none, 1, .sys .a50, false) ∧
    got .periodOverflow { roof with lsu := window false 65535 40 .none (.sys .a50) 2 }
      (fun t => (t.lsu.confirmed, FlagSet.has t.fnu.flags .sysChange, FlagSet.has t.fnu.flags .lineLoss)) =
      some (.none, true, false) := by decide +kernel

/-- 03, Worked sequence: the crossings at 231,000 and at 650,170. -/
theorem test_crossings :
    got .lsZcRise { roof with lsu := window false 34392 40 .none .none 3 }
      (fun t => (t.lsu.windows, t.lsu.anchored, t.lsu.counter, t.lsu.sinceCross)) = some (0, true, 0, 0) ∧
    got .lsZcRise { roof with lsu := window true 59870 15390 (.sys .a16) .none 2 }
      (fun t => (t.lsu.last, t.lsu.confirmed, t.lsu.windows)) = some (some ⟨some 59870, 15390, .sys .a16⟩, .sys .a16, 1) := by
  decide +kernel

/-- R40: a sample at or above full scale reads 40,000 V. -/
theorem test_sample_at_full_scale :
    got (.lsMagSample 50000) roof (fun t => (t.lsu.accN, t.lsu.accSum)) = some (1, 40000) := by decide +kernel

theorem test_read_line :
    got (.readLine .a) (ask .a .readLine [] { roof with
      lsu := { window true 0 0 (.sys .a16) .unknown 2 with last := some ⟨some 0x0102, 0x0304, .sys .a16⟩, windows := 7, overCount := 3, overvolt := true } })
      (replyOf .a) = some [0x00, 0x2D, 2, 1, 1, 2, 3, 4, 2, 0, 7, 3, 1] := by decide +kernel

/-! ### A train on A16 with PS3 collecting -/

/-- T2 of 05's worked evaluation. -/
def t2 : Target := { slots := ⟨⟨.stow, .normal⟩, ⟨.stow, .normal⟩, ⟨.stow, .normal⟩, ⟨.collect, .normal⟩⟩, profile := 0 }

/-- T1 of 05's worked evaluation. -/
def t1 : Target := { slots := ⟨⟨.sweep, .light⟩, ⟨.stow, .normal⟩, ⟨.stow, .normal⟩, ⟨.collect, .normal⟩⟩, profile := 1 }

/-- 06, Worked sequence, before time 0: everything but power holds. The one rule gives T2. -/
def ready : State :=
  let s := slotIs .ps3 (fun x => { collecting x with tForce := .normal }) roof
  { s with
    pe := { at_ 1000 2000 0 0 with band := 1 }
    lsu := { window true 0 15400 (.sys .a16) (.sys .a16) 3 with last := some ⟨some 59880, 15400, .sys .a16⟩ }
    cs := { s.cs with
      demand := ⟨true, false, .auto, some .a16⟩, current := t2
      rules := ⟨.avail, .ge, 0, false, .target t2⟩ :: s.cs.rules.tail
      cv := ⟨some .a16, 1, 0, 1, true, .all true, false, .aEnd⟩ }
    csu := { s.csu with expected := some .a16, band := 1, limit := .all 800, roles := ⟨.stow, .stow, .stow, .collect⟩ }
    icu := { s.icu with roles := ⟨.stow, .stow, .stow, .collect⟩ } }

/-- The same with the breaker CLOSED under power. -/
def running : State :=
  { ready with
    cs := { ready.cs with demand := ⟨true, true, .auto, some .a16⟩ }
    bki := { ready.bki with state := .closed, hold := true, aux := .at true, items := ⟨true, true, true, true, true, true, true⟩ }
    csu := { ready.csu with brk := .closed } }

/-- An accepted level about to change. -/
def due (level : Bool) : Filter := { raw := level, acc := !level, wait := some 0 }

/-- 03, Worked sequence over-voltage, window 3: OVERVOLT, SYS_CHANGE and WRONG_SYSTEM, and the breaker opens. -/
theorem test_overvoltage :
    got .lsZcRise { running with lsu := { window true 59860 18500 .unknown (.sys .a16) 2 with overCount := 2 } }
      (fun t => (t.lsu.overvolt, t.lsu.confirmed, t.bki.state, t.bki.wrongLatch, t.fnu.flags)) =
    some (true, .unknown, .opening, true, 0x1C00) := by decide +kernel

/-! ### Breaker -/

/-- 06, Worked sequence, time 0: power 1 closes the breaker. -/
theorem test_power_closes :
    got (.setDemand .a) (ask .a .setDemand [1, 1, 0, 0xFF] ready) (fun t => (t.bki.state, t.bki.hold, t.bki.sup, replyOf .a t)) =
      some (.closing, true, some 500000, [0x00, 0x43]) := by decide +kernel

/-- Time 46: aux made. A close that fails after 500 ms latches BRK_FAULT (R102). -/
theorem test_close_ends :
    let s : State := { running with
      bki := { running.bki with state := .closing, sup := some 0, aux := due true }, csu := { running.csu with brk := .closing } }
    got .auxMade s (fun t => (t.bki.state, t.bki.hold, t.bki.sup)) = some (.closed, true, none) ∧
    got .closeTimeout { s with bki := { s.bki with aux := .at false } } (fun t => (t.bki.state, t.bki.kind, t.bki.hold, t.bki.brkFault)) =
      some (.failed, some .noClose, false, true) := by decide +kernel

/-- Times 20,000 and 50,000: an external trip, and a second within the minute. -/
theorem test_trips :
    let s : State := { running with bki := { running.bki with aux := due false } }
    got .auxReleased s (fun t => (t.bki.state, t.bki.reclose, t.bki.tripWindow, t.bki.brkFault, FlagSet.has t.fnu.flags .brkTrip)) =
      some (.opened, some 2000000, some 60000000, false, true) ∧
    got .auxReleased { s with bki := { s.bki with tripWindow := some 30000000 } }
      (fun t => (t.bki.tripWindow, t.bki.brkFault, FlagSet.has t.fnu.flags .brkFault)) = some (some 60000000, true, true) := by
  decide +kernel

/-- Time 22,000: the reclose delay expires and the breaker closes again. -/
theorem test_reclose :
    got .recloseDelayExpiry { running with
        bki := { running.bki with state := .opened, hold := false, aux := .at false, reclose := some 0, tripWindow := some 58000000 }
        csu := { running.csu with brk := .opened } } (fun t => (t.bki.state, t.bki.hold, t.bki.reclose)) =
      some (.closing, true, none) := by decide +kernel

theorem test_trip_window_ends :
    got .tripWindowExpiry { running with bki := { running.bki with tripWindow := some 0 } } (fun t => (t.bki.tripWindow, t.bki.state)) =
      some (none, .closed) := by decide +kernel

/-- Time 90,000: power 0 at 310 A starts the ramp; at 80 A the breaker opens at once (R105). -/
theorem test_ramped_open :
    let s (total : Nat) : State := { running with csu := { running.csu with total := total, mean := ⟨0, 0, 0, total⟩ } }
    got (.setDemand .a) (ask .a .setDemand [1, 0, 0, 0xFF] (s 310)) (fun t => (t.bki.state, t.bki.hold, t.bki.ramp, t.csu.demandHeld)) =
      some (.closed, true, some 400000, true) ∧
    got (.setDemand .a) (ask .a .setDemand [1, 0, 0, 0xFF] (s 80)) (fun t => (t.bki.state, t.bki.hold, t.csu.demandHeld)) =
      some (.opening, false, true) := by decide +kernel

/-- R105, R107: the ramp timer opens the breaker; 200 ms later the open has failed. -/
theorem test_ramp_timer_and_open_timeout :
    got .bkiRampTimerExpiry { running with bki := { running.bki with ramp := some 0 }, csu := { running.csu with demandHeld := true, total := 310 } }
      (fun t => (t.bki.state, t.bki.sup, t.bki.ramp)) = some (.opening, some 200000, none) ∧
    got .openTimeout { running with bki := { running.bki with state := .opening, hold := false, sup := some 0 } }
      (fun t => (t.bki.state, t.bki.kind, FlagSet.has t.fnu.flags .brkFault)) = some (.failed, some .noOpen, true) := by
  decide +kernel

/-- R108: at the end of the check after a failed close, a made aux is NO_OPEN and a released aux OPEN. -/
theorem test_open_check :
    let s (aux : Bool) : State := { running with bki := { running.bki with
      state := .failed, kind := some .noClose, hold := false, sup := some 0, aux := .at aux, brkFault := true } }
    got .openCheckEnd (s true) (fun t => (t.bki.state, t.bki.kind)) = some (.failed, some .noOpen) ∧
    got .openCheckEnd (s false) (fun t => (t.bki.state, t.bki.kind)) = some (.opened, none) := by decide +kernel

/-- R101: the items are tested in OPEN and CLOSING; in the other states their results stay as last tested. -/
theorem test_item_results_stay :
    let s (st : BrkState) : State := { running with
      bki := { running.bki with state := st }, teq := { running.teq with halted := true } }
    ([BrkState.opened, .closing, .closed, .opening, .failed].map (fun st => (s st).interlock.bki.items.e)) =
      [false, false, true, true, true] := by decide +kernel

/-- R113 with R198: CLOSED, aux and hold at their levels, all items, no timer. -/
theorem test_read_breaker :
    got (.readBreaker .b) (ask .b .readBreaker [] running) (replyOf .b) = some [0x00, 0x62, 0, 0, 0, 0, 0, 0, 0xF0, 0x07] := by
  decide +kernel

/-- 10, Worked sequence, time 53,000: the latch is cleared and the breaker closes; while FAILED it is STILL_PRESENT. -/
theorem test_clear_brk_fault :
    let s (x : BrkState) : State := { running with
      bki := { running.bki with state := x, hold := false, aux := .at false, brkFault := true, tripWindow := some 57000000 }
      csu := { running.csu with brk := x } }
    got (.clearFault .a) (ask .a .clearFault [3] (s .opened)) (fun t => (replyOf .a t, t.bki.brkFault, t.bki.tripWindow, t.bki.state)) =
      some ([0x00, 0x01], false, none, .closing) ∧
    got (.clearFault .a) (ask .a .clearFault [3] (s .failed)) (replyOf .a) = some [0x0D] := by decide +kernel

/-! ### Pantographs -/

/-- R55, R203: DEBOUNCE_PU code 2 is 32 ms. -/
theorem test_raw_change :
    got (.inputRawChange (.ct .ps1 true)) roof (fun t => t.slots.ps1.contact) = some ⟨true, false, some 32000⟩ := by decide +kernel

/-- PS3 sweeping up to the wire, as in 04's worked sequence. -/
def raising (retries : Nat) : State :=
  slotIs .ps3 (fun x => { x with
    state := .raising, tRole := .sweep, role := .sweep, prv := 220, raise := some 0, retryCount := retries, down := .at false }) roof

/-- 04, Worked sequence, 8,000: the first raise fails; the third in a run locks (R66). -/
theorem test_raise_fails :
    got (.raiseTimerExpiry .ps3) (raising 0)
      (fun t => (t.slots.ps3.state, t.slots.ps3.retryPending, t.slots.ps3.prv, t.slots.ps3.retryCount, FlagSet.has t.fnu.flags .raiseFail)) =
      some (.lowering, true, 0, 1, true) ∧
    got (.raiseTimerExpiry .ps3) (raising 2) (fun t => (t.slots.ps3.state, t.slots.ps3.locks, FlagSet.has t.fnu.flags .slotLocked)) =
      some (.locked, ⟨true, false, false, false⟩, true) := by decide +kernel

/-- The roof with a table that keeps PS3 sweeping. -/
def sweeper (f : Slot → Slot) : State :=
  let t : Target := { t2 with slots := { t2.slots with ps3 := ⟨.sweep, .normal⟩ } }
  let s := slotIs .ps3 (fun x => f { x with tRole := .sweep, role := .sweep }) roof
  { s with cs := { s.cs with
      current := t, rules := ⟨.avail, .ge, 0, false, .target t⟩ :: s.cs.rules.tail } }

/-- 04, Worked sequence, 11,400, 16,400 and 19,100. Last, a role of the other need at the end of a LOWERING for a retry: delivered in
the LOWERING it goes to DOWN, where its travel starts (R78); delivered in RAISING it waits in RETRY_WAIT for RETRY_GAP (R65). -/
theorem test_retry :
    got (.downSwitchMade .ps3) (sweeper (fun x => { x with state := .lowering, retryPending := true, lower := some 1, down := due true }))
      (fun t => (t.slots.ps3.state, t.slots.ps3.retry, t.slots.ps3.lower)) = some (.retryWait, some 5000000, none) ∧
    got (.retryTimerExpiry .ps3) (sweeper (fun x => { x with state := .retryWait, retry := some 0, retryCount := 1 }))
      (fun t => (t.slots.ps3.state, t.slots.ps3.prv, t.slots.ps3.raise)) = some (.raising, 220, some 8000000) ∧
    got (.contactMade .ps3) (sweeper (fun x => { x with
        state := .raising, raise := some 9, prv := 220, retryCount := 1, down := .at false, contact := due true }))
      (fun t => (t.slots.ps3.state, t.slots.ps3.prv, t.slots.ps3.retryCount)) = some (.up, 360, 0) ∧
    (let at_ (st : SlotState) : Slot :=
       let x : Slot := { roof.slots.ps3 with state := st, tRole := .sweep, role := .sweep, retryPending := decide (st = .lowering), down := .at false }
       x.deliver roof.puCtx ⟨.collect, .normal⟩
     let inLowering := (at_ .lowering).arriveDown roof.puCtx
     let inRaising := { { at_ .raising with raise := some 0 }.raiseExpiry roof.puCtx |>.1 with down := .at true }.arriveDown roof.puCtx
     (inLowering.state, inLowering.dsc.state, inLowering.retry) = (SlotState.down, DscState.closing, none) ∧
       (inRaising.state, inRaising.dsc.state, inRaising.retry) = (SlotState.retryWait, DscState.opened, some 5000000)) := by decide +kernel

/-- R68: contact lost for 1,000 ms goes to RAISING. -/
theorem test_contact_loss :
    got (.contactLost .ps3) (sweeper (fun x => { x with state := .up, down := .at false, contact := due false, prv := 360 }))
      (fun t => (t.slots.ps3.state, t.slots.ps3.contactLoss)) = some (.up, some 1000000) ∧
    got (.contactLossTimerExpiry .ps3) (sweeper (fun x => { x with state := .up, down := .at false, contactLoss := some 0, prv := 360 }))
      (fun t => (t.slots.ps3.state, t.slots.ps3.prv)) = some (.raising, 220) := by decide +kernel

/-- R69 to R72: a lowering that takes too long locks STUCK_UP; a dropped slot locks AUTODROP on its down switch. -/
theorem test_locks :
    got (.lowerTimerExpiry .ps3) (sweeper (fun x => { x with state := .lowering, lower := some 0, down := .at false }))
      (fun t => (t.slots.ps3.state, t.slots.ps3.locks, t.slots.ps3.dmp, FlagSet.has t.fnu.flags .stuckUp)) =
      some (.locked, ⟨false, false, true, false⟩, true, true) ∧
    got (.downSwitchMade .ps3) (sweeper (fun x => { x with state := .dropped, lower := some 9, dmp := true, down := due true }))
      (fun t => (t.slots.ps3.state, t.slots.ps3.locks, t.slots.ps3.dmp)) = some (.locked, ⟨false, true, false, false⟩, false) := by
  decide +kernel

/-- R70: a down switch that opens sends DOWN to LOWERING. -/
theorem test_down_switch_opens :
    got (.downSwitchOpen .ps0) (slotIs .ps0 (fun x => { x with down := due false }) roof)
      (fun t => (t.slots.ps0.state, t.slots.ps0.lower)) = some (.lowering, some 10000000) := by decide +kernel

/-- R71, R63: the auto-drop line trips and is released. -/
theorem test_autodrop :
    got (.autodropTrip .ps3) (sweeper (fun x => { x with state := .up, prv := 360, down := .at false, contact := .at true, add := due true }))
      (fun t => (t.slots.ps3.state, t.slots.ps3.prv, t.slots.ps3.dmp, FlagSet.has t.fnu.flags .autodrop)) = some (.dropped, 0, true, true) ∧
    got (.autodropRelease .ps3) (sweeper (fun x => { x with add := due false })) (fun t => (t.slots.ps3.state, t.slots.ps3.prv)) =
      some (.raising, 220) := by decide +kernel

/-- 04, Worked sequence, 63,900: the feedback confirms the travel and the slot raises; R74: no feedback in 1,500 ms fails. -/
theorem test_disconnector :
    let s (f : Slot → Slot) : State := { ready with slots := (slotIs .ps3 (fun x => f { x with
      tRole := .collect, dsc := ⟨.closing, true, some 1⟩ }) roof).slots }
    got (.dsfMade .ps3) (s (fun x => { x with dsf := due true })) (fun t => (t.slots.ps3.state, t.slots.ps3.role, t.slots.ps3.dsc)) =
      some (.raising, .collect, ⟨.closed, true, none⟩) ∧
    got (.travelTimerExpiry .ps3) (s id) (fun t => (t.slots.ps3.state, t.slots.ps3.locks.dscFail, t.slots.ps3.dsc.state)) =
      some (.locked, true, .failed) := by decide +kernel

/-- R74: an opening is confirmed by the release of the feedback. -/
theorem test_disconnector_opens :
    got (.dsfReleased .ps0) (slotIs .ps0 (fun x => { x with dsc := ⟨.opening, false, some 1⟩, dsf := due false }) roof)
      (fun t => t.slots.ps0.dsc) = some ⟨.opened, false, none⟩ := by decide +kernel

/-- 04, Worked sequence, 60,000: with the breaker CLOSED a change from SWEEP to COLLECT lowers. -/
theorem test_swap_lowers :
    let x : Slot := { roof.slots.ps3 with state := .up, tRole := .sweep, role := .sweep, prv := 360, down := .at false }
    ((x.deliver running.puCtx ⟨.collect, .normal⟩).state, (x.deliver running.puCtx ⟨.collect, .normal⟩).role,
      (x.deliver running.puCtx ⟨.collect, .normal⟩).prv) = (SlotState.lowering, Role.stow, 0) := by decide +kernel

/-- R56, R57: the configuration of a slot, and one refused while the slot is up. -/
theorem test_set_slot :
    got (.setSlot .a) (ask .a .setSlot [2, 1, 0x12, 0x34, 5] State.reset)
      (fun t => (t.slots.ps2.offset, t.slots.ps2.mask, t.slots.ps2.state, replyOf .a t)) = some (0x1234, 5, .down, [0x00, 1]) ∧
    got (.setSlot .a) (ask .a .setSlot [3, 1, 0, 0, 5] ready) (replyOf .a) = some [0x06, 3] := by decide +kernel

theorem test_unlock_slot :
    let s (dn : Bool) : State :=
      slotIs .ps0 (fun x => { x with state := .locked, locks := ⟨true, false, false, false⟩, retryCount := 3, down := .at dn }) roof
    got (.unlockSlot .a) (ask .a .unlockSlot [0] (s true)) (fun t => (t.slots.ps0.state, t.slots.ps0.retryCount, replyOf .a t)) =
      some (.down, 0, [0x00, 0x01]) ∧
    got (.unlockSlot .a) (ask .a .unlockSlot [0] (s false)) (replyOf .a) = some [0x0D] := by decide +kernel

/-- R59 with R198: PS3 of the half-unit, UP and collecting. 37,150 is 0x911E and 360 is 0x168. -/
theorem test_read_slot :
    got (.readSlot .b) (ask .b .readSlot [3] ready) (replyOf .b) =
      some [0x00, 1, 0x91, 0x1E, 3, 0x91, 0x1E, 0x2B, 0x01, 0, 0, 0, 0, 0x0A, 0x01, 0x68, 0x14] := by decide +kernel

/-! ### Rules -/

/-- The table of 05's worked evaluation. -/
def table : List Rule :=
  let stow : Action := .target Target.stowAll
  let t3 : Target := { slots := ⟨⟨.stow, .normal⟩, ⟨.collect, .normal⟩, ⟨.collect, .normal⟩, ⟨.stow, .normal⟩⟩, profile := 0 }
  [⟨.demand, .eq, 0, false, stow⟩, ⟨.speed, .ge, 3, false, .refuse⟩, ⟨.ice, .ge, 2, true, .absent⟩, ⟨.lead, .eq, 0, true, .absent⟩,
   ⟨.mask, .eq, 9, true, .absent⟩, ⟨.avail, .eq, 9, false, .target t1⟩, ⟨.sys, .lt, 3, true, .absent⟩, ⟨.sys, .ne, 0, true, .absent⟩,
   ⟨.lead, .eq, 0, false, .target t2⟩, ⟨.sys, .ge, 3, false, .target t3⟩] ++ List.replicate 38 .empty

/-- 05, Worked evaluation: index 8 with AVAIL 0x0E, index 5 with AVAIL 0x0F. -/
theorem test_worked_evaluation :
    let cv (ps0 : Bool) : CondVec := ⟨some .a16, 2, 2, 0, true, ⟨ps0, true, true, true⟩, true, .aEnd⟩
    evalTable (cv false) table = some (8, .target t2) ∧ evalTable (cv true) table = some (5, .target t1) := by decide +kernel

/-- R86, R93: the rule is stored, read back in the reply, and evaluated; a MASK rule without AND is refused, and so is a TARGET of a
role code 3 with AND set. -/
theorem test_write_rule :
    let r : List Byte := [5, 2, 0, 0, 1, 0, 0, 0, 5, 2]
    got (.writeRule .a) (ask .a .writeRule (1 :: r) { ready with cs := { ready.cs with rules := List.replicate 48 .empty } })
      (fun t => (replyOf .a t, t.cs.current.profile, t.cs.lastEval.map (fun e => e.index), t.cs.evals)) =
      some ([0x00, 1] ++ r, 2, some (some 1), 1) ∧
    got (.writeRule .a) (ask .a .writeRule ([1, 9, 0, 9, 0, 0] ++ [0, 0, 0, 0, 0]) ready) (replyOf .a) = some [0x04] ∧
    got (.writeRule .a) (ask .a .writeRule ([1, 1, 0, 1, 1, 1] ++ [0, 0, 0, 3, 0]) ready) (replyOf .a) = some [0x04] := by decide +kernel

theorem test_read_rule :
    got (.readRule .b) (ask .b .readRule [0] ready) (replyOf .b) = some [0x00, 0, 6, 2, 0, 0, 1, 4, 4, 4, 5, 0] ∧
    got (.readRule .b) (ask .b .readRule [48] ready) (replyOf .b) = some [0x04] := by decide +kernel

/-- R98 with R198 at reset: the Target all STOW NORMAL, nothing pending, AMB 1. -/
theorem test_read_target_at_reset :
    got (.readTarget .b) (ask .b .readTarget [] State.reset) (replyOf .b) =
      some [0x00, 4, 4, 4, 4, 0, 0, 0, 0, 0, 0, 0, 0, 1, 0, 0, 0, 0, 0, 0] := by decide +kernel

/-! ### Passage -/

/-- 07, Worked passage: the roof with PS3 collecting on A50, and entry 40 queued. -/
def boundary (st : EntryStatus) (e v u age : Nat) : State :=
  { running with
    pe := at_ e v u age
    teq := { running.teq with entries := [⟨40, .boundary .a16, 4294900000, 80000, st⟩], posted := 1 }
    lsu := { running.lsu with confirmed := .sys .a50, cand := some (.sys .a50) }
    cs := { running.cs with demand := ⟨true, true, .auto, some .a50⟩, hold := decide (st ≠ .queued) }
    csu := { running.csu with expected := some .a50, total := 420, mean := ⟨0, 0, 0, 420⟩, limit := .all 500 } }

/-- The plan of entry 40 once armed. -/
def planned (phase : Phase) (st : Option Sys2Proof.Machine.Step) : Psq :=
  { Psq.reset with
    phase := phase, plan := some ⟨40, .boundary .a16, 4294900000, 80000⟩, oLead := some 2850, oRear := some 37150, step := st }

/-- 07, Worked passage, time 0: the points, and the entry is ARMED with the target hold on. -/
theorem test_arming :
    got (.reportPosition .a) (ask .a .reportPosition (toBE 4 4294850000 ++ toBE 2 8333 ++ toBE 2 200) (boundary .queued 4294849990 8333 200 0))
      (fun t => (t.teq.entries.map (fun e => e.status), t.psq.phase, t.cs.hold,
        t.psq.lastPoints.map (fun x => x.g :: [x.d, x.arming, x.a, x.deadline, x.c].map BitVec.toNat))) =
    some ([.armed], .armed, true, some [28833, 4294902850, 4294773317, 4294873317, 4294902650, 50554]) := by decide +kernel

/-- 07, Worked passage, time 2,800: the passage begins with RAMP, and SEQ is held. -/
theorem test_activation :
    got .positionRefresh { boundary .armed 4294872915 8333 200 50 with psq := planned .armed none }
      (fun t => (t.pe.u, t.teq.entries.map (fun e => e.status), t.psq.step, t.psq.rampTimer, t.csu.tro)) =
    some (207, [.active], some .ramp, some 400000, true) := by decide +kernel

/-- R122: the ramp timer ends RAMP and the breaker opens. -/
theorem test_psq_ramp_timer :
    got .psqRampTimerExpiry { boundary .active 4294874000 8333 200 0 with
        psq := { planned .active (some .ramp) with rampTimer := some 0, tLead := some 3460, seqHeld := true } }
      (fun t => (t.psq.step, t.bki.state, t.bki.hold)) = some (some .openBrk, .opening, false) := by decide +kernel

/-- 07, Worked passage NEUTRAL, time 38,580: the confirm timer expires with no voltage. -/
theorem test_confirm_timer :
    let s := boundary .active 51000 8333 200 0
    got .confirmTimerExpiry { s with
        psq := { planned .active (some .confirm) with confirmTimer := some 0, seqHeld := true }
        lsu := { s.lsu with confirmed := .none }, bki := { s.bki with state := .opened, hold := false, aux := .at false }
        csu := { s.csu with seqHeld := true, tro := true, brk := .opened } }
      (fun t => (t.teq.closed.map (fun r => r.result), t.teq.closed.map (fun r => r.lastStep), t.psq.phase, t.cs.hold,
        FlagSet.has t.fnu.flags .lineLoss, FlagSet.has t.fnu.flags .entryDone)) =
    some ([.doneNoVoltage], [some .confirm], .none, false, true, true) := by decide +kernel

/-- R137 with R198: no plan, no points. -/
theorem test_read_passage_at_reset :
    got (.readPassage .b) (ask .b .readPassage [] State.reset) (replyOf .b) = some (List.replicate 51 0) := by decide +kernel

/-! ### Ice -/

/-- The counts of scan 1 of 08's worked arbitration, with the AMB gate about to end. -/
def scan (ref : Nat) : State :=
  { roof with icu := { roof.icu with
      chan := .amb, count := ⟨42200, false⟩, lastRef := ⟨ref, false⟩
      lastStrip := ⟨⟨41973, false⟩, ⟨41237, false⟩, ⟨41580, false⟩, ⟨41400, false⟩⟩
      roles := ⟨.sweep, .collect, .collect, .stow⟩, zoneHint := 2, iceLevel := 2 } }

/-- 08, Worked case and Worked sequence, scan 1: the temperatures and the grants. -/
theorem test_scan :
    got .scanCompletion (scan 40000) (fun t => (t.icu.strip.map (fun x => x.temp), t.icu.amb.temp, t.icu.ambBand)) =
      some (⟨-122, -78, -99, -88⟩, -136, 0) ∧
    got .scanCompletion (scan 40000) (fun t => (t.icu.request, t.icu.grant)) =
      some (⟨true, true, true, false⟩, ⟨false, true, true, false⟩) := by decide +kernel

/-- Scan 172: a reference count of 28,410 makes every temperature invalid. -/
theorem test_scan_without_reference :
    got .gateEnd (scan 28410) (fun t => (t.icu.refFault, t.icu.strip.map (fun x => x.valid), t.icu.grant, t.icu.ambBand, FlagSet.has t.fnu.flags .sensorFault)) =
      some (true, .all false, .all false, 1, true) := by decide +kernel

theorem test_edges :
    got .rfcCxRisingEdge { roof with icu := { roof.icu with count := ⟨65534, false⟩ } } (fun t => t.icu.count) = some ⟨65535, false⟩ ∧
    got .rfcCxRisingEdge { roof with icu := { roof.icu with count := ⟨65535, false⟩ } } (fun t => t.icu.count) = some ⟨65535, true⟩ := by
  decide +kernel

/-- 08, Worked sequence, 46,000: the measured level falls to the computed level, and FORCE_1 holds the ice level at 1. -/
theorem test_fall :
    let s : State := { roof with cs := { roof.cs with demand := { roof.cs.demand with ice := .force1 } } }
    got .fallTimerExpiry { s with icu := { s.icu with measured := 2, computed := 0, iceLevel := 2, iceDemand := .force1, fall := some 0 } }
      (fun t => (t.icu.measured, t.icu.iceLevel, t.cs.cv.ice, FlagSet.has t.fnu.flags .iceLevel)) = some (0, 1, 1, true) := by decide +kernel

/-- R149 at duty 1/2: in its scan PS2 is driven from 0 to 100 ms and from 200 ms. -/
theorem test_heater_drive :
    let s (chan : Channel) : State := { roof with icu := { roof.icu with grant := .all true, chan := chan, gate := some 50000 } }
    got (.heaterDriveEdge .ps2) (s (.strip .ps0)) (fun t => t.icu.htr.ps2) = some true ∧
    got (.heaterDriveEdge .ps2) (s (.strip .ps2)) (fun t => t.icu.htr.ps2) = some false := by decide +kernel

/-- R159 with R198 at reset: band 1 and duty 2 are all that is not zero. -/
theorem test_read_ice_at_reset :
    (got (.readIce .b) (ask .b .readIce [] State.reset) (replyOf .b)).map (fun r => (r.length, r.filter (fun b => b ≠ 0))) =
      some (45, [4, 0x20]) := by decide +kernel

/-! ### Currents -/

/-- 09, Worked sequence: D30, PS1 the only collector, limit 1,000 A, with a history of 19 equal samples. -/
def drawing (amps : Nat) : State :=
  { roof with csu := { roof.csu with
      hist := { roof.csu.hist with ps1 := List.replicate 20 ⟨amps, false⟩ }, limit := .all 1000, roles := ⟨.stow, .collect, .stow, .stow⟩ } }

/-- Time 0: the mean 1,015 is over; TIMING, the timers, TRO. -/
theorem test_sample_over :
    got (.csuSample ⟨0, 1015, 0, 0⟩) (drawing 1015)
      (fun t => (t.csu.mean.ps1, t.csu.overReason, t.csu.width, t.csu.half, t.csu.tro, FlagSet.has t.fnu.flags .troOn)) =
    some (1015, .timing, some 500000, some 250000, true, true) := by decide +kernel

/-- R161: a sample at full scale is clamped. -/
theorem test_sample_clamped :
    got (.csuSample ⟨5000, 0, 0, 0⟩) roof (fun t => (t.csu.hist.ps0.head?, t.csu.mean.ps0)) = some (some ⟨4000, true⟩, 200) := by
  decide +kernel

/-- OVER running, or over. -/
def overDraw (r : OverReason) (limit : Bool) : State :=
  { roof with csu := { roof.csu with
      overReason := r, overLimit := limit, width := some 0, half := some 0, overload := some 0, tro := true } }

/-- Times 250 and 500: a half point over restarts the width; one not over lets it run out. -/
theorem test_half_points :
    got .widthHalfPoint (overDraw .timing true) (fun t => (t.csu.width, t.csu.half)) = some (some 500000, some 250000) ∧
    got .widthHalfPoint (overDraw .timing false) (fun t => (t.csu.width, t.csu.half)) = some (some 0, none) := by decide +kernel

/-- Times 1,110 and 7,100: the width ends with TRO_EXTEND 0 and 1. -/
theorem test_width_ends :
    got .widthTimerEnd (overDraw .timing false) (fun t => (t.csu.overReason, t.csu.tro)) = some (.idle, false) ∧
    got .widthTimerEnd (State.storeParam 0x11 1 (overDraw .timing false)) (fun t => (t.csu.overReason, t.csu.tro)) = some (.extended, true) := by
  decide +kernel

/-- Times 6,100 and 8,000: CLEAR_TRO answers 2, then 1. -/
theorem test_clear_tro :
    got (.clearTro .a) (ask .a .clearTro [] (overDraw .timing true)) (fun t => (replyOf .a t, t.csu.width)) = some ([0x00, 2], some 500000) ∧
    got (.clearTro .a) (ask .a .clearTro [] (overDraw .extended false)) (fun t => (replyOf .a t, t.csu.overReason, t.csu.tro)) =
      some ([0x00, 1], .idle, false) := by decide +kernel

/-- Time 6,800: the overload timer trips the breaker. -/
theorem test_overload :
    got .overloadTimerExpiry { running with csu := { running.csu with
        overload := some 0, overLimit := true, overMark := ⟨false, false, false, true⟩, mean := ⟨0, 0, 0, 900⟩, overReason := .timing, tro := true } }
      (fun t => (t.csu.overloadLatch, t.bki.state, FlagSet.has t.fnu.flags .overload)) = some (true, .opening, true) := by decide +kernel

/-- R172, R173: a dropout that lasts 50 ms is no arc; the buckets turn over. -/
theorem test_dropout_and_buckets :
    got (.dropoutTimerExpiry .ps3) { running with csu := { running.csu with dropout := ⟨none, none, none, some 0⟩ } }
      (fun t => (t.csu.dropout.ps3, t.csu.buckets.ps3.head?)) = some (none, some 0) ∧
    got .bucketTurnover { running with csu := { running.csu with buckets := .all [7, 0, 0, 0, 0, 0, 0, 0, 0, 9] } }
      (fun t => t.csu.buckets.ps3) = some [0, 7, 0, 0, 0, 0, 0, 0, 0, 0] := by decide +kernel

/-- R162, Worked figures: D30 running at profile 2, A16 standstill at profile 1. -/
theorem test_limits :
    ({ roof with csu := { roof.csu with expected := some .d30, band := 3, profile := 2 } } : State).limitNow = 1000 ∧
    ({ roof with csu := { roof.csu with expected := some .a16, band := 0, profile := 1 } } : State).limitNow = 150 := by decide +kernel

/-- R171: READ_CURRENT on the commanding link forgets the reasons seen that are not held. -/
theorem test_read_current :
    got (.readCurrent .a) (ask .a .readCurrent [] { roof with csu := { roof.csu with seen := ⟨false, false, true⟩ } })
      (fun t => ((replyOf .a t).getLast?, t.csu.seen)) = some (some 0x08, ⟨false, false, false⟩) := by decide +kernel

/-- R196: a LIMIT above 4,000 is stored clamped, and the limits follow at once. -/
theorem test_set_param :
    got (.setParam .a) (ask .a .setParam [0x1E, 0, 0, 0x10, 0] running)
      (fun t => (replyOf .a t, t.csu.limit.ps3)) = some ([0x01, 0x1E, 0, 0, 0x0F, 0xA0], 4000) := by decide +kernel

/-! ### Flags -/

theorem test_clear_flags :
    got (.clearFlags .a) (ask .a .clearFlags [0, 0, 0xC0, 0] { roof with fnu := ⟨0x0002C000, roof.fnu.mask, ⟨false, false⟩⟩ }) (fun t =>
      (t.fnu.flags, replyOf .a t)) = some (0x00020000, [0x00, 0, 2, 0, 0]) ∧
    got (.clearFlags .a) (ask .a .clearFlags [4, 0, 0, 0] roof) (replyOf .a) = some [0x04, 0, 0, 0, 0] := by decide +kernel

theorem test_set_notice_mask :
    got (.setNoticeMask .b) (ask .b .setNoticeMask [0, 2, 0xD8, 0] roof) (fun t => (t.fnu.mask.b, t.fnu.mask.a, replyOf .b t)) =
      some (0x2D800, BitVec.allOnes 26, [0x00, 0, 2, 0xD8, 0]) := by decide +kernel

/-- R180, R183 with R198: BRK_FAULT latched, PS0 LOCKED, all flags of LINK B enabled, a notice pending. -/
theorem test_get_flags :
    got (.getFlags .b) (ask .b .getFlags [] (slotIs .ps0 (fun x => { x with state := .locked }) { running with
        bki := { running.bki with brkFault := true }, fnu := ⟨0x4000, running.fnu.mask, ⟨false, true⟩⟩ })) (replyOf .b) =
      some [0x00, 0, 0, 0x40, 0, 0x08, 0x01, 3, 0xFF, 0xFF, 0xFF, 1] := by decide +kernel

end Sys2Proof.Tests
end

