-- ==== Sys2Proof/Tests/Witnesses.lean ====
section
/-! SUPPORT. A witness for each statement that has hypotheses: a concrete state and operands that meet all of them together,
clause by clause, with the operands at the ends of their ranges. -/

set_option Elab.async false

namespace Sys2Proof.Tests

open Sys2Proof Sys2Proof.Machine

/-! ### Requests that start -/

/-- The request can start service, as a test. -/
def canStart (s : State) (l : Link) (r : Req) (p : List Byte) : Bool :=
  let x := s.linkOf l
  !s.inReset && decide (x.buffer.head? = some ⟨r.code, p⟩) && !x.serving && x.ready.isNone && decide (x.tx = .idle) &&
    s.lif.take.isNone && s.lif.selChange.isNone && s.lif.pass.isNone

theorem starts_of {s : State} {l : Link} {r : Req} {p : List Byte} (h : canStart s l r p = true) : s.Starts l r p := by
  simp only [canStart, Bool.and_eq_true, Bool.not_eq_true', decide_eq_true_eq, Option.isNone_iff_eq_none] at h
  obtain ⟨⟨⟨⟨⟨⟨⟨h1, h2⟩, h3⟩, h4⟩, h5⟩, h6⟩, h7⟩, h8⟩ := h
  exact ⟨h1, h2, h3, h4, fun f hf => by simp [h5] at hf, h6, h7, h8⟩

theorem commands_of {s : State} {l : Link} {r : Req} {p : List Byte}
    (h : (canStart s l r p && decide (p.length = r.len) && decide (s.lif.holder = some l)) = true) : s.Commands l r p := by
  simp only [Bool.and_eq_true, decide_eq_true_eq] at h
  exact ⟨starts_of h.1.1, h.1.2, h.2⟩

theorem step_answers_next (s : State) : ∃ t, step s = .next t := by
  unfold step
  split
  · exact ⟨_, rfl⟩
  · exact exec_answers_next _ _

/-- A request on LINK A, which holds command at reset, over a state. -/
abbrev onA (r : Req) (p : List Byte) (s : State) : State := ask .a r p s

/-- A request on LINK B, which observes at reset, over a state. -/
abbrev onB (r : Req) (p : List Byte) (s : State) : State := ask .b r p s

/-! ### Steps, the clock, reset -/

theorem witness_StepRunsFrontCommand :
    ({ roof with pending := [.auxMade, .rstNLow] } : State).pending = Instr.auxMade :: [.rstNLow] := by decide +kernel

theorem witness_IdleStepLetsTimePass :
    (({ roof with inReset := true } : State).pending = [] ∧ ({ roof with inReset := true } : State).inReset = true) ∧
    (roof.pending = [] ∧ roof.inReset = false) := by decide +kernel

theorem witness_ResetSetsEveryBlock :
    ({ roof with inReset := true } : State).inReset = true ∧
    (let s : State := ({ roof with lif := { roof.lif with resetDue := some .a } }.updLink .a (fun x => { x with tx := .reply [] }))
     s.inReset = false ∧ (s.linkOf .a).tx = .reply [] ∧ s.lif.resetDue = some .a) ∧
    (onA .resetPart [] roof).Commands .a .resetPart [] :=
  ⟨by decide +kernel, by decide +kernel, commands_of (by decide +kernel)⟩

theorem witness_HeldInResetNothingActs :
    ({ roof with inReset := true } : State).inReset = true ∧ (∀ p, Instr.auxMade ≠ .powerOn p) ∧ Instr.auxMade ≠ .rstNLow ∧
      (∀ x b, Instr.auxMade ≠ .rstNRise x b) ∧ (∀ i, Instr.auxMade ≠ .inputRawChange i) :=
  ⟨by decide +kernel, by simp, by simp, by simp, by simp⟩

/-! ### The links -/

theorem witness_FrameBytesReachTheBuffer :
    let s (n : Nat) (code : Nat) (p : List Byte) : State :=
      { roof with pending := (mkFrame code p).map (fun b => Instr.byteReceived .a b false) ++ [Instr.auxMade] }.updLink .a (fun x =>
        { x with buffer := List.replicate n ⟨3, []⟩ })
    let met (n : Nat) (code : Nat) (p : List Byte) : Prop :=
      (s n code p).inReset = false ∧ ((s n code p).linkOf .a).rx = .hunting ∧ ((s n code p).linkOf .a).buffer.length ≤ 1 ∧
        code < 0x80 ∧ p.length ≤ 56 ∧
        (s n code p).pending = (mkFrame code p).map (fun b => Instr.byteReceived .a b false) ++ [.auxMade]
    met 0 0x00 [] ∧ met 1 0x7F (List.replicate 56 0xFF) := by decide +kernel

theorem witness_ReceiverTakesBytes :
    let s (bs : List Byte) : State := roof.updLink .a (fun x => { x with rx := .inFrame bs, gap := some 2000 })
    (roof.inReset = false ∧ (roof.linkOf .a).rx = .hunting ∧ (0xA4#8 : Byte) ≠ 0xA5#8) ∧
    ((s [0x51]).inReset = false ∧ ((s [0x51]).linkOf .a).rx = .inFrame [0x51] ∧ ([0x51#8] : List Byte).length = 1 ∧ 56 < (57#8 : Byte).toNat) ∧
    (((s []).linkOf .a).rx = .inFrame [] ∧ ((s [0x51]).linkOf .a).rx = .inFrame [0x51] ∧ (56#8 : Byte).toNat ≤ 56) ∧
    (let bs : List Byte := [0x51, 0]
     ((s bs).linkOf .a).rx = .inFrame bs ∧ 2 ≤ bs.length ∧ bs.length < (bs.getD 1 0).toNat + 3) ∧
    (let bs : List Byte := [0x51, 56] ++ List.replicate 56 0
     ((s bs).linkOf .a).rx = .inFrame bs ∧ 2 ≤ bs.length ∧ bs.length < (bs.getD 1 0).toNat + 3) ∧
    ((s []).linkOf .a).gap.isSome = true := by decide +kernel

theorem witness_LastByteTakesTheFrame :
    let s (n : Nat) (bs : List Byte) : State := roof.updLink .a (fun x =>
      { x with rx := .inFrame bs, gap := some 1, buffer := List.replicate n ⟨3, []⟩ })
    let met (n : Nat) (bs : List Byte) : Prop := (s n bs).inReset = false ∧ ((s n bs).linkOf .a).rx = .inFrame bs ∧
      3 ≤ bs.length ∧ bs.length = (bs.getD 1 0).toNat + 3 ∧ ((s n bs).linkOf .a).buffer.length = n
    let bytes (type : Nat) (p : List Byte) : List Byte := (mkFrame type p).tail.dropLast
    let last (type : Nat) (p : List Byte) : Byte := (mkFrame type p).getLastD 0
    let matching (bs : List Byte) (b : Byte) : Prop :=
      be ((bs ++ [b]).drop (bs.length - 1)) = (check ((bs ++ [b]).take (bs.length - 1))).toNat
    (met 0 (bytes 0x51 []) ∧ ¬ matching (bytes 0x51 []) (last 0x51 [] ^^^ 1)) ∧
    (met 0 (bytes 0x80 []) ∧ matching (bytes 0x80 []) (last 0x80 []) ∧ 128 ≤ ((bytes 0x80 []).getD 0 0).toNat) ∧
    (met 2 (bytes 0x7F []) ∧ matching (bytes 0x7F []) (last 0x7F []) ∧ ((bytes 0x7F []).getD 0 0).toNat < 128 ∧ 2 ≤ 2) ∧
    (met 1 (bytes 0x00 (List.replicate 56 1)) ∧ matching (bytes 0x00 (List.replicate 56 1)) (last 0x00 (List.replicate 56 1)) ∧ 1 ≤ 1) := by
  decide +kernel

theorem witness_LastByteTakesTheFrame_passes :
    let bs : List Byte := (mkFrame 0x51 []).tail.dropLast
    let s (serving : Bool) : State := ((pair serving).updLink .a (fun x => { x with live := false })).updLink .b (fun x =>
      { x with live := false, rx := .inFrame bs, gap := some 1 })
    let met (serving : Bool) : Prop := (s serving).inReset = false ∧ ((s serving).linkOf .b).rx = .inFrame bs ∧
      ((s serving).linkOf .b).live = false ∧ (s serving).lif.sel.acc = .opened ∧ (s serving).lif.holder = some Link.b.other ∧
      ((s serving).linkOf Link.b.other).live = false ∧ (s serving).lif.take = none ∧ (s serving).lif.selChange = none ∧
      (s serving).lif.passDeferred = false
    (met false ∧ ∀ k, ((s false).linkOf k).serving = false) ∧ (met true ∧ ∃ k, ((s true).linkOf k).serving = true) := by
  refine ⟨⟨by decide +kernel, fun k => ?_⟩, by decide +kernel, .a, by decide +kernel⟩
  cases k <;> decide +kernel

theorem witness_RefusedRequestsChangeNothing :
    let codes : List Nat := [0x01, 0x02, 0x03, 0x10, 0x11, 0x12, 0x13, 0x14, 0x18, 0x20, 0x21, 0x22, 0x28, 0x29, 0x2A, 0x2B, 0x30, 0x34, 0x38,
      0x3C, 0x3D, 0x40, 0x41, 0x42, 0x43, 0x50, 0x51, 0x52, 0x53, 0x5F]
    ((onA ⟨0x00, 0, false⟩ [1] roof).Starts .a ⟨0x00, 0, false⟩ [1] ∧ 0x00 ∉ codes) ∧
    ((onA ⟨0x7F, 0, false⟩ [] roof).Starts .a ⟨0x7F, 0, false⟩ [] ∧ 0x7F ∉ codes) ∧
    ((Instr.setSlot .a).request? = some (.a, .setSlot) ∧ (onA .setSlot [0, 0, 0, 0] roof).Starts .a .setSlot [0, 0, 0, 0] ∧
      ([0, 0, 0, 0] : List Byte).length ≠ Req.setSlot.len) ∧
    ((Instr.reverse .b).request? = some (.b, .reverse) ∧ (onB .reverse [] roof).Starts .b .reverse [] ∧
      ([] : List Byte).length = Req.reverse.len ∧ Req.reverse.changes = true ∧ (onB .reverse [] roof).lif.holder ≠ some .b) :=
  ⟨⟨starts_of (by decide +kernel), by decide⟩, ⟨starts_of (by decide +kernel), by decide⟩,
    ⟨rfl, starts_of (by decide +kernel), by decide⟩, rfl, starts_of (by decide +kernel), rfl, rfl, by decide +kernel⟩

theorem witness_ObserverLinkChangesNothing :
    (Instr.readCurrent .b).request? = some (.b, .readCurrent) ∧ roof.lif.holder ≠ some .b ∧ (∀ k, Instr.readCurrent .b ≠ .takeCommand k) ∧
      (∀ k, Instr.readCurrent .b ≠ .setNoticeMask k) ∧ ∃ t, exec (.readCurrent .b) (onB .readCurrent [] roof) = .next t :=
  ⟨rfl, by decide +kernel, by simp, by simp, exec_answers_next _ _⟩

theorem witness_TransmitterFollowsItsTable :
    let s (tx : Transmitter) (ready : Option (List Byte)) (notice : Bool) : State :=
      { roof with fnu := { roof.fnu with notice := ⟨notice, false⟩ } }.updLink .a (fun x => { x with tx := tx, ready := ready })
    let met (tx : Transmitter) (ready : Option (List Byte)) (notice : Bool) : Prop := (s tx ready notice).inReset = false ∧
      ((s tx ready notice).linkOf .a).tx = tx ∧ (s tx ready notice).lif.resetDue ≠ some .a ∧
      ((s tx ready notice).linkOf .a).ready = ready ∧ (s tx ready notice).fnu.notice.get .a = notice
    (met (.reply [1]) (some [2]) true ∧ met (.reply [1]) none false ∧ met (.reply [1]) none true) ∧
    (met (.notice [1]) (some [2]) true ∧ met (.notice [1]) none false ∧ met (.notice [1]) none true) ∧
    met .idle none true := by decide +kernel

/-- A TAKE_COMMAND on LINK B against a holder. -/
def taking (b : Byte) (sel : SelLevel) (h : Option Link) (prio : Option Nat) (hLive serving : Bool) : State :=
  (onB .takeCommand [b] { roof with lif := { roof.lif with
    sel := ⟨sel, sel, none⟩, selInForce := sel, holder := h, prio := prio } }).updLink .a (fun x => { x with live := hLive, serving := serving })

theorem witness_TakeCommandByItsTable :
    (let s := taking 1 .low (some .a) none true false
     s.Starts .b .takeCommand [1] ∧ s.lif.sel.acc ≠ .opened) ∧
    (let s := taking 0 .opened (some .a) (some 1) true false
     s.Starts .b .takeCommand [0] ∧ s.lif.sel.acc = .opened ∧ (0 : Byte).toNat < 1) ∧
    (let s := taking 8 .opened (some .a) (some 1) true false
     s.Starts .b .takeCommand [8] ∧ s.lif.sel.acc = .opened ∧ 7 < (8 : Byte).toNat) ∧
    (let s := taking 1 .opened (some .b) (some 7) true false
     s.Starts .b .takeCommand [1] ∧ s.lif.sel.acc = .opened ∧ 1 ≤ (1 : Byte).toNat ∧ (1 : Byte).toNat ≤ 7 ∧ s.lif.holder = some .b) ∧
    (let s := taking 7 .opened (some .a) (some 7) true false
     s.Starts .b .takeCommand [7] ∧ s.lif.sel.acc = .opened ∧ 1 ≤ (7 : Byte).toNat ∧ (7 : Byte).toNat ≤ 7 ∧ s.lif.holder ≠ some .b ∧
       ¬ (s.lif.holder = none ∨ (∃ h, s.lif.holder = some h ∧ (s.linkOf h).live = false) ∨ s.lif.prio.getD 0 < (7 : Byte).toNat)) ∧
    (let s := taking 7 .opened (some .a) (some 6) true true
     s.Starts .b .takeCommand [7] ∧ s.lif.sel.acc = .opened ∧ s.lif.holder ≠ some .b ∧ s.lif.prio.getD 0 < (7 : Byte).toNat ∧
       (s.linkOf Link.b.other).serving = true) ∧
    (let s := taking 1 .opened none none false false
     s.Starts .b .takeCommand [1] ∧ s.lif.sel.acc = .opened ∧ s.lif.holder ≠ some .b ∧ s.lif.holder = none ∧
       (s.linkOf Link.b.other).serving = false ∧ s.lif.selInForce = .opened ∧ s.lif.passDeferred = false) ∧
    (let s := taking 1 .opened (some .a) (some 7) false false
     s.Starts .b .takeCommand [1] ∧ s.lif.sel.acc = .opened ∧ s.lif.holder ≠ some .b ∧
       (∃ h, s.lif.holder = some h ∧ (s.linkOf h).live = false) ∧
       (s.linkOf Link.b.other).serving = false ∧ s.lif.selInForce = .opened ∧ s.lif.passDeferred = false) := by
  refine ⟨⟨starts_of ?_, ?_⟩, ⟨starts_of ?_, ?_⟩, ⟨starts_of ?_, ?_⟩, ⟨starts_of ?_, ?_⟩, ⟨starts_of ?_, ?_, ?_, ?_, ?_, ?_⟩,
    ⟨starts_of ?_, ?_⟩, ⟨starts_of ?_, ?_⟩, starts_of ?_, ?_, ?_, ⟨.a, ?_⟩, ?_⟩
  case refine_14 => rintro (h | ⟨h, h1, h2⟩ | h) <;> revert h <;> decide +kernel
  all_goals decide +kernel

theorem witness_CommandChangesTakeEffect :
    let a (serving : Bool) (f : Lif → Lif) : State := { pair serving with lif := f (pair serving).lif }
    let noneServes (s : State) : Prop := ∀ l, (s.linkOf l).serving = false
    (let s := a false (fun x => { x with sel := ⟨.high, .opened, some 0⟩ })
     s.inReset = false ∧ s.lif.take = none ∧ s.lif.pass = none ∧ s.lif.passDeferred = false ∧ s.lif.sel.raw = .high ∧
       s.lif.sel.wait.isSome = true ∧ s.lif.selChange = none ∧ SelLevel.high ≠ s.lif.selInForce ∧ noneServes s) ∧
    (let s := a true (fun x => { x with sel := ⟨.low, .opened, some 0⟩ })
     s.inReset = false ∧ s.lif.take = none ∧ s.lif.pass = none ∧ s.lif.passDeferred = false ∧ s.lif.sel.raw = .low ∧
       s.lif.sel.wait.isSome = true ∧ s.lif.selChange = none ∧ SelLevel.low ≠ s.lif.selInForce ∧ ∃ l, (s.linkOf l).serving = true) ∧
    (let s := a false (fun x => { x with selChange := some .low })
     s.lif.take = none ∧ s.lif.pass = none ∧ s.lif.passDeferred = false ∧ s.lif.selChange = some .low ∧ noneServes s) ∧
    (let s := a true (fun x => { x with selChange := some .high })
     s.lif.take = none ∧ s.lif.pass = none ∧ s.lif.passDeferred = false ∧ s.lif.selChange = some .high ∧ ∃ l, (s.linkOf l).serving = true) ∧
    (let s := a false (fun x => { x with take := some (.b, 7) })
     s.lif.selChange = none ∧ s.lif.passDeferred = false ∧ s.lif.take = some (.b, 7) ∧ s.lif.pass = none ∧ s.lif.selInForce = .opened ∧
       (s.linkOf Link.b.other).serving = false ∧ s.lif.holder ≠ some .b) ∧
    (let s := a true (fun x => { x with take := some (.b, 7) })
     s.lif.selChange = none ∧ s.lif.passDeferred = false ∧ s.lif.take = some (.b, 7) ∧ (s.linkOf Link.b.other).serving = true) ∧
    (let s := (a false (fun x => { x with pass := some .b })).updLink .a (fun x => { x with live := false })
     s.lif.selChange = none ∧ s.lif.passDeferred = false ∧ s.lif.take = none ∧ s.lif.pass = some .b ∧ noneServes s ∧
       s.lif.holder = some .a ∧ (s.linkOf .a).live = false ∧ (s.linkOf .b).live = true) ∧
    (let s := a false (fun x => { x with pass := some .b })
     s.lif.selChange = none ∧ s.lif.passDeferred = false ∧ s.lif.take = none ∧ s.lif.pass = some .b ∧ noneServes s ∧
       s.lif.holder = some .a ∧ (s.linkOf .a).live = true) := by
  refine ⟨⟨?_, ?_, ?_, ?_, ?_, ?_, ?_, ?_, fun l => ?_⟩, ⟨?_, ?_, ?_, ?_, ?_, ?_, ?_, ?_, .a, ?_⟩, ⟨?_, ?_, ?_, ?_, fun l => ?_⟩,
    ⟨?_, ?_, ?_, ?_, .a, ?_⟩, ?_, ?_, ⟨?_, ?_, ?_, ?_, fun l => ?_, ?_⟩, ?_, ?_, ?_, ?_, fun l => ?_, ?_⟩
  all_goals first | decide +kernel | (cases l <;> decide +kernel)

theorem witness_CommandChangesTakeEffect_together :
    let a (f : Lif → Lif) : State := { pair false with lif := f (pair false).lif }
    let silent (l : Link) (s : State) : State := s.updLink l (fun x => { x with live := false })
    let noneServes (s : State) : Prop := (s.linkOf .a).serving = false ∧ (s.linkOf .b).serving = false
    (let s := a (fun x => { x with sel := ⟨.opened, .high, some 0⟩, selChange := some .high })
     s.inReset = false ∧ s.lif.take = none ∧ s.lif.sel.raw = .opened ∧ s.lif.sel.wait.isSome = true ∧ s.lif.selInForce = .opened) ∧
    (∀ lvl ∈ [SelLevel.low, .high, .opened],
      let s := a (fun x => { x with sel := ⟨lvl, lvl, none⟩, selInForce := .high, selChange := some lvl, passDeferred := true })
      s.lif.take = none ∧ s.lif.selChange = some lvl ∧ s.lif.pass = none ∧ noneServes s ∧ s.lif.passDeferred = true ∧
        s.lif.sel.acc = lvl ∧ s.lif.holder = some .a ∧ (s.linkOf .a).live = true ∧
        ((silent .a s).linkOf .a).live = false ∧ ((silent .a s).linkOf .b).live = true) ∧
    (∀ c ∈ [none, some SelLevel.opened, some .low, some .high],
      let s := a (fun x => { x with take := some (.b, 7), selChange := c })
      s.inReset = false ∧ s.lif.take = some (.b, 7) ∧ s.lif.pass = none ∧ (s.linkOf Link.b.other).serving = false ∧
        s.lif.passDeferred = false ∧ s.lif.selChange.getD s.lif.selInForce = c.getD .opened) ∧
    (let s := (a (fun x => { x with take := some (.b, 1), passDeferred := true })).updLink .b (fun x => { x with serving := true })
     s.lif.take = some (.b, 1) ∧ s.lif.pass = none ∧ (s.linkOf Link.b.other).serving = false ∧ (s.linkOf .b).serving = true ∧
       s.lif.passDeferred = true ∧ s.lif.selChange = none ∧ s.lif.selInForce = .opened ∧ s.lif.sel.acc = .opened ∧
       (s.linkOf .b).live = true ∧ ((silent .b s).linkOf .b).live = false ∧ ((silent .b s).linkOf Link.b.other).live = true) ∧
    (let s := silent .b (silent .a (a (fun x => { x with pass := some .b })))
     s.lif.pass = some .b ∧ s.lif.holder = some .a ∧ (s.linkOf .b).live = false ∧ noneServes s) ∧
    (let s := { pair true with lif := { (pair true).lif with pass := some .b } }
     s.lif.take = none ∧ s.lif.selChange = none ∧ s.lif.passDeferred = false ∧ s.lif.pass = some .b ∧ (s.linkOf .a).serving = true) := by
  decide +kernel

theorem witness_SilenceExpiryBySupervision :
    ((pair false).inReset = false ∧ ((pair false).linkOf .a).silence.isSome = true ∧ (pair false).lif.holder = some .a ∧
      (pair false).lif.sel.acc = .opened ∧ ((pair false).linkOf Link.a.other).live = true ∧ (pair false).lif.take = none ∧
      (pair false).lif.selChange = none ∧ (pair false).lif.passDeferred = false ∧ ∀ k, ((pair false).linkOf k).serving = false) ∧
    (∃ k, ((pair true).linkOf k).serving = true) ∧
    (((pair false).linkOf .b).silence.isSome = true ∧ (pair false).lif.holder ≠ some .b) ∧
    (((pair false).updLink .b (fun x => { x with live := false })).linkOf Link.a.other).live = false ∧
    (let s : State := { pair true with lif := { (pair true).lif with selChange := some .high } }
     (s.linkOf .a).silence.isSome = true ∧ s.lif.holder = some .a ∧ s.lif.sel.acc = .opened ∧ (s.linkOf Link.a.other).live = true ∧
       s.lif.take = none ∧ s.lif.selChange.isSome = true ∧ (s.linkOf .a).serving = true) ∧
    (let s : State := { pair true with lif := { (pair true).lif with take := some (.b, 5) } }
     (s.linkOf .a).silence.isSome = true ∧ s.lif.holder = some .a ∧ s.lif.sel.acc = .opened ∧ (s.linkOf Link.a.other).live = true ∧
       s.lif.take = some (.b, 5) ∧ (s.linkOf Link.b.other).serving = true) := by
  refine ⟨⟨?_, ?_, ?_, ?_, ?_, ?_, ?_, ?_, fun k => ?_⟩, ⟨.a, ?_⟩, ?_, ?_, ?_, ?_⟩
  all_goals first | decide +kernel | (cases k <;> decide +kernel)

theorem witness_StatusReplyIs34Bytes : (onB .getStatus [] roof).Starts .b .getStatus [] := starts_of (by decide +kernel)

theorem witness_ParametersAreReadAndStored :
    ((onB .readParam [0x23] roof).Starts .b .readParam [0x23] ∧ (0x23 : Byte).toNat ≤ 0x23) ∧
    ((onB .readParam [0x24] roof).Starts .b .readParam [0x24] ∧ 0x23 < (0x24 : Byte).toNat) ∧
    ((onA .setParam [0x1B, 0, 0, 0, 0] roof).Commands .a .setParam [0x1B, 0, 0, 0, 0] ∧ (0x1B : Byte).toNat < 0x1C) ∧
    ((onA .setParam [0x1C, 255, 255, 255, 255] roof).Commands .a .setParam [0x1C, 255, 255, 255, 255] ∧
      0x1C ≤ (0x1C : Byte).toNat ∧ (0x1C : Byte).toNat ≤ 0x23) ∧
    ((onA .setParam [0x23, 0, 0, 0, 0] roof).Commands .a .setParam [0x23, 0, 0, 0, 0] ∧ (0x23 : Byte).toNat ≤ 0x23) ∧
    ((onA .setParam [0x24, 0, 0, 0, 0] roof).Commands .a .setParam [0x24, 0, 0, 0, 0] ∧ 0x23 < (0x24 : Byte).toNat) ∧
    (running.lif.paramLaw ∧ ∃ t, step { running with pending := [.auxMade] } = .next t) :=
  ⟨⟨starts_of (by decide +kernel), by decide⟩, ⟨starts_of (by decide +kernel), by decide⟩, ⟨commands_of (by decide +kernel), by decide⟩,
    ⟨commands_of (by decide +kernel), by decide⟩, ⟨commands_of (by decide +kernel), by decide⟩, ⟨commands_of (by decide +kernel), by decide⟩,
    ⟨by decide +kernel, by decide +kernel⟩, step_answers_next _⟩

/-! ### Position -/

theorem witness_ReportReplacesTheEstimate :
    let p (u : Nat) : List Byte := toBE 4 4294967295 ++ toBE 2 65535 ++ toBE 2 u
    let s (st : PosStatus) : State := { roof with pe := { at_ 1000 1 0 0 with status := st } }
    ((onA .reportPosition (p 10000) (s .noFix)).Commands .a .reportPosition (p 10000)) ∧
    ((onA .reportPosition (p 10001) (s .valid)).Commands .a .reportPosition (p 10001) ∧ (s .valid).pe.status ≠ .noFix ∧
      (s .valid).pe.u + 1000 < (signedDiff 4294967295 (s .valid).pe.e).natAbs) ∧
    (let t := State.storeParam 0x0D 10000 (s .coasting)
     (onA .reportPosition (p 10001) t).Commands .a .reportPosition (p 10001) ∧ t.lostUnc ≤ min 10000 10001 ∧ t.pe.status ≠ .lost) :=
  ⟨commands_of (by decide +kernel), ⟨commands_of (by decide +kernel), by decide +kernel, by decide +kernel⟩,
    commands_of (by decide +kernel), by decide +kernel, by decide +kernel⟩

theorem witness_RefreshDeadReckons :
    (roof.inReset = false ∧ roof.pe.status = .noFix) ∧ (queued.inReset = false ∧ queued.pe.status ≠ .noFix) ∧
    (let s : State := { queued with pe := at_ 0 12000 10000 5001 }
     s.inReset = false ∧ s.pe.status ≠ .noFix ∧ 5000 < s.pe.age / 1000 ∧ s.pe.status ≠ .lost) := by decide +kernel

theorem witness_UncertaintyFallsOnlyAtReports :
    let s : State := { onA .reportPosition (toBE 4 0 ++ toBE 2 0 ++ toBE 2 199) queued with pending := [.reportPosition .a] }
    let u : State := { queued with pending := [.auxMade] }
    (s.pe.rangeLaw ∧ s.pe.growthLaw ∧ ∃ t, step s = .next t ∧ t.pe.u < s.pe.u) ∧
    (u.pe.rangeLaw ∧ u.pe.growthLaw ∧ (∃ t, step u = .next t) ∧ u.pending.head? = some Instr.auxMade) :=
  ⟨⟨by unfold Pe.rangeLaw; decide +kernel, by unfold Pe.growthLaw; decide +kernel, _, rfl, by decide +kernel⟩,
    by unfold Pe.rangeLaw; decide +kernel, by unfold Pe.growthLaw; decide +kernel, step_answers_next _, by decide +kernel⟩

theorem witness_ReverseTurnsTheTrain :
    ((onA .reverse [] queued).Commands .a .reverse [] ∧ (onA .reverse [] queued).pe.v ≠ 0) ∧
    (let s := onA .reverse [] { boundary .active 1000 0 200 0 with psq := planned .active (some .ramp) }
     s.Commands .a .reverse [] ∧ s.pe.v = 0 ∧ ∃ e ∈ s.teq.entries, e.status = .active) :=
  ⟨⟨commands_of (by decide +kernel), by decide +kernel⟩, commands_of (by decide +kernel), by decide +kernel, by decide +kernel⟩

/-! ### Queue -/

theorem witness_PostEventInsertsTheEntry :
    let met (p : List Byte) (k : Kind) : Prop :=
      let s := onA .postEvent p queued
      let e : Entry := ⟨p.getD 0 0, k, BitVec.ofNat 32 (be ((p.drop 2).take 4)), be ((p.drop 6).take 4), .queued⟩
      s.teq.entries.length < 16 ∧ (∀ o ∈ s.teq.entries, o.tag ≠ e.tag) ∧
      kindOf (p.getD 1 0).toNat (p.getD 10 0).toNat (p.getD 11 0).toNat (p.getD 12 0).toNat = some k ∧
      100 ≤ e.len ∧ e.len ≤ 300000 ∧ s.pe.status ≠ .noFix ∧ 0 < signedDiff e.start s.pe.e ∧ signedDiff e.start s.pe.e ≤ 10000000 ∧
      (k.isSection = true → ∀ o ∈ s.teq.entries, o.kind.isSection = true → o.held = true → 0 ≤ signedDiff e.start o.start) ∧
      (∀ o ∈ s.teq.entries, o.kind.isSection = k.isSection →
        (o.len : Int) ≤ signedDiff e.start o.start ∨ (e.len : Int) ≤ signedDiff o.start e.start)
    ((onA .postEvent (post 3 2 10640000 100 0 0 0) queued).Commands .a .postEvent (post 3 2 10640000 100 0 0 0) ∧
      met (post 3 2 10640000 100 0 0 0) .lower) ∧
    ((onA .postEvent (post 255 3 20000000 300000 0 0 3) queued).Commands .a .postEvent (post 255 3 20000000 300000 0 0 3) ∧
      met (post 255 3 20000000 300000 0 0 3) (.iceZone 3)) ∧
    ((onA .postEvent (post 0 0 10000001 100 0 1 0) queued).Commands .a .postEvent (post 0 0 10000001 100 0 1 0) ∧
      met (post 0 0 10000001 100 0 1 0) (.neutral true)) ∧
    (queued.teq.entries.Pairwise (fun a b => goesAfter queued.pe.e a b = false) ∧ queued.teq.entries ≠ []) :=
  ⟨⟨commands_of (by decide +kernel), by decide +kernel⟩, ⟨commands_of (by decide +kernel), by decide +kernel⟩,
    ⟨commands_of (by decide +kernel), by decide +kernel⟩, by decide +kernel, by decide +kernel⟩

theorem witness_PostEventRefusalsInOrder :
    let status (p : List Byte) (s : State) : Nat :=
      let start : Pos := BitVec.ofNat 32 (be ((p.drop 2).take 4))
      let len := be ((p.drop 6).take 4)
      let dist := signedDiff start s.pe.e
      if s.teq.entries.length ≥ 16 then 0x07
      else if ∃ o ∈ s.teq.entries, o.tag = p.getD 0 0 then 0x0B
      else match kindOf (p.getD 1 0).toNat (p.getD 10 0).toNat (p.getD 11 0).toNat (p.getD 12 0).toNat with
        | none => 0x04
        | some k =>
          if len < 100 ∨ 300000 < len then 0x04
          else if s.pe.status = .noFix ∨ dist ≤ 0 ∨ (k.isSection = true ∧ ∃ o ∈ s.teq.entries, o.kind.isSection = true ∧
            (o.status = .armed ∨ o.status = .active) ∧ signedDiff start o.start < 0) then 0x09
          else if 10000000 < dist then 0x0A
          else if ∃ o ∈ s.teq.entries, o.kind.isSection = k.isSection ∧ signedDiff start o.start < (o.len : Int) ∧
            signedDiff o.start start < (len : Int) then 0x08
          else 0x00
    let met (p : List Byte) (s : State) (n : Nat) : Prop := (onA .postEvent p s).Commands .a .postEvent p ∧ status p (onA .postEvent p s) = n
    let full : State := { queued with teq := { queued.teq with
      entries := (List.range 16).map (fun i => ⟨BitVec.ofNat 8 i, .lower, BitVec.ofNat 32 (10001000 + 100 * i), 100, .queued⟩) } }
    let armed : State := { queued with teq := { queued.teq with entries := [⟨7, .lower, 10600000, 100, .armed⟩] } }
    met (post 3 2 10640000 100 0 0 0) full 0x07 ∧ met (post 7 2 25000000 1000 0 0 0) queued 0x0B ∧
    met (post 3 4 10640000 100 0 0 0) queued 0x04 ∧ met (post 3 3 10640000 100 0 0 4) queued 0x04 ∧
    met (post 3 2 10640000 99 0 0 0) queued 0x04 ∧ met (post 3 2 10640000 300001 0 0 0) queued 0x04 ∧
    met (post 3 2 10640000 100 0 0 0) { queued with pe := { queued.pe with status := .noFix } } 0x09 ∧
    met (post 3 2 10000000 100 0 0 0) queued 0x09 ∧ met (post 3 2 10599999 100 0 0 0) armed 0x09 ∧
    met (post 3 2 20000001 100 0 0 0) queued 0x0A ∧ met (post 3 2 10639999 100 0 0 0) queued 0x08 := by
  refine ⟨⟨commands_of ?_, ?_⟩, ⟨commands_of ?_, ?_⟩, ⟨commands_of ?_, ?_⟩, ⟨commands_of ?_, ?_⟩, ⟨commands_of ?_, ?_⟩,
    ⟨commands_of ?_, ?_⟩, ⟨commands_of ?_, ?_⟩, ⟨commands_of ?_, ?_⟩, ⟨commands_of ?_, ?_⟩, ⟨commands_of ?_, ?_⟩, commands_of ?_, ?_⟩ <;>
    decide +kernel

theorem witness_CancelAndResumeByTheirTables :
    ((onA .cancelEvent [8] queued).Commands .a .cancelEvent [8] ∧ ∀ e ∈ (onA .cancelEvent [8] queued).teq.entries, e.tag ≠ 8) ∧
    (let s := onA .cancelEvent [40] (boundary .active 1000 0 200 0)
     s.Commands .a .cancelEvent [40] ∧ ∃ e, s.teq.entries.find? (fun o => o.tag == 40) = some e ∧ e.status = .active) ∧
    (let s := onA .cancelEvent [7] queued
     s.Commands .a .cancelEvent [7] ∧ ∃ e, s.teq.entries.find? (fun o => o.tag == 7) = some e ∧ e.status ≠ .active) ∧
    ((onA .resumeQueue [] queued).Commands .a .resumeQueue [] ∧ (onA .resumeQueue [] queued).teq.halted = false) ∧
    (let s := onA .resumeQueue [] { queued with teq := { queued.teq with halted := true } }
     s.Commands .a .resumeQueue [] ∧ s.teq.halted = true) :=
  ⟨⟨commands_of (by decide +kernel), by decide +kernel⟩, ⟨commands_of (by decide +kernel), _, rfl, by decide +kernel⟩,
    ⟨commands_of (by decide +kernel), _, rfl, by decide +kernel⟩, ⟨commands_of (by decide +kernel), by decide +kernel⟩,
    commands_of (by decide +kernel), by decide +kernel⟩

theorem witness_CloseFormsTheRecord :
    let s : State := { boundary .active 1000 0 200 0 with psq := { planned .active (some .confirm) with seqHeld := true } }
    (∃ e ∈ s.teq.entries, e.held = true ∧ e.kind.isSection = true) ∧ s.psq.seqHeld = true ∧
    (let e : Entry := ⟨40, .boundary .a16, 4294900000, 80000, .active⟩
     let ends (u : State) : Prop := e ∈ u.teq.entries ∧ u.cs.hold = true ∧ (u.closeEntry e .done (some .confirm)).teq.anyHeld = false
     let pend (p : Option Target) (u : State) : State := { u with cs := { u.cs with pend := p } }
     (ends s ∧ s.cs.pend = none) ∧ (ends (pend (some t2) s) ∧ s.cs.current = t2) ∧ (ends (pend (some t1) s) ∧ t1 ≠ s.cs.current) ∧
       ¬ ends { s with cs := { s.cs with hold := false } }) ∧
    (∃ e ∈ queued.teq.entries, e.held = false) := by decide +kernel

theorem witness_QueueReadoutBytes :
    let s : State := { queued with teq := { queued.teq with closed := List.replicate 8 ⟨3, .lower, .done, none, 0⟩ } }
    ((onB .readQueue [16] s).Starts .b .readQueue [16] ∧ 15 < (16 : Byte).toNat) ∧
    ((onB .readQueue [15] s).Starts .b .readQueue [15] ∧ (15 : Byte).toNat ≤ 15) ∧
    ((onB .readClosed [8] s).Starts .b .readClosed [8] ∧ 7 < (8 : Byte).toNat) ∧
    ((onB .readClosed [7] queued).Starts .b .readClosed [7] ∧ (7 : Byte).toNat ≤ 7 ∧ (onB .readClosed [7] queued).teq.closed[(7 : Byte).toNat]? = none) ∧
    ((onB .readClosed [7] s).Starts .b .readClosed [7] ∧ ∃ r, (onB .readClosed [7] s).teq.closed[(7 : Byte).toNat]? = some r) :=
  ⟨⟨starts_of (by decide +kernel), by decide⟩, ⟨starts_of (by decide +kernel), by decide⟩, ⟨starts_of (by decide +kernel), by decide⟩,
    ⟨starts_of (by decide +kernel), by decide, by decide +kernel⟩, starts_of (by decide +kernel), _, rfl⟩

theorem witness_RefreshLeavesNothingPassed :
    let zone (st : EntryStatus) : Entry := ⟨12, .iceZone 2, 10150000, 300000, st⟩
    let s (st : EntryStatus) (e : Pos) : State := { queued with
      pe := { queued.pe with e := e }
      teq := { queued.teq with entries := zone st :: queued.teq.entries.tail } }
    let leave (x : State) : Prop := 0 ≤ signedDiff x.pe.e ((10150000 : Pos) + BitVec.ofNat 32 (300000 + x.trainLength))
    let near (x : State) : Prop := 0 ≤ signedDiff x.pe.e ((10150000 : Pos) - BitVec.ofNat 32 x.iceLead)
    let inside (x : State) : Prop := ∃ o ∈ x.teq.entries, o.status = .inside
    (queued.inReset = false ∧ queued.pe.status ≠ .noFix ∧ ∃ t, exec .positionRefresh queued = .next t ∧ t.teq.entries ≠ [] ∧
      (∃ e ∈ queued.teq.entries, e.kind.isSection = false ∧ e.status = .queued ∧
        signedDiff t.pe.e (e.start.plus (e.len + queued.trainLength)) < 0 ∧ 0 ≤ signedDiff t.pe.e (e.start.minus queued.iceLead)) ∧
      ∀ o ∈ queued.teq.entries, o.status ≠ .inside) ∧
    (zone .queued).kind.isSection = false ∧
    (leave (s .inside 10490000) ∧ (zone .inside).status = .inside) ∧ (leave (s .queued 10490000) ∧ (zone .queued).status ≠ .inside) ∧
    (¬ leave (s .queued 9950000) ∧ near (s .queued 9950000) ∧ ¬ inside (s .queued 9950000)) ∧
    (¬ leave (s .queued 9949999) ∧ ¬ near (s .queued 9949999)) ∧ (¬ leave (s .inside 10489999) ∧ inside (s .inside 10489999)) := by
  refine ⟨⟨by decide +kernel, by decide +kernel, _, rfl, ?_, ?_, ?_⟩, ?_⟩ <;> decide +kernel

theorem witness_QueueLawsKept :
    let held : State := boundary .active 1000 0 200 0
    (queued.teq.law ∧ queued.teq.entries ≠ [] ∧ (∃ t, step { queued with pending := [.positionRefresh] } = .next t) ∧
      (∀ e ∈ queued.teq.entries, (signedDiff e.start queued.pe.e).natAbs ≤ 1000000000) ∧ queued.teq.placeLaw) ∧
    (held.teq.law ∧ (∃ e ∈ held.teq.entries, e.held = true) ∧ (∃ t, step { held with pending := [.positionRefresh] } = .next t) ∧
      (∀ e ∈ held.teq.entries, (signedDiff e.start held.pe.e).natAbs ≤ 1000000000) ∧ held.teq.placeLaw) := by
  refine ⟨⟨?_, by decide +kernel, step_answers_next _, by decide +kernel, ?_⟩, ?_, by decide +kernel, step_answers_next _,
    by decide +kernel, ?_⟩
  all_goals
    first
      | unfold Teq.law Teq.countersLaw Teq.sizeLaw Teq.disjointLaw Teq.insideLaw Teq.entryLaw; decide +kernel
      | unfold Teq.placeLaw Teq.orderLaw Teq.heldLaw; decide +kernel

/-! ### Line -/

theorem witness_ClassesAreConfirmedByThree :
    499 < 500 ∧ 500 ≤ 500 ∧ (19000 ≤ 21000 ∧ 17500 ≤ 29000) ∧ (56000 ≤ 64000 ∧ 11000 ≤ 18000) ∧ (2000 ≤ 3900 ∧ 1000 ≤ 1950) ∧
    (let x := window true 59880 15400 .unknown .none 1
     let sampled (y : Lsu) : Lsu := { y with accN := 1, accSum := 15400, accSq := 15400 * 15400 }
     let y1 := (x.complete none (some 59880)).newWindow true
     let y2 := ((sampled y1).complete none (some 59880)).newWindow true
     let y3 := (sampled y2).complete none (some 59880)
     x.candCount ≤ 1 ∧ x.cand ≠ some (.sys .a16) ∧ y1.last.map (fun w => w.cls) = some (.sys .a16) ∧
       y2.last.map (fun w => w.cls) = some (.sys .a16) ∧ y3.last.map (fun w => w.cls) = some (.sys .a16)) := by decide +kernel

theorem witness_WindowsCompleteByTheRules :
    let s (anchored : Bool) (since : Nat) : State := { roof with lsu := { window anchored 2000 40000 .none .none 3 with sinceCross := since } }
    ((s true 2000).inReset = false ∧ (s true 2000).lsu.accSq ≤ (s true 2000).lsu.accN * 1600000000) ∧
    (s true 1999).lsu.sinceCross < 2000 ∧ (2000 ≤ (s true 2000).lsu.sinceCross ∧ (s true 2000).lsu.anchored = true) ∧
    (2000 ≤ (s false 2000).lsu.sinceCross ∧ (s false 2000).lsu.anchored = false) ∧
    (let u : State := { boundary .active 51000 8333 200 0 with psq := planned .active (some .confirm), lsu := window true 0 140 .none (.sys .a50) 2 }
     u.psq.phase = .active ∧ u.psq.step = some .confirm ∧ u.psq.confirmTimer = none ∧
       (u.windowComplete none false).lsu.confirmed ≠ u.lsu.confirmed ∧ (u.windowComplete none false).psq.confirmTimer = some 3000000) := by
  decide +kernel

/-! ### Readouts -/

theorem witness_PositionAndLineReplyBytes :
    (onB .readPosition [] running).Starts .b .readPosition [] ∧ (onB .readLine [] running).Starts .b .readLine [] :=
  ⟨starts_of (by decide +kernel), starts_of (by decide +kernel)⟩

theorem witness_SlotRuleAndTargetReplyBytes :
    ((onB .readSlot [4] running).Starts .b .readSlot [4] ∧ 3 < (4 : Byte).toNat) ∧
    ((onB .readSlot [3] running).Starts .b .readSlot [3] ∧ (3 : Byte).toNat = SlotId.ps3.num) ∧
    ((onB .readRule [48] running).Starts .b .readRule [48] ∧ 47 < (48 : Byte).toNat) ∧
    ((onB .readRule [47] running).Starts .b .readRule [47] ∧ (47 : Byte).toNat ≤ 47) ∧
    (onB .readTarget [] running).Starts .b .readTarget [] :=
  ⟨⟨starts_of (by decide +kernel), by decide⟩, ⟨starts_of (by decide +kernel), by decide⟩, ⟨starts_of (by decide +kernel), by decide⟩,
    ⟨starts_of (by decide +kernel), by decide⟩, starts_of (by decide +kernel)⟩

theorem witness_BreakerAndPassageReplyBytes :
    (onB .readBreaker [] running).Starts .b .readBreaker [] ∧ (onB .readPassage [] running).Starts .b .readPassage [] :=
  ⟨starts_of (by decide +kernel), starts_of (by decide +kernel)⟩

theorem witness_IceCurrentAndFlagsReplyBytes :
    (onB .readIce [] running).Starts .b .readIce [] ∧
    ((onB .readCurrent [] running).Starts .b .readCurrent [] ∧ (onB .readCurrent [] running).lif.holder ≠ some .b) ∧
    ((onA .readCurrent [] running).Starts .a .readCurrent [] ∧ (onA .readCurrent [] running).lif.holder = some .a) ∧
    (onB .getFlags [] running).Starts .b .getFlags [] :=
  ⟨starts_of (by decide +kernel), ⟨starts_of (by decide +kernel), by decide +kernel⟩, ⟨starts_of (by decide +kernel), by decide +kernel⟩,
    starts_of (by decide +kernel)⟩

/-! ### Pantographs -/

theorem witness_RawLevelStartsTheWait : roof.inReset = false := by decide +kernel

/-- The roof with PS3's record changed. -/
def ps3 (f : Slot → Slot) : State := slotIs .ps3 f roof

theorem witness_DownSwitchEvents :
    let made (st : SlotState) (f : Slot → Slot) : State := ps3 (fun x => f { x with state := st, down := due true })
    let opens (st : SlotState) : State := ps3 (fun x => { x with state := st, down := due false })
    let retry (x : Slot) : Prop :=
      x.retryPending = true ∧ x.tRole ≠ .stow ∧ x.hold = .none ∧ (x.roleDue = false ∨ x.dsc.cmd = decide (x.tRole = .collect))
    (let x := (made .lowering (fun x => { x with retryPending := true, tRole := .sweep })).slots.get .ps3
     x.down.due true ∧ x.state = .lowering ∧ retry x) ∧
    (let x := (made .lowering id).slots.get .ps3
     x.down.due true ∧ x.state = .lowering ∧ ¬ retry x) ∧
    (let x := (made .lowering (fun x => { x with retryPending := true, tRole := .collect })).slots.get .ps3
     x.down.due true ∧ x.state = .lowering ∧ x.dsc.cmd = false ∧ retry x) ∧
    (let x := (made .lowering (fun x => { x with retryPending := true, tRole := .collect, roleDue := true })).slots.get .ps3
     x.down.due true ∧ x.state = .lowering ∧ x.dsc.cmd = false ∧ ¬ retry x) ∧
    (∀ st ∈ [SlotState.dropped, .locked], (made st id).inReset = false ∧ ((made st id).slots.get .ps3).down.due true ∧
      ((made st id).slots.get .ps3).state = st) ∧
    (((made .raising id).slots.get .ps3).down.due true ∧ ((made .raising id).slots.get .ps3).state ∉ [SlotState.lowering, .dropped, .locked]) ∧
    (∀ st ∈ [SlotState.down, .retryWait, .locked], (opens st).inReset = false ∧ ((opens st).slots.get .ps3).down.due false ∧
      ((opens st).slots.get .ps3).state = st) ∧
    (((opens .disabled).slots.get .ps3).down.due false ∧ ((opens .disabled).slots.get .ps3).state ∉ [SlotState.down, .retryWait, .locked]) := by
  unfold Filter.due; decide +kernel

theorem witness_ContactAndAutodropEvents :
    let s (st : SlotState) (f : Slot → Slot) : State := ps3 (fun x => f { x with state := st })
    let x (st : SlotState) (f : Slot → Slot) : Slot := (s st f).slots.get .ps3
    (s .up id).inReset = false ∧
    (let y := x .raising (fun x => { x with contact := due true }); y.contact.due true ∧ y.state = .raising) ∧
    (let y := x .up (fun x => { x with contact := due true, contactLoss := some 1 })
     y.contact.due true ∧ y.state = .up ∧ y.contactLoss.isSome = true) ∧
    (let y := x .down (fun x => { x with contact := due true })
     y.contact.due true ∧ y.state ≠ .raising ∧ ¬ (y.state = .up ∧ y.contactLoss.isSome = true)) ∧
    (x .up (fun x => { x with contact := due false })).contact.due false ∧
    (let y := x .up (fun x => { x with add := due true, down := .at false })
     y.add.due true ∧ y.state ∈ [SlotState.raising, .up, .lowering] ∧ y.down.acc = false) ∧
    (let y := x .raising (fun x => { x with add := due true })
     y.add.due true ∧ y.state ∈ [SlotState.raising, .up, .lowering] ∧ y.down.acc = true) ∧
    (let y := x .locked (fun x => { x with add := due true, down := .at false }); y.add.due true ∧ y.state = .locked ∧ y.housed = false) ∧
    (let y := x .locked (fun x => { x with add := due true }); y.add.due true ∧ y.state = .locked ∧ y.housed = true) ∧
    (let y := x .dropped (fun x => { x with add := due true }); y.add.due true ∧ y.state ∈ [SlotState.disabled, .down, .dropped, .retryWait]) ∧
    (let y := x .retryWait (fun x => { x with add := due false }); y.add.due false ∧ y.state = .retryWait ∧ y.retry = none) ∧
    (let y := x .retryWait (fun x => { x with add := due false, retry := some 1 })
     y.add.due false ∧ y.state ≠ .down ∧ ¬ (y.state = .retryWait ∧ y.retry = none)) := by
  unfold Filter.due; decide +kernel

theorem witness_DisconnectorEvents :
    let x (en : Bool) (st : SlotState) (d : DscState) (f : Slot → Slot) : Slot :=
      (ps3 (fun x => f { x with enabled := en, state := st, dsc := ⟨d, decide (d = .closing ∨ d = .closed), some 1⟩ })).slots.get .ps3
    let made (x : Slot) : Slot := { x with dsf := due true }
    let released (x : Slot) : Slot := { x with dsf := due false }
    (ps3 id).inReset = false ∧
    ((x true .down .closing made).dsf.due true ∧ (x true .down .closing made).dsc.state = .closing) ∧
    ((x false .disabled .opened made).dsf.due true ∧ (x false .disabled .opened made).dsc.state = .opened ∧ (x false .disabled .opened made).enabled = false) ∧
    ((x true .locked .opened made).dsf.due true ∧ (x true .locked .opened made).enabled = true ∧ (x true .locked .opened made).state = .locked) ∧
    ((x true .up .opened made).dsf.due true ∧ (x true .up .opened made).enabled = true ∧ (x true .up .opened made).state ≠ .locked) ∧
    ((x true .down .failed made).dsf.due true ∧ (x true .down .failed made).dsc.state ∈ [DscState.closed, .opening, .failed]) ∧
    ((x true .down .opening released).dsf.due false ∧ (x true .down .opening released).dsc.state = .opening) ∧
    ((x true .up .closed released).dsf.due false ∧ (x true .up .closed released).dsc.state = .closed) ∧
    ((x true .down .closing released).dsf.due false ∧ (x true .down .closing released).dsc.state ∈ [DscState.opened, .closing, .failed]) ∧
    ((x true .down .closing id).dsc.travel.isSome = true ∧ (x true .down .opening id).dsc.travel.isSome = true) := by
  unfold Filter.due; decide +kernel

theorem witness_SlotTimerEvents :
    let x (st : SlotState) (f : Slot → Slot) : Slot := (ps3 (fun x => f { x with state := st })).slots.get .ps3
    (ps3 id).inReset = false ∧
    (let y := x .raising (fun x => { x with raise := some 0, retryCount := 1, down := .at false })
     y.raise.isSome = true ∧ y.state = .raising ∧ y.retryCount < 2 ∧ y.down.acc = false) ∧
    (∀ r ∈ [Role.stow, .collect], ∀ h ∈ [SeqHold.none, .lower],
      let y := x .raising (fun x => { x with raise := some 0, retryCount := 1, tRole := r, hold := h })
      y.raise.isSome = true ∧ y.state = .raising ∧ y.retryCount < 2 ∧ y.down.acc = true ∧ y.tRole = r ∧ y.hold = h) ∧
    (let y := x .raising (fun x => { x with raise := some 0, retryCount := 2 }); y.raise.isSome = true ∧ y.state = .raising ∧ 2 ≤ y.retryCount) ∧
    (∀ st ∈ [SlotState.lowering, .dropped, .locked],
      (x st (fun x => { x with lower := some 0 })).lower.isSome = true ∧ (x st (fun x => { x with lower := some 0 })).state = st) ∧
    (let y := x .retryWait (fun x => { x with retry := some 0, tRole := .sweep, role := .sweep })
     y.retry.isSome = true ∧ y.state = .retryWait ∧ y.canRaise = true) ∧
    (let y := x .retryWait (fun x => { x with retry := some 0, tRole := .collect })
     y.retry.isSome = true ∧ y.state = .retryWait ∧ y.canRaise = false ∧ y.role ≠ y.tRole) ∧
    (let y := x .retryWait (fun x => { x with retry := some 0, tRole := .sweep, role := .sweep, hold := .lower })
     y.retry.isSome = true ∧ y.state = .retryWait ∧ y.canRaise = false ∧ y.role = y.tRole ∧ y.dsc.state ≠ .closing ∧ y.dsc.state ≠ .opening) ∧
    (let y := x .up (fun x => { x with contactLoss := some 0, contact := .at false })
     y.contactLoss.isSome = true ∧ y.state = .up ∧ y.contact.acc = false) := by decide +kernel

theorem witness_RolesAreAppliedByTheTables :
    let x (r : Role) (d : DscState) (f : Slot → Slot) : Slot :=
      (ps3 (fun x => f { x with tRole := r, dsc := ⟨d, false, none⟩, role := if (r = .sweep ∧ d = .opened) ∨ (r = .collect ∧ d = .closed) then r else .stow })).slots.get .ps3
    let raises (x : Slot) : Prop := x.enabled = true ∧ x.tRole ≠ .stow ∧ x.role = x.tRole ∧ x.hold = .none ∧ x.add.acc = false
    ((x .sweep .closing id).dsc.state = .closing ∧ (x .sweep .opening id).dsc.state = .opening) ∧
    ((x .stow .opened id).dsc.state = .opened ∧ (x .stow .opened id).tRole = .stow) ∧
    ((x .collect .opened id).dsc.state = .opened ∧ (x .collect .opened id).tRole = .collect) ∧
    ((x .sweep .closed id).dsc.state = .closed ∧ (x .sweep .closed id).tRole ≠ .collect) ∧
    (raises (x .sweep .opened id) ∧ (x .sweep .opened id).contact.acc = false) ∧
    (let y := x .collect .closed (fun x => { x with contact := .at true }); raises y ∧ y.contact.acc = true) ∧
    ¬ raises (x .collect .closed (fun x => { x with hold := .fast })) ∧
    (x .sweep .opened (fun x => { x with down := .at false })).down.acc = false := by decide +kernel

theorem witness_RolesAreAppliedByTheTables_delivered :
    let x (st : SlotState) (r : Role) (dn : Bool) : Slot := (ps3 (fun x => { x with state := st, tRole := r, down := .at dn })).slots.get .ps3
    (∀ st ∈ [SlotState.disabled, .down, .raising, .up, .lowering, .dropped, .retryWait, .locked],
      (x st .sweep true).state = st ∧ Role.stow ≠ (x st .sweep true).tRole ∧ Role.sweep = (x st .sweep true).tRole) ∧
    ((x .retryWait .sweep true).dsc.cmd ≠ decide (Role.collect = .collect) ∧ Role.collect ≠ (x .retryWait .sweep true).tRole) ∧
    ((x .retryWait .collect true).dsc.cmd = decide (Role.sweep = .collect) ∧ Role.sweep ≠ (x .retryWait .collect true).tRole) ∧
    (SeqHold.lower ≠ .none ∧ SeqHold.fast ≠ .none) ∧
    (¬ ((x .locked .stow false).down.acc = true ∧ (x .locked .stow false).prv = 0)) ∧
    ((x .locked .stow true).down.acc = true ∧ (x .locked .stow true).prv = 0) := by decide +kernel

theorem witness_SlotRequestsByTheirTables :
    let set (b en o1 o2 m : Byte) (s : State) : Prop := (onA .setSlot [b, en, o1, o2, m] s).Commands .a .setSlot [b, en, o1, o2, m]
    let unlock (b : Byte) (s : State) : Prop := (onA .unlockSlot [b] s).Commands .a .unlockSlot [b]
    let locked (dn : Bool) : State := slotIs .ps0 (fun x => { x with state := .locked, locks := ⟨true, false, false, false⟩, down := .at dn }) roof
    (set 4 1 0 0 0 roof ∧ 3 < (4 : Byte).toNat) ∧
    (set 3 2 0 0 0 roof ∧ (3 : Byte).toNat = SlotId.ps3.num ∧ 1 < (2 : Byte).toNat) ∧
    (set 0 1 0x9C 0x41 0 roof ∧ (0 : Byte).toNat = SlotId.ps0.num ∧ 40000 < be [0x9C, 0x41]) ∧
    (set 0 1 0 0 16 roof ∧ 15 < (16 : Byte).toNat) ∧
    (set 3 1 0x9C 0x40 15 ready ∧ be [0x9C, 0x40] ≤ 40000 ∧ (15 : Byte).toNat ≤ 15 ∧
      ((onA .setSlot [3, 1, 0x9C, 0x40, 15] ready).slots.get .ps3).state ≠ .disabled ∧
      ((onA .setSlot [3, 1, 0x9C, 0x40, 15] ready).slots.get .ps3).state ≠ .down) ∧
    (set 0 1 0x9C 0x40 15 roof ∧ (1 : Byte).toNat ≤ 1 ∧ ((onA .setSlot [0, 1, 0x9C, 0x40, 15] roof).slots.get .ps0).state = .down ∧
      (∀ e ∈ (onA .setSlot [0, 1, 0x9C, 0x40, 15] roof).teq.entries, ¬ (e.status = .armed ∨ e.status = .active))) ∧
    (set 0 1 0 0 0 State.reset ∧ ((onA .setSlot [0, 1, 0, 0, 0] State.reset).slots.get .ps0).state = .disabled) ∧
    (unlock 4 roof ∧ 3 < (4 : Byte).toNat) ∧
    (unlock 3 roof ∧ (3 : Byte).toNat = SlotId.ps3.num ∧ ((onA .unlockSlot [3] roof).slots.get .ps3).state ≠ .locked) ∧
    (unlock 0 (locked false) ∧ ((onA .unlockSlot [0] (locked false)).slots.get .ps0).state = .locked ∧
      ((onA .unlockSlot [0] (locked false)).slots.get .ps0).down.acc = false) ∧
    (unlock 0 (locked true) ∧ ((onA .unlockSlot [0] (locked true)).slots.get .ps0).state = .locked ∧
      ((onA .unlockSlot [0] (locked true)).slots.get .ps0).down.acc = true) := by
  refine ⟨⟨commands_of ?_, ?_⟩, ⟨commands_of ?_, ?_⟩, ⟨commands_of ?_, ?_⟩, ⟨commands_of ?_, ?_⟩, ⟨commands_of ?_, ?_⟩, ⟨commands_of ?_, ?_⟩,
    ⟨commands_of ?_, ?_⟩, ⟨commands_of ?_, ?_⟩, ⟨commands_of ?_, ?_⟩, ⟨commands_of ?_, ?_⟩, commands_of ?_, ?_⟩ <;> decide +kernel

theorem witness_SlotLawsKept :
    let s : State := { running with pending := [.autodropTrip .ps3], slots := running.slots.set .ps3 { running.slots.ps3 with add := due true } }
    s.slotLaw ∧ ∃ t, step s = .next t ∧ (t.slots.get .ps3).state = .dropped := by
  refine ⟨fun k => ?_, _, rfl, by decide +kernel⟩
  cases k <;> decide +kernel

/-! ### Rules -/

theorem witness_SetDemandByItsTable :
    let met (c p i x : Byte) (s : State) : Prop := (onA .setDemand [c, p, i, x] s).Commands .a .setDemand [c, p, i, x]
    let valid (c p i x : Byte) : Prop := c.toNat ≤ 1 ∧ p.toNat ≤ 1 ∧ i.toNat ≤ 4 ∧ (x.toNat ≤ 4 ∨ x = 0xFF)
    let active := boundary .active 1000 0 200 0
    let starts (s : State) (d : Demand) : Prop := s.cs.demand.power = true ∧ d.power = false ∧ s.bki.state = .closed
    let off (s : State) : Demand := { s.cs.demand with power := false }
    (met 2 0 0 0 roof ∧ ¬ valid 2 0 0 0) ∧ (met 0 2 0 0 roof ∧ ¬ valid 0 2 0 0) ∧ (met 0 0 5 0 roof ∧ ¬ valid 0 0 5 0) ∧
    (met 0 0 0 5 roof ∧ ¬ valid 0 0 0 5) ∧ (met 1 1 4 4 roof ∧ valid 1 1 4 4) ∧ (met 0 0 0 0xFF active ∧ valid 0 0 0 0xFF) ∧
    (met 1 1 0 0 active ∧ valid 1 1 0 0 ∧ (∃ e ∈ active.teq.entries, e.kind.isSection = true ∧ e.status = .active) ∧
      none ≠ active.cs.demand.expected) ∧
    (let s : State := { running with csu := { running.csu with total := 81 } }
     starts s (off s) ∧ s.csu.tro = false ∧ ¬ (s.tRamp = 0 ∨ s.csu.total ≤ s.openCurrent)) ∧
    (let s : State := { running with csu := { running.csu with total := 80 } }
     starts s (off s) ∧ (s.tRamp = 0 ∨ s.csu.total ≤ s.openCurrent) ∧ s.bki.aux.acc = true) ∧
    (let s : State := { running with csu := { running.csu with total := 80 }, bki := { running.bki with aux := .at false } }
     starts s (off s) ∧ (s.tRamp = 0 ∨ s.csu.total ≤ s.openCurrent) ∧ s.bki.aux.acc = false) ∧
    (let s : State := { running with cs := { running.cs with demand := off running }, bki := { running.bki with ramp := some 1 } }
     s.cs.demand.power = false ∧ s.bki.ramp.isSome = true) ∧
    (¬ starts roof (off roof) ∧ ¬ (roof.cs.demand.power = false ∧ (off roof).power = true ∧ roof.bki.ramp.isSome = true)) := by
  refine ⟨⟨commands_of ?_, ?_⟩, ⟨commands_of ?_, ?_⟩, ⟨commands_of ?_, ?_⟩, ⟨commands_of ?_, ?_⟩, ⟨commands_of ?_, ?_⟩, ⟨commands_of ?_, ?_⟩,
    ⟨commands_of ?_, ?_⟩, ?_⟩ <;> decide +kernel

theorem witness_WriteRuleStoresAndEvaluates :
    let met (p : List Byte) : Prop := (onA .writeRule p roof).Commands .a .writeRule p
    let badSlot (b : Byte) : Prop := 16 ≤ b.toNat ∨ b.toNat % 4 = 3 ∨ b.toNat / 4 = 3
    let refused (i f o a c b0 b1 b2 b3 prof : Byte) : Prop :=
      let chained := a.toNat % 2 = 1
      47 < i.toNat ∨ 9 < f.toNat ∨ 3 < o.toNat ∨ (f.toNat = 9 ∧ ¬ chained) ∨
      (f.toNat ≠ 0 ∧ ((chained ∧ i.toNat = 47) ∨ (¬ chained ∧ (c.toNat = 0 ∨ 2 < c.toNat)) ∨
        (c.toNat = 1 ∧ (badSlot b0 ∨ badSlot b1 ∨ badSlot b2 ∨ badSlot b3 ∨ 3 < prof.toNat))))
    (met [48, 0, 0, 0, 0, 0, 0, 0, 0, 0, 0] ∧ refused 48 0 0 0 0 0 0 0 0 0) ∧
    (met [0, 10, 0, 0, 0, 0, 0, 0, 0, 0, 0] ∧ refused 0 10 0 0 0 0 0 0 0 0) ∧
    (met [0, 1, 0, 0, 0, 1, 0, 0, 0, 12, 0] ∧ refused 0 1 0 0 1 0 0 0 12 0) ∧
    (met [0, 1, 0, 0, 0, 1, 0, 0, 0, 0, 4] ∧ refused 0 1 0 0 1 0 0 0 0 4) ∧
    (met [47, 1, 0, 0, 1, 0, 0, 0, 0, 0, 0] ∧ refused 47 1 0 1 0 0 0 0 0 0) ∧
    (met [47, 0, 3, 0, 1, 0, 0, 0, 0, 0, 0] ∧ ¬ refused 47 0 3 1 0 0 0 0 0 0) ∧
    (met [46, 9, 3, 255, 1, 3, 15, 15, 15, 15, 4] ∧ ¬ refused 46 9 3 1 3 15 15 15 15 4) ∧
    (met [46, 9, 3, 255, 1, 1, 10, 10, 10, 11, 3] ∧ refused 46 9 3 1 1 10 10 10 11 3) ∧
    (met [46, 9, 3, 255, 1, 1, 10, 10, 10, 10, 3] ∧ ¬ refused 46 9 3 1 1 10 10 10 10 3) ∧
    (met [47, 8, 3, 255, 0, 1, 10, 10, 10, 10, 3] ∧ ¬ refused 47 8 3 0 1 10 10 10 10 3) := by
  refine ⟨⟨commands_of ?_, ?_⟩, ⟨commands_of ?_, ?_⟩, ⟨commands_of ?_, ?_⟩, ⟨commands_of ?_, ?_⟩, ⟨commands_of ?_, ?_⟩, ⟨commands_of ?_, ?_⟩,
    ⟨commands_of ?_, ?_⟩, ⟨commands_of ?_, ?_⟩, ⟨commands_of ?_, ?_⟩, commands_of ?_, ?_⟩ <;> decide +kernel

theorem witness_RulesReadBackAsWritten :
    Rule.storable 47 .empty ∧ Rule.storable 46 ⟨.mask, .lt, 255, true, .absent⟩ ∧ Rule.storable 47 ⟨.lead, .lt, 255, false, .target t1⟩ ∧
      Rule.storable 0 ⟨.sys, .eq, 0, false, .refuse⟩ := by
  refine ⟨.inl rfl, .inr (.inl (by decide)), .inr (.inr ⟨by decide, by decide, rfl, by decide, ?_⟩),
    .inr (.inr ⟨by decide, by decide, rfl, by decide, ?_⟩)⟩ <;> intro t h <;> cases h
  decide

theorem witness_EvaluationResultIsDelivered :
    let bare : State := { running with cs := { running.cs with rules := List.replicate 48 .empty } }
    let bad : State := { running with cs := { running.cs with demand := { running.cs.demand with expected := some .d15 } } }
    evalTable bare.cvNow bare.cs.rules = none ∧ running.cs.hold = false ∧ ({ running with cs := { running.cs with hold := true } } : State).cs.hold = true ∧
    (running.evaluate.cs.current = running.cs.current ∧ bare.evaluate.cs.current ≠ bare.cs.current) ∧
    (bad.cs.demand.expected = some .d15 ∧ (bad.slots.get .ps3).mask.getLsbD (LineSystem.d15.code - 1) = false) := by decide +kernel

/-! ### Breaker -/

theorem witness_BreakerEvents :
    let s (st : BrkState) (kind : Option FailKind) (aux : Filter) : State :=
      { running with bki := { running.bki with state := st, kind := kind, aux := aux, sup := some 0 } }
    (∀ st ∈ [BrkState.closing, .opened, .closed, .opening, .failed], (s st none (due true)).inReset = false ∧
      (s st none (due true)).bki.aux.due true ∧ (s st none (due true)).bki.state = st) ∧
    (∀ st ∈ [BrkState.closed, .opening, .opened, .closing], (s st none (due false)).bki.aux.due false ∧ (s st none (due false)).bki.state = st) ∧
    (let u : State := { running with bki := { running.bki with aux := due false, tripWindow := some 1 } }
     u.bki.aux.due false ∧ u.bki.state = .closed ∧ u.bki.tripWindow.isSome = true ∧ u.bki.brkFault = false) ∧
    ((s .failed (some .noOpen) (due false)).bki.aux.due false ∧ (s .failed (some .noOpen) (due false)).bki.kind = some .noOpen) ∧
    ((s .failed (some .noClose) (due false)).bki.state = .failed ∧ (s .failed (some .noClose) (due false)).bki.kind ≠ some .noOpen) ∧
    (∀ st ∈ [BrkState.closing, .opening], (s st none (.at true)).bki.sup.isSome = true ∧ (s st none (.at true)).bki.state = st) ∧
    (∀ aux ∈ [true, false], (s .failed (some .noClose) (.at aux)).bki.sup.isSome = true ∧
      (s .failed (some .noClose) (.at aux)).bki.kind = some .noClose ∧ (s .failed (some .noClose) (.at aux)).bki.aux.acc = aux) ∧
    ({ running with bki := { running.bki with reclose := some 0 } } : State).bki.reclose.isSome = true ∧
    (let u : State := { running with bki := { running.bki with ramp := some 0 } }
     u.bki.ramp.isSome = true ∧ u.bki.state = .closed ∧ u.bki.aux.acc = true) := by
  unfold Filter.due; decide +kernel

theorem witness_InterlockByItsRows :
    let s (st : BrkState) (f : State → State) : State := f { running with bki := { running.bki with state := st } }
    let halt (x : State) : State := { x with teq := { x.teq with halted := true } }
    let items (s : State) : Items :=
      { a := !(s.bki.wrongLatch || s.lsu.overvolt || s.csu.overloadLatch || s.bki.brkFault)
        b := s.cs.demand.power && s.lif.holder.isSome
        c := s.slots.any (fun x => decide (x.state = .up ∧ x.role = .collect ∧ x.dsc.state = .closed) &&
          s.lsu.confirmed.inMask x.mask && s.cs.demand.expected.all (fun e => decide (s.lsu.confirmed = .sys e)))
        d := !s.teq.entries.any (fun e => e.kind.isSection && decide (e.status = .active))
        e := !s.teq.halted
        f := decide (s.pe.status ≠ .lost) || !s.teq.entries.any (fun e => e.kind.isSection)
        g := s.bki.reclose.isNone }
    let every (i : Items) : Prop := i.a = true ∧ i.b = true ∧ i.c = true ∧ i.d = true ∧ i.e = true ∧ i.f = true ∧ i.g = true
    ((s .opened id).bki.state = .opened ∧ every (items (s .opened id))) ∧ ¬ every (items (s .opened halt)) ∧
    ((s .closing id).bki.state = .closing ∧ every (items (s .closing id))) ∧
    (¬ every (items (s .closing halt)) ∧ (s .closing halt).bki.aux.acc = true) ∧
    (let u := s .closing (fun x => { halt x with bki := { x.bki with aux := .at false } }); ¬ every (items u) ∧ u.bki.aux.acc = false) ∧
    ((s .closed halt).bki.state = .closed ∧ (s .closed halt).bki.aux.acc = true ∧ (items (s .closed halt)).e = false) ∧
    (let u : State := { boundary .active 1000 0 200 0 with psq := planned .active (some .ramp) }
     u.bki.state = .closed ∧ (items u).a = true ∧ (items u).c = true ∧ (items u).e = true ∧ (items u).d = false ∧ u.psq.step = some .ramp) ∧
    ((s .opening id).bki.state = .opening ∧ (s .failed id).bki.state = .failed) := by decide +kernel

theorem witness_InterlockByItsRows_wrongSystem :
    let s (act cond latch : Bool) : State :=
      let b := boundary (if act then .active else .queued) 1000 0 200 0
      { b with
        lsu := { b.lsu with confirmed := .sys .a16 }
        bki := { b.bki with wrongCond := cond, wrongLatch := latch }
        psq := if act then planned .active (some .coast) else b.psq }
    let wrong (s : State) : Prop := s.lsu.confirmed ≠ .none ∧
      s.cs.demand.expected = some .a50 ∧ s.lsu.confirmed ≠ .sys .a50 ∧ s.slots.ps3.state = .up ∧ s.slots.ps3.role = .collect
    (wrong (s true false false) ∧ (s true false false).bki.wrongCond = false ∧ (s true false false).bki.wrongLatch = false ∧
      (s true false false).psq.phase = .active ∧ ∃ e, (s true false false).teq.activeEntry = some e) ∧
    (wrong (s false false false) ∧ (s false false false).psq.phase ≠ .active) ∧
    (wrong (s true true false) ∧ (s true true false).bki.wrongCond = true) ∧
    (wrong (s true false true) ∧ (s true false true).bki.wrongLatch = true) ∧
    ¬ (running.lsu.confirmed ≠ .none ∧ (running.cs.demand.expected.any fun e => decide (running.lsu.confirmed ≠ .sys e)) = true) := by
  refine ⟨⟨by decide +kernel, by decide +kernel, by decide +kernel, by decide +kernel, _, rfl⟩, ?_, ?_, ?_, ?_⟩ <;> decide +kernel

theorem witness_HoldLawKept :
    running.holdLaw ∧ running.bki.hold = true ∧ ∃ t, step { running with pending := [.contactLost .ps3] } = .next t := by
  refine ⟨?_, by decide +kernel, step_answers_next _⟩
  unfold State.holdLaw; decide +kernel

/-! ### Passage -/

theorem witness_PointsAndTimersOfAPassage :
    let s (st : Sys2Proof.Machine.Step) (c : LineClass) : State :=
      let u := boundary .active 1000 8333 200 0
      { u with
        psq := { planned .active (some st) with rampTimer := some 0, confirmTimer := some 0 }
        lsu := { u.lsu with confirmed := c } }
    (∀ e ∈ (boundary .queued 1000 8333 200 0).teq.entries, e.held = false ∧ e.kind.isSection = true) ∧
    ((∀ k, (State.reset.slots.get k).enabled = false) ∧ ∃ k, (roof.slots.get k).enabled = true) ∧
    ((s .ramp (.sys .a50)).inReset = false ∧ (s .ramp (.sys .a50)).psq.phase = .active ∧ (s .ramp (.sys .a50)).psq.step = some .ramp ∧
      (s .ramp (.sys .a50)).psq.rampTimer.isSome = true ∧ (s .ramp (.sys .a50)).bki.state = .closed ∧ (s .ramp (.sys .a50)).bki.aux.acc = true) ∧
    ((s .confirm .none).psq.step = some .confirm ∧ (s .confirm .none).psq.confirmTimer.isSome = true ∧
      (∃ e, (s .confirm .none).teq.activeEntry = some e) ∧ (s .confirm .none).lsu.confirmed = .none) ∧
    ((∃ e, (s .confirm (.sys .d15)).teq.activeEntry = some e) ∧ (s .confirm (.sys .d15)).lsu.confirmed ≠ .none) := by
  refine ⟨by decide +kernel, ⟨fun k => by cases k <;> decide +kernel, .ps0, by decide +kernel⟩, by decide +kernel,
    ⟨by decide +kernel, by decide +kernel, ⟨_, rfl⟩, by decide +kernel⟩, ⟨_, rfl⟩, by decide +kernel⟩

theorem witness_PointsAndTimersOfAPassage_updates :
    let e (st : EntryStatus) : Entry := ⟨40, .boundary .a16, 4294900000, 80000, st⟩
    let psq (st : EntryStatus) : Psq := match st with
      | .armed => planned .armed none
      | .active => { planned .active (some .ramp) with tLead := some 3460 }
      | _ => .reset
    let s (st : EntryStatus) (x : Nat) : State := { boundary st x 8333 200 0 with psq := psq st }
    let reached (st : EntryStatus) (x : Nat) (f : Points → Pos) : Prop := 0 ≤ signedDiff (s st x).pe.e (f ((s st x).pointsOf (e st)))
    (∀ st ∈ [EntryStatus.queued, .armed, .active], (s st 4294773317).teq.halted = false ∧ (s st 4294773317).teq.nearest = some (e st)) ∧
    (e .queued).kind.isSection = true ∧
    ((s .queued 0).psq.phase ≠ .active ∧ ¬ reached .queued 4294773316 (·.arming)) ∧
    (s .queued 0).teq.disjointLaw ∧
    (reached .queued 4294773317 (·.arming) ∧ ¬ reached .queued 4294773317 (·.c) ∧ ¬ reached .queued 4294773317 (·.a)) ∧
    (reached .queued 4294873317 (·.arming) ∧ ¬ reached .queued 4294873317 (·.c) ∧ reached .queued 4294873317 (·.a)) ∧
    ((s .armed 0).psq.phase ≠ .active ∧ ¬ reached .armed 4294873316 (·.a) ∧ reached .armed 50554 (·.c)) ∧
    (reached .armed 50553 (·.a) ∧ ¬ reached .armed 50553 (·.c)) ∧
    ((s .armed 0).psq.oLead = some 2850 ∧ (s .armed 0).psq.oRear = some 37150 ∧ (s .active 0).psq.oLead = some 2850 ∧
      (s .active 0).psq.oRear = some 37150 ∧ (s .active 0).psq.tLead = some 3460) ∧
    (roof.teq.nearest = none ∧ ({ queued with teq := { queued.teq with halted := true } } : State).teq.halted = true) := by
  unfold Teq.disjointLaw; decide +kernel

theorem witness_PassageMovesByTheirTables :
    let s (st : Sys2Proof.Machine.Step) (f : State → State) : State :=
      f { boundary .active 51000 8333 200 0 with psq := planned .active (some st) }
    let total (n : Nat) (x : State) : State := { x with csu := { x.csu with total := n } }
    let brk (st : BrkState) (k : Option FailKind) (x : State) : State := { x with bki := { x.bki with state := st, kind := k } }
    let slot (f : Slot → Slot) (x : State) : State := slotIs .ps3 f x
    let cleared (x : State) (p : Plan) : Prop :=
      0 ≤ signedDiff x.pe.e (p.start + BitVec.ofNat 32 (p.len + x.psq.oRear.getD 0 + x.margin + x.pe.u))
    ((s .ramp (brk .opening none)).psq.step = some .ramp ∧ (s .ramp (brk .opening none)).bki.state ≠ .closed) ∧
    ((s .ramp (total 80)).bki.state = .closed ∧ (s .ramp (total 80)).csu.total ≤ (s .ramp (total 80)).openCurrent) ∧
    ((s .ramp (total 81)).bki.state = .closed ∧ (s .ramp (total 81)).openCurrent < (s .ramp (total 81)).csu.total ∧ 0 < (s .ramp (total 81)).tRamp) ∧
    (State.storeParam 0x01 0 (s .ramp (total 81))).tRamp = 0 ∧
    ((s .openBrk (brk .opened none)).psq.step = some .openBrk ∧ (s .openBrk (brk .opened none)).bki.state = .opened) ∧
    ((s .lower (brk .failed (some .noOpen))).bki.state = .failed ∧ (s .lower (brk .failed (some .noOpen))).bki.kind = some .noOpen) ∧
    (¬ ((s .lower id).bki.state = .failed ∧ (s .lower id).bki.kind = some .noOpen)) ∧
    (∃ p, (s .coast id).psq.plan = some p ∧ cleared (s .coast id) p) ∧
    (∃ p, (s .coast (fun x => { x with pe := { x.pe with e := 50553 } })).psq.plan = some p ∧
      ¬ cleared (s .coast (fun x => { x with pe := { x.pe with e := 50553 } })) p) ∧
    (∃ k, ((s .reraise id).cs.current.slots.get k).role = .collect ∧ (((s .reraise id).slots.get k).state = .up ∧ ((s .reraise id).slots.get k).role = .collect)) ∧
    (∃ k, ((s .reraise (slot (fun x => { x with state := .locked }))).cs.current.slots.get k).role = .collect ∧
      ((s .reraise (slot (fun x => { x with state := .locked }))).slots.get k).state = .locked) ∧
    (∃ y, (s .confirm id).cs.demand.expected = some y ∧ (s .confirm id).lsu.confirmed = .sys y) ∧
    ((s .confirm (fun x => { x with lsu := { x.lsu with confirmed := .none } })).lsu.confirmed = .none) := by
  refine ⟨?_, ?_, ?_, ?_, ?_, ?_, ?_, ⟨_, rfl, ?_⟩, ⟨_, rfl, ?_⟩, ⟨.ps3, ?_⟩, ⟨.ps3, ?_⟩, ⟨.a50, ?_⟩, ?_⟩ <;> decide +kernel

theorem witness_PassageMovesByTheirTables_advance :
    let s (st : Sys2Proof.Machine.Step) (f : State → State) : State :=
      f { boundary .active 51000 8333 200 0 with psq := planned .active (some st) }
    let brk (st : BrkState) (k : Option FailKind) (x : State) : State := { x with bki := { x.bki with state := st, kind := k } }
    ((s .ramp id).stepMove .report = .stay) ∧ ((s .ramp (brk .opening none)).stepMove .report = .go .openBrk) ∧
    ((s .confirm id).stepMove .report = .close .done) ∧
    ((s .lower (brk .failed (some .noOpen))).stepMove .report = .noOpen) ∧ (∃ e, (s .lower id).teq.activeEntry = some e) ∧
    ((s .ramp id).bki.state = .closed ∧ (s .ramp (brk .opened none)).bki.state = .opened) ∧
    ((s .reraise id).psq.plan.map (fun p => p.kind) = some (.boundary .a16)) ∧
    (let u := s .reraise (fun x => { x with psq := { x.psq with plan := some ⟨7, .lower, 1000, 100⟩ } })
     u.psq.plan.map (fun p => p.kind) = some .lower) ∧
    (let u := s .lower id; u.psq.phase = .active ∧ 0 ≤ signedDiff u.pe.e 51000 ∧ ¬ 0 ≤ signedDiff u.pe.e 51001 ∧
      u.psq.plan.any (fun p => p.kind.lowers) = true ∧ u.psq.step = some .lower ∧ u.slots.ps3.enabled = true ∧
      u.slots.ps3.down.acc = false ∧ u.slots.ps3.state ≠ .locked) ∧
    (s .coast id).psq.step ∉ [some Step.ramp, some .openBrk, some .lower] := by
  refine ⟨?_, ?_, ?_, ?_, ⟨_, rfl⟩, ?_, ?_, ?_, ?_, ?_⟩ <;> decide +kernel

/-! ### Ice -/

theorem witness_ScanEvents :
    let at' (c : Channel) : State := { roof with icu := { roof.icu with chan := c } }
    (roof.inReset = false ∧ roof.icu.chan = .ref) ∧ (∀ j ∈ allSlots, (at' (.strip j)).icu.chan = .strip j) ∧ (at' .amb).icu.chan = .amb ∧
    ({ roof with icu := { roof.icu with fall := some 0 } } : State).icu.fall.isSome = true ∧
    (∀ b ∈ [0, 1, 2], ({ queued with icu := { queued.icu with ambBand := b } } : State).icu.ambBand ≤ 2) ∧
    (running.slots.ps3.role = .collect ∧ ∃ e ∈ queued.teq.entries, e.kind = .iceZone 2) := by decide +kernel

theorem witness_ScanCompletionByItsOrder :
    let fault (c : Count) : Prop := c.ovf = true ∨ c.n < 30000 ∨ 50000 < c.n
    (fault ⟨29999, false⟩ ∧ fault ⟨50001, false⟩ ∧ ¬ fault ⟨30000, false⟩ ∧ ¬ fault ⟨50000, false⟩) ∧
    (((scan 28410).scanComplete.icu.refFault = true ∧ (scan 28410).icu.refFault = false) ∧ ¬ fault (scan 40000).icu.lastRef) ∧
    ((scan 40000).scanComplete.icu.grant.ps1 = true ∧ (scan 40000).scanComplete.icu.request.ps0 = true ∧
      (scan 40000).scanComplete.icu.grant.ps0 = false) ∧
    (let s (c : Count) : State := { scan 40000 with icu := { (scan 40000).icu with lastAmb := c } }
     (s ⟨15999, false⟩).scanComplete.icu.amb.fault = .opened ∧ (s ⟨16000, false⟩).scanComplete.icu.amb.fault = .none ∧
       (s ⟨42200, true⟩).scanComplete.icu.amb.fault = .short ∧ (scan 40000).icu.amb.fault = .none) ∧
    (0 < 385) ∧ (0 < 10 ∧ (2 : Int) * 5 = (2 * 0 + 1) * 10) := by decide +kernel

theorem witness_HeaterLawKept :
    let i : Icu := { roof.icu with
      grant := ⟨false, true, true, false⟩, htr := ⟨false, true, false, false⟩, strip := .all ⟨.none, 0, true, false⟩ }
    i.grantLaw ∧ ∃ t, step { roof with icu := i, pending := [.gateEnd] } = .next t := by
  refine ⟨⟨by decide +kernel, fun k => ?_, fun k => ?_⟩, step_answers_next _⟩ <;> cases k <;> decide +kernel

/-! ### Currents -/

theorem witness_SampleEventByItsOrder :
    (drawing 1015).inReset = false ∧
    (let s : State := { running with csu := { running.csu with hist := { running.csu.hist with ps3 := List.replicate 20 ⟨801, false⟩ } } }
     got (.csuSample ⟨0, 0, 0, 801⟩) s (fun t => t.csu.overLimit) = some true ∧ s.csu.overLimit = false) ∧
    (got (.csuSample ⟨0, 0, 0, 0⟩) (overDraw .timing true) (fun t => t.csu.overLimit) = some false ∧ (overDraw .timing true).csu.overLimit = true) ∧
    (let s : State := { running with csu := { running.csu with mean := .all 50, dropout := ⟨some 1, none, none, none⟩ } }
     (s.csu.dropout.get .ps0).isSome = true ∧ ¬ (s.csu.dropout.get .ps3).isSome = true ∧ s.csu.roles.get .ps3 = .collect ∧
       s.csu.brk = .closed ∧ 50 ≤ s.csu.mean.get .ps3 ∧ ∃ b bs, s.csu.buckets.get .ps0 = b :: bs) :=
  ⟨by decide +kernel, by decide +kernel, by decide +kernel, by decide +kernel, by decide +kernel, by decide +kernel, by decide +kernel,
    by decide +kernel, _, _, rfl⟩

theorem witness_CurrentTimersAndClearTro :
    let met (r : OverReason) (o : Bool) : Prop := (onA .clearTro [] (overDraw r o)).Commands .a .clearTro [] ∧
      (onA .clearTro [] (overDraw r o)).csu.overReason = r ∧ (onA .clearTro [] (overDraw r o)).csu.overLimit = o
    met .extended false ∧ met .timing true ∧ met .idle false ∧ met .timing false ∧
    ((overDraw .timing true).inReset = false ∧ (overDraw .timing true).csu.half.isSome = true ∧ (overDraw .timing true).csu.width.isSome = true ∧
      (overDraw .timing true).csu.overload.isSome = true) ∧
    ((overDraw .timing false).param 0x11 = 0 ∧ (State.storeParam 0x11 1 (overDraw .timing false)).param 0x11 = 1) ∧
    ((overDraw .timing true).csu.overloadLatch = false ∧
      ({ running with csu := { running.csu with overload := some 0, overloadLatch := true } } : State).csu.overloadLatch = true) := by
  refine ⟨⟨commands_of ?_, ?_⟩, ⟨commands_of ?_, ?_⟩, ⟨commands_of ?_, ?_⟩, ⟨commands_of ?_, ?_⟩, ?_, ?_, ?_⟩ <;> decide +kernel

theorem witness_CollectionLawsKept :
    running.csu.troLaw ∧ running.csu.bucketLaw ∧ running.limitLaw ∧ running.csu.limit.ps3 ≠ 0 ∧
      ∃ t, step { running with pending := [.csuSample ⟨0, 0, 0, 700⟩] } = .next t := by
  refine ⟨?_, fun k => ?_, fun k => ?_, by decide +kernel, step_answers_next _⟩
  · unfold Csu.troLaw; decide +kernel
  · cases k <;> decide +kernel
  · cases k <;> (refine Nat.le_of_ble_eq_true ?_; decide +kernel)

/-! ### Flags -/

theorem witness_FlagRequestsByTheirTables :
    let clear (a b c d : Byte) : Prop := (onA .clearFlags [a, b, c, d] running).Commands .a .clearFlags [a, b, c, d]
    let mask (a b c d : Byte) : Prop := (onB .setNoticeMask [a, b, c, d] running).Starts .b .setNoticeMask [a, b, c, d]
    let fault (b : Byte) (s : State) : Prop := (onA .clearFault [b] s).Commands .a .clearFault [b]
    (clear 4 0 0 0 ∧ 67108864 ≤ be [4, 0, 0, 0]) ∧ (clear 3 255 255 255 ∧ be [3, 255, 255, 255] < 67108864) ∧
    (mask 4 0 0 0 ∧ 67108864 ≤ be [4, 0, 0, 0]) ∧ (mask 3 255 255 255 ∧ be [3, 255, 255, 255] < 67108864) ∧
    (fault 8 running ∧ 7 < (8 : Byte).toNat) ∧ (fault 0 running ∧ running.lsu.overvolt = false) ∧
    (let s : State := { running with lsu := { running.lsu with overvolt := true } }
     fault 0 s ∧ s.lsu.overvolt = true ∧ s.overvoltPersists = false) ∧
    (let s : State := { running with bki := { running.bki with wrongLatch := true } }; fault 1 s ∧ s.bki.wrongLatch = true) ∧
    (let s : State := { running with csu := { running.csu with overloadLatch := true, overLimit := true } }
     fault 2 s ∧ s.csu.overloadLatch = true ∧ s.csu.overLimit = true) ∧
    (let s : State := { running with bki := { running.bki with brkFault := true } }; fault 3 s ∧ s.bki.brkFault = true ∧ s.bki.state ≠ .failed) ∧
    (let s : State := { running with icu := { running.icu with heaterFault := .all true } }
     fault 4 s ∧ (4 : Byte).toNat = 4 + SlotId.ps0.num ∧ fault 7 s ∧ (7 : Byte).toNat = 4 + SlotId.ps3.num ∧ s.icu.heaterFault.ps3 = true) := by
  refine ⟨⟨commands_of ?_, ?_⟩, ⟨commands_of ?_, ?_⟩, ⟨starts_of ?_, ?_⟩, ⟨starts_of ?_, ?_⟩, ⟨commands_of ?_, ?_⟩, ⟨commands_of ?_, ?_⟩,
    ⟨commands_of ?_, ?_⟩, ⟨commands_of ?_, ?_⟩, ⟨commands_of ?_, ?_⟩, ⟨commands_of ?_, ?_⟩, commands_of ?_, ?_, commands_of ?_, ?_, ?_⟩ <;>
    decide +kernel

theorem witness_FlagsFallOnlyWhenCleared :
    let s : State := { onA .clearFlags [0, 0, 0, 1] { running with fnu := ⟨1, ⟨0, 0⟩, ⟨false, false⟩⟩ } with pending := [.clearFlags .a] }
    let u : State := { onB .setNoticeMask [0, 0, 0, 1] running with pending := [.setNoticeMask .b] }
    let r : State := { running with pending := [.autodropTrip .ps3], slots := running.slots.set .ps3 { running.slots.ps3 with add := due true } }
    (∃ t, step s = .next t ∧ FlagSet.has s.fnu.flags .entryDone = true ∧ FlagSet.has t.fnu.flags .entryDone = false) ∧
    (∃ t, step u = .next t ∧ t.fnu.mask.get .b ≠ u.fnu.mask.get .b) ∧
    (∃ t, step r = .next t ∧ FlagSet.has r.fnu.flags .autodrop = false ∧ FlagSet.has t.fnu.flags .autodrop = true ∧
      FlagSet.has (r.fnu.mask.get .a) .autodrop = true) := by
  refine ⟨⟨_, rfl, ?_⟩, ⟨_, rfl, ?_⟩, _, rfl, ?_⟩ <;> decide +kernel

theorem witness_HandingOnFrame :
    FlagSet.has ({ running with fnu := ⟨1, ⟨0, 0⟩, ⟨false, false⟩⟩ } : State).fnu.flags .entryDone = true ∧
      ({ running with bki := { running.bki with brkFault := true, wrongLatch := true } } : State).bki.brkFault = true ∧
      (running.handOn.csu.expected = some .a16 ∧ State.reset.handOn.csu.expected = none) := by decide +kernel

end Sys2Proof.Tests
end

section
/-! PROOFS. What a command can make of the Position Estimator's values (R4, R7, R14, R197): one lemma for each operation and owner that
leaves them, and the inversion `exec_pe_cases` for all 81 commands. -/

set_option Elab.async false

namespace Sys2Proof.Machine

/-! ### What a command can make of the estimate -/

theorem whenRunning_pe {f : State → State} (hf : ∀ u : State, (f u).pe = u.pe) (s : State) :
    (whenRunning f s).pe = s.pe := by
  unfold whenRunning
  split
  · rfl
  · exact hf s

theorem State.serve_pe {owner : List Byte → State → State × Option Answer}
    (howner : ∀ p (u : State), (owner p u).1.pe = u.pe) (s : State) (l : Link) (r : Req) :
    (s.serve l r owner).pe = s.pe :=
  State.serve_keeps (P := fun u => u.pe = s.pe) (fun _ _ h => h) (fun p u h => (howner p u).trans h) rfl

theorem State.holderHandOn_pe (s : State) (before : Option Link) : (s.holderHandOn before).pe = s.pe := by
  unfold State.holderHandOn
  split <;> simp

theorem State.receive_pe (s : State) (l : Link) (b : Byte) : (s.receive l b).pe = s.pe := by
  simp only [State.receive, State.frameComplete]
  (repeat' split) <;> simp [State.holderHandOn_pe]

theorem State.gateEnded_pe (s : State) : s.gateEnded.pe = s.pe := by
  unfold State.gateEnded
  split <;> simp

theorem State.powerIfSilent_pe (s : State) : s.powerIfSilent.pe = s.pe := by
  unfold State.powerIfSilent
  split <;> simp

theorem State.rawLevel_pe (s : State) (i : RawInput) : (s.rawLevel i).pe = s.pe := by
  cases i <;> rfl

theorem State.clearLatch_pe (s : State) (x : Latch) : (s.clearLatch x).pe = s.pe := by
  cases x <;> rfl

theorem ownPostEvent_pe (p : List Byte) (s : State) : (ownPostEvent p s).1.pe = s.pe := by
  unfold ownPostEvent
  split <;> simp [State.post]

theorem ownCancelEvent_pe (p : List Byte) (s : State) : (ownCancelEvent p s).1.pe = s.pe := by
  unfold ownCancelEvent
  (repeat' split) <;> simp

theorem ownResumeQueue_pe (p : List Byte) (s : State) : (ownResumeQueue p s).1.pe = s.pe := by
  unfold ownResumeQueue
  split <;> simp

theorem ownSetSlot_pe (p : List Byte) (s : State) : (ownSetSlot p s).1.pe = s.pe := by
  unfold ownSetSlot
  (repeat' split) <;> simp

theorem ownUnlockSlot_pe (p : List Byte) (s : State) : (ownUnlockSlot p s).1.pe = s.pe := by
  unfold ownUnlockSlot
  (repeat' split) <;> simp

theorem ownSetDemand_pe (p : List Byte) (s : State) : (ownSetDemand p s).1.pe = s.pe := by
  unfold ownSetDemand
  split <;> simp

theorem ownWriteRule_pe (p : List Byte) (s : State) : (ownWriteRule p s).1.pe = s.pe := by
  simp only [ownWriteRule]
  (repeat' split) <;> simp

theorem ownClearTro_pe (p : List Byte) (s : State) : (ownClearTro p s).1.pe = s.pe := by
  unfold ownClearTro
  split <;> simp

theorem ownReadCurrent_pe (l : Link) (p : List Byte) (s : State) : (ownReadCurrent l p s).1.pe = s.pe := by
  unfold ownReadCurrent
  split <;> rfl

theorem ownClearFlags_pe (p : List Byte) (s : State) : (ownClearFlags p s).1.pe = s.pe := by
  unfold ownClearFlags
  split <;> rfl

theorem ownClearFault_pe (p : List Byte) (s : State) : (ownClearFault p s).1.pe = s.pe := by
  unfold ownClearFault
  (repeat' split) <;> simp [State.clearLatch_pe]

theorem ownSetNoticeMask_pe (l : Link) (p : List Byte) (s : State) : (ownSetNoticeMask l p s).1.pe = s.pe := by
  unfold ownSetNoticeMask
  split <;> rfl

theorem ownTakeCommand_pe (l : Link) (p : List Byte) (s : State) : (ownTakeCommand l p s).1.pe = s.pe := by
  simp only [ownTakeCommand]
  (repeat' split) <;> simp [State.holderHandOn_pe]

theorem ownSetParam_pe (p : List Byte) (s : State) : (ownSetParam p s).1.pe = s.pe := by
  simp only [ownSetParam]
  (repeat' split) <;> simp [State.storeParam]

/-- What serving a request can make of the estimate: nothing, or what the owner makes of it with the request under
service. -/
theorem State.serve_pe_cases {owner : List Byte → State → State × Option Answer} (s : State) (l : Link) (r : Req) :
    (s.serve l r owner).pe = s.pe ∨ ∃ p, (s.serve l r owner).pe = (owner p (s.beginService l)).1.pe := by
  unfold State.serve
  split
  · exact .inl rfl
  · split_ifs
    · exact .inl rfl
    · exact .inl rfl
    · exact .inl rfl
    · refine .inr ⟨(by assumption : Request).payload, ?_⟩
      unfold State.serveOwner
      split <;> simp [*]

/-- The values of an accepted report, after clamping (R4). -/
def State.reportedPe (s : State) (pos : Pos) (v u : Nat) : Pe :=
  { s.pe with p := pos, v := v, uRep := u, e := pos, u := u, age := 0, status := s.statusFor u 0, band := bandFor v }

@[simp] theorem State.setPe_pe (s : State) (p : Pe) : (s.setPe p).pe = p := by simp [State.setPe]

@[simp] theorem State.report_pe (s : State) (pos : Pos) (v u : Nat) : (s.report pos v u).pe = s.reportedPe pos v u := by
  simp [State.report, State.reportedPe, State.statusFor, State.lostUnc, State.reportAgeOk, State.param]

/-- The commands that set the estimate, and what each makes of it: a report, a REVERSE, a refresh, and the resets of R197
(a raw level while RST_N is low and the end of the reply of RESET_PART among them). -/
inductive SetsEstimate (s : State) : Instr → Pe → Prop
  | report (l : Link) (pos : Pos) (v u : Nat) (hv : v ≤ 12000) (hu : u ≤ 10000) :
      SetsEstimate s (.reportPosition l) (s.reportedPe pos v u)
  | reverse (l : Link) : SetsEstimate s (.reverse l) s.pe.reversed
  | restart (h : s.pe.status = .noFix) : SetsEstimate s .positionRefresh { s.pe with refresh := ms 10 }
  | refresh (h : s.pe.status ≠ .noFix) : SetsEstimate s .positionRefresh s.refreshed
  | powerOn (pins : Pins) : SetsEstimate s (.powerOn pins) .reset
  | rstNLow : SetsEstimate s .rstNLow .reset
  | rstNRise (sel : SelLevel) (baud : Bool) : SetsEstimate s (.rstNRise sel baud) .reset
  | rawLevel (i : RawInput) : SetsEstimate s (.inputRawChange i) .reset
  | frameSent (l : Link) : SetsEstimate s (.frameSent l) .reset

theorem execReportPosition_pe {s t : State} {l : Link} (h : exec (.reportPosition l) s = .next t) :
    t.pe = s.pe ∨ SetsEstimate s (.reportPosition l) t.pe := by
  cases h
  unfold whenRunning
  split
  · exact .inl rfl
  · obtain h | ⟨p, h⟩ := s.serve_pe_cases l .reportPosition (owner := ownReportPosition)
    · exact .inl h
    · rw [h]
      simp only [ownReportPosition, State.report_pe]
      exact .inr (.report l _ _ _ (min_le_left _ _) (min_le_left _ _))

theorem execReverse_pe {s t : State} {l : Link} (h : exec (.reverse l) s = .next t) :
    t.pe = s.pe ∨ SetsEstimate s (.reverse l) t.pe := by
  cases h
  unfold whenRunning
  split
  · exact .inl rfl
  · obtain h | ⟨p, h⟩ := s.serve_pe_cases l .reverse (owner := ownReverse)
    · exact .inl h
    · rw [h]
      unfold ownReverse
      split
      · simpa using .inr (.reverse l)
      · exact .inl rfl

theorem execPositionRefresh_pe {s t : State} (h : exec .positionRefresh s = .next t) :
    t.pe = s.pe ∨ SetsEstimate s .positionRefresh t.pe := by
  cases h
  simp only [whenRunning]
  split
  · exact .inl rfl
  · split
    · exact .inr (.restart ‹_›)
    · simpa using .inr (.refresh ‹_›)

theorem execFrameSent_pe {s t : State} {l : Link} (h : exec (.frameSent l) s = .next t) :
    t.pe = s.pe ∨ SetsEstimate s (.frameSent l) t.pe := by
  cases h
  unfold whenRunning
  split
  · exact .inl rfl
  · unfold State.frameEnd
    split
    · exact .inl rfl
    · simp
    · split
      · exact .inr (.frameSent l)
      · simp

/-- What a command can make of the estimate: it leaves it, or it is one of those that set it. -/
theorem exec_pe_cases {c : Instr} {s t : State} (h : exec c s = .next t) : t.pe = s.pe ∨ SetsEstimate s c t.pe := by
  cases c with
  | powerOn pins => cases h; exact .inr (.powerOn pins)
  | rstNLow => cases h; exact .inr .rstNLow
  | rstNRise sel baud =>
    cases h
    split
    · exact .inr (.rstNRise sel baud)
    · exact .inl rfl
  | inputRawChange i =>
    cases h
    split
    · exact .inr (.rawLevel i)
    · exact .inl (s.rawLevel_pe i)
  | frameSent l => exact execFrameSent_pe h
  | reportPosition l => exact execReportPosition_pe h
  | reverse l => exact execReverse_pe h
  | positionRefresh => exact execPositionRefresh_pe h
  -- requests that read: their owner leaves the state as it is
  | readPosition | readQueue | readClosed | readLine | readSlot | readRule | readTarget | readBreaker | readPassage
  | readIce | getFlags | getStatus | readParam | resetPart =>
    cases h; exact .inl (whenRunning_pe (fun u => u.serve_pe (fun _ _ => rfl) _ _) s)
  | postEvent => cases h; exact .inl (whenRunning_pe (fun u => u.serve_pe ownPostEvent_pe _ _) s)
  | cancelEvent => cases h; exact .inl (whenRunning_pe (fun u => u.serve_pe ownCancelEvent_pe _ _) s)
  | resumeQueue => cases h; exact .inl (whenRunning_pe (fun u => u.serve_pe ownResumeQueue_pe _ _) s)
  | setSlot => cases h; exact .inl (whenRunning_pe (fun u => u.serve_pe ownSetSlot_pe _ _) s)
  | unlockSlot => cases h; exact .inl (whenRunning_pe (fun u => u.serve_pe ownUnlockSlot_pe _ _) s)
  | setDemand => cases h; exact .inl (whenRunning_pe (fun u => u.serve_pe ownSetDemand_pe _ _) s)
  | writeRule => cases h; exact .inl (whenRunning_pe (fun u => u.serve_pe ownWriteRule_pe _ _) s)
  | clearTro => cases h; exact .inl (whenRunning_pe (fun u => u.serve_pe ownClearTro_pe _ _) s)
  | readCurrent l => cases h; exact .inl (whenRunning_pe (fun u => u.serve_pe (ownReadCurrent_pe l) _ _) s)
  | clearFlags => cases h; exact .inl (whenRunning_pe (fun u => u.serve_pe ownClearFlags_pe _ _) s)
  | clearFault => cases h; exact .inl (whenRunning_pe (fun u => u.serve_pe ownClearFault_pe _ _) s)
  | setNoticeMask l => cases h; exact .inl (whenRunning_pe (fun u => u.serve_pe (ownSetNoticeMask_pe l) _ _) s)
  | takeCommand l => cases h; exact .inl (whenRunning_pe (fun u => u.serve_pe (ownTakeCommand_pe l) _ _) s)
  | setParam => cases h; exact .inl (whenRunning_pe (fun u => u.serve_pe ownSetParam_pe _ _) s)
  -- the links
  | frameReceived | byteReceived =>
    cases h; exact .inl (whenRunning_pe (fun u => by (repeat' split) <;> simp [State.receive_pe]) s)
  | commandChangeEffect | selAcceptedChange | silenceTimerExpiry =>
    cases h
    exact .inl (whenRunning_pe (fun u => by (repeat' split) <;> simp [State.holderHandOn_pe, State.powerIfSilent_pe]) s)
  -- gates of the Ice Unit
  | gateEnd | scanCompletion =>
    cases h; exact .inl (whenRunning_pe (fun u => by (repeat' split) <;> simp [State.gateEnded_pe]) s)
  -- an event of one block, and its hand-over
  | _ => cases h; exact .inl (whenRunning_pe (fun u => by (repeat' split) <;> simp) s)
end Sys2Proof.Machine
end

section
/-! PROOFS. The laws of the estimate under whatever sets it (R2, R7, R8), and O19. -/

set_option Elab.async false

namespace Sys2Proof.Machine

/-! ### The laws of the estimate -/

/-- Dead-reckoning at a higher age gives no smaller distance (R7). -/
theorem Pe.travelled_mono {p q : Pe} (hv : q.v = p.v) (hage : p.age ≤ q.age) : p.travelled ≤ q.travelled := by
  unfold Pe.travelled Pe.ageMs
  rw [hv]
  gcongr

theorem ceilDiv_mono {a b : Nat} (h : a ≤ b) (n : Nat) : ceilDiv a n ≤ ceilDiv b n := by
  unfold ceilDiv
  gcongr

theorem Pe.age_le_after (n : Nat) {p : Pe} (h : p.age ≤ ageLimit) : p.age ≤ (p.after n).age := by
  simp only [Pe.after, msCount]
  split <;> omega

theorem Pe.after_rangeLaw (n : Nat) {p : Pe} (h : p.rangeLaw) : (p.after n).rangeLaw := by
  obtain ⟨hv, hrep, hu, hage⟩ := h
  refine ⟨hv, hrep, hu, ?_⟩
  simp only [Pe.after, msCount]
  split <;> omega

/-- The growth bound only rises as time passes (R6, R7). -/
theorem Pe.after_growthLaw (n : Nat) {p : Pe} (hage : p.age ≤ ageLimit) (h : p.growthLaw) : (p.after n).growthLaw := by
  intro hs
  have hd := ceilDiv_mono (Pe.travelled_mono (p := p) (q := p.after n) rfl (Pe.age_le_after n hage)) 64
  exact (h hs).trans (min_le_min le_rfl (Nat.add_le_add_left hd _))

theorem Pe.reset_rangeLaw : Pe.reset.rangeLaw := by
  unfold Pe.rangeLaw
  decide

theorem Pe.growthLaw_of_noFix {p : Pe} (h : p.status = .noFix) : p.growthLaw := fun hs => absurd h hs

/-- Whatever sets the estimate keeps the ranges and the growth bound. -/
theorem SetsEstimate.laws {s : State} {c : Instr} {q : Pe} (h : SetsEstimate s c q) (hr : s.pe.rangeLaw) :
    q.rangeLaw ∧ q.growthLaw := by
  obtain ⟨hv, hrep, hu, hage⟩ := hr
  cases h with
  | report l pos v u hv' hu' =>
    refine ⟨⟨hv', hu', by simp only [State.reportedPe]; omega, Nat.zero_le _⟩, fun _ => ?_⟩
    simp only [State.reportedPe]
    omega
  | reverse l => exact ⟨⟨hv, hrep, le_rfl, le_rfl⟩, Pe.growthLaw_of_noFix rfl⟩
  | restart hs => exact ⟨⟨hv, hrep, hu, hage⟩, Pe.growthLaw_of_noFix hs⟩
  | refresh hs => exact ⟨⟨hv, hrep, min_le_left _ _, hage⟩, fun _ => le_rfl⟩
  | powerOn | rstNLow | rstNRise | rawLevel | frameSent => exact ⟨Pe.reset_rangeLaw, Pe.growthLaw_of_noFix rfl⟩

/-- Only a report sets a smaller U: a refresh is bounded below by the growth law, and everything else sets 65,535. -/
theorem SetsEstimate.u_le {s : State} {c : Instr} {q : Pe} (h : SetsEstimate s c q) (hr : s.pe.rangeLaw)
    (hg : s.pe.growthLaw) (hc : ∀ l, c ≠ .reportPosition l) : s.pe.u ≤ q.u := by
  obtain ⟨_, _, hu, _⟩ := hr
  cases h with
  | report l => exact absurd rfl (hc l)
  | restart => exact le_rfl
  | refresh hs => exact hg hs
  | reverse | powerOn | rstNLow | rstNRise | rawLevel | frameSent => exact hu

/-- Settles O19: an idle step moves the age alone; a command leaves the estimate or is one of those that set it. -/
theorem uncertaintyFallsOnlyAtReports : Obligations.UncertaintyFallsOnlyAtReports := by
  intro s t hr hg h
  unfold step at h
  split at h
  next hp =>
    cases h
    rw [hp]
    have ⟨_, _, _, hage⟩ := hr
    unfold State.elapse
    split
    · exact ⟨hr, hg, fun h => absurd h (lt_irrefl _), by simp⟩
    · exact ⟨Pe.after_rangeLaw 1 hr, Pe.after_growthLaw 1 hage hg, fun h => absurd h (lt_irrefl _), by simp⟩
  next c rest hp =>
    rw [hp]
    obtain hpe | hset := exec_pe_cases h
    · have hpe : t.pe = s.pe := hpe
      rw [hpe]
      exact ⟨hr, hg, fun h => absurd h (lt_irrefl _), fun _ _ _ _ _ _ _ _ _ _ => rfl⟩
    · obtain ⟨hr', hg'⟩ := hset.laws hr
      refine ⟨hr', hg', fun hlt => ?_, fun d hd hreport hreverse hrefresh hpower hlow hrise hraw hsent => ?_⟩
      · by_contra hno
        exact absurd hlt (not_lt.mpr (hset.u_le hr hg fun l hc => hno ⟨l, congrArg some hc⟩))
      · cases hd
        generalize t.pe = q at hset
        cases hset with
        | report l => exact absurd rfl (hreport l)
        | reverse l => exact absurd rfl (hreverse l)
        | restart | refresh => exact absurd rfl hrefresh
        | powerOn p => exact absurd rfl (hpower p)
        | rstNLow => exact absurd rfl hlow
        | rstNRise x b => exact absurd rfl (hrise x b)
        | rawLevel i => exact absurd rfl (hraw i)
        | frameSent l => exact absurd rfl (hsent l)
end Sys2Proof.Machine
end

section
/-! PROOFS. The frame of handing on (R15, R33, R46, R79, R112, R138, R158, R162, R174, R185), put together from one frame an operation, and
O60. -/

set_option Elab.async false

namespace Sys2Proof.Machine

/-! ### What a slot's own moves leave alone

The configuration, the filtered inputs and the count of contact losses change at requests and input events alone (R53 to R57, R68);
every move by which a unit follows a Target, a hold or a breaker report keeps them. -/

/-- The slot's configuration, inputs and contact-loss count are as they were. -/
structure Slot.Kept (x y : Slot) : Prop where
  enabled : y.enabled = x.enabled := by rfl
  offset : y.offset = x.offset := by rfl
  mask : y.mask = x.mask := by rfl
  down : y.down = x.down := by rfl
  contact : y.contact = x.contact := by rfl
  add : y.add = x.add := by rfl
  dsf : y.dsf = x.dsf := by rfl
  contactLosses : y.contactLosses = x.contactLosses := by rfl

@[simp] theorem Slot.Kept.refl (x : Slot) : x.Kept x := {}

theorem Slot.Kept.trans {x y z : Slot} (h : x.Kept y) (g : y.Kept z) : x.Kept z where
  enabled := g.enabled.trans h.enabled
  offset := g.offset.trans h.offset
  mask := g.mask.trans h.mask
  down := g.down.trans h.down
  contact := g.contact.trans h.contact
  add := g.add.trans h.add
  dsf := g.dsf.trans h.dsf
  contactLosses := g.contactLosses.trans h.contactLosses

@[simp] theorem Slot.startTravel_kept (x : Slot) (b : Bool) : x.Kept (x.startTravel b) := {}

@[simp] theorem Slot.enterUp_kept (c : PuCtx) (x : Slot) : x.Kept (x.enterUp c) := {}

@[simp] theorem Slot.enterRaising_kept (c : PuCtx) (x : Slot) : x.Kept (x.enterRaising c) := by
  simp only [Slot.enterRaising]
  split
  · exact .trans {} (Slot.enterUp_kept c _)
  · exact {}

@[simp] theorem Slot.tryRaise_kept (c : PuCtx) (x : Slot) : x.Kept (x.tryRaise c) := by
  unfold Slot.tryRaise
  split <;> simp

@[simp] theorem Slot.applyDown_kept (c : PuCtx) (x : Slot) : x.Kept (x.applyDown c) := by
  unfold Slot.applyDown
  (repeat' split) <;> simp

@[simp] theorem Slot.enterDown_kept (c : PuCtx) (x : Slot) : x.Kept (x.enterDown c) :=
  .trans {} (Slot.applyDown_kept c _)

@[simp] theorem Slot.enterRetryWait_kept (c : PuCtx) (x : Slot) : x.Kept (x.enterRetryWait c) := {}

@[simp] theorem Slot.applyRetryWait_kept (c : PuCtx) (x : Slot) : x.Kept (x.applyRetryWait c) := by
  unfold Slot.applyRetryWait
  split <;> simp

@[simp] theorem Slot.arriveDown_kept (c : PuCtx) (x : Slot) : x.Kept (x.arriveDown c) := by
  unfold Slot.arriveDown
  split_ifs
  · exact (x.enterRetryWait_kept c).trans (Slot.applyRetryWait_kept c _)
  · simp
  · simp

@[simp] theorem Slot.enterLowering_kept (c : PuCtx) (x : Slot) : x.Kept (x.enterLowering c) := by
  simp only [Slot.enterLowering]
  split
  · exact .trans {} (Slot.arriveDown_kept c _)
  · exact {}

@[simp] theorem Slot.applyUp_kept (c : PuCtx) (x : Slot) : x.Kept (x.applyUp c) := by
  unfold Slot.applyUp
  (repeat' split) <;> simp

@[simp] theorem Slot.applyRole_kept (c : PuCtx) (x : Slot) : x.Kept (x.applyRole c) := by
  unfold Slot.applyRole
  split <;> simp

@[simp] theorem Slot.applyChanged_kept (c : PuCtx) (x : Slot) : x.Kept (x.applyChanged c) := by
  unfold Slot.applyChanged
  split
  · simp
  · simp
  · split <;> simp
  · simp
  · exact {}
  · simp
  · simp
  · simp

@[simp] theorem Slot.deliver_kept (c : PuCtx) (t : RoleForce) (x : Slot) : x.Kept (x.deliver c t) := by
  simp only [Slot.deliver]
  split_ifs
  · exact {}
  · exact {}
  · exact .trans {} (Slot.applyChanged_kept c _)
  · exact .trans {} (Slot.applyChanged_kept c _)

@[simp] theorem Slot.setHold_kept (c : PuCtx) (h : SeqHold) (x : Slot) : x.Kept (x.setHold c h) := by
  simp only [Slot.setHold]
  split
  · exact .trans {} (Slot.enterLowering_kept c _)
  · exact .trans {} (Slot.enterLowering_kept c _)
  · exact {}
  · exact .trans {} (Slot.enterDown_kept c _)
  · split <;> exact {}
  · exact {}
  · exact {}
  · exact {}

@[simp] theorem Slot.releaseHold_kept (c : PuCtx) (x : Slot) : x.Kept (x.releaseHold c) :=
  .trans {} (Slot.applyRole_kept c _)

@[simp] theorem Slot.brkReport_kept (c : PuCtx) (x : Slot) : x.Kept (x.brkReport c) := by
  unfold Slot.brkReport
  split
  · exact {}
  · exact .refl x

/-! ### What handing on leaves alone

`State.Framed s t` is the frame of one event's hand-over (R15, R33, R46, R79, R112, R138, R158, R174, R185), and `State.Kept s t`
adds the Collection Supervisor's inputs and limits, which `State.csuInputs` alone writes. Both are transitive, so the frame of the whole
hand-over is put together from one lemma an operation. -/

/-- What an operation of handing on leaves alone, and what it never clears: a latch of the breaker, a flag. -/
structure State.Framed (s t : State) : Prop where
  lif : t.lif = s.lif := by rfl
  posted : t.teq.posted = s.teq.posted := by rfl
  lsu : t.lsu = { s.lsu with overCount := t.lsu.overCount } := by rfl
  rules : t.cs.rules = s.cs.rules := by rfl
  demand : t.cs.demand = { s.cs.demand with expected := t.cs.demand.expected } := by rfl
  icu : t.icu = { s.icu with
      roles := t.icu.roles, zoneHint := t.icu.zoneHint, iceDemand := t.icu.iceDemand, arcs := t.icu.arcs,
      computed := t.icu.computed, measured := t.icu.measured, fall := t.icu.fall, iceLevel := t.icu.iceLevel } := by rfl
  slots : ∀ k, (s.slots.get k).Kept (t.slots.get k) := by exact fun _ => .refl _
  aux : t.bki.aux = s.bki.aux := by rfl
  tripWindow : t.bki.tripWindow = s.bki.tripWindow := by rfl
  reclose : t.bki.reclose = s.bki.reclose := by rfl
  brkFault : s.bki.brkFault = true → t.bki.brkFault = true := by exact fun h => h
  wrongLatch : s.bki.wrongLatch = true → t.bki.wrongLatch = true := by exact fun h => h
  hist : t.csu.hist = s.csu.hist := by rfl
  mean : t.csu.mean = s.csu.mean := by rfl
  buckets : t.csu.buckets = s.csu.buckets := by rfl
  overloadLatch : t.csu.overloadLatch = s.csu.overloadLatch := by rfl
  sample : t.csu.sample = s.csu.sample := by rfl
  bucket : t.csu.bucket = s.csu.bucket := by rfl
  mask : t.fnu.mask = s.fnu.mask := by rfl
  flags : ∀ f, FlagSet.has s.fnu.flags f = true → FlagSet.has t.fnu.flags f = true := by exact fun _ h => h

/-- The frame of an operation that leaves the Collection Supervisor's inputs and limits too (R162, R174). -/
structure State.Kept (s t : State) : Prop extends State.Framed s t where
  limit : t.csu.limit = s.csu.limit := by rfl
  expected : t.csu.expected = s.csu.expected := by rfl
  band : t.csu.band = s.csu.band := by rfl
  profile : t.csu.profile = s.csu.profile := by rfl
  roles : t.csu.roles = s.csu.roles := by rfl

theorem State.Framed.trans {s t u : State} (h : s.Framed t) (g : t.Framed u) : s.Framed u where
  lif := g.lif.trans h.lif
  posted := g.posted.trans h.posted
  lsu := by rw [g.lsu, h.lsu]
  rules := g.rules.trans h.rules
  demand := by rw [g.demand, h.demand]
  icu := by rw [g.icu, h.icu]
  slots := fun k => (h.slots k).trans (g.slots k)
  aux := g.aux.trans h.aux
  tripWindow := g.tripWindow.trans h.tripWindow
  reclose := g.reclose.trans h.reclose
  brkFault := fun hs => g.brkFault (h.brkFault hs)
  wrongLatch := fun hs => g.wrongLatch (h.wrongLatch hs)
  hist := g.hist.trans h.hist
  mean := g.mean.trans h.mean
  buckets := g.buckets.trans h.buckets
  overloadLatch := g.overloadLatch.trans h.overloadLatch
  sample := g.sample.trans h.sample
  bucket := g.bucket.trans h.bucket
  mask := g.mask.trans h.mask
  flags := fun f hs => g.flags f (h.flags f hs)

theorem State.Kept.trans {s t u : State} (h : s.Kept t) (g : t.Kept u) : s.Kept u where
  toFramed := h.toFramed.trans g.toFramed
  limit := g.limit.trans h.limit
  expected := g.expected.trans h.expected
  band := g.band.trans h.band
  profile := g.profile.trans h.profile
  roles := g.roles.trans h.roles

@[simp] theorem State.Kept.refl (s : State) : s.Kept s := {}

/-- An operation made only where a condition holds. -/
theorem State.Kept.andThen {s t u : State} {c : Prop} [Decidable c] (h : s.Kept t) (g : t.Kept u) :
    s.Kept (if c then u else t) := by
  split
  · exact h.trans g
  · exact h

/-! #### Flags and TRO -/

@[simp] theorem State.raise_kept (s : State) (f : Flag) : s.Kept (s.raise f) where
  mask := Fnu.raise_mask _ _
  flags := fun _ => Fnu.raise_keeps _ _ _

@[simp] theorem State.raiseIf_kept (s : State) (c : Bool) (f : Flag) : s.Kept (s.raiseIf c f) := by
  unfold State.raiseIf
  split <;> simp

@[simp] theorem State.raiseAll_kept (s : State) (fs : List Flag) : s.Kept (s.raiseAll fs) := by
  induction fs generalizing s with
  | nil => exact .refl s
  | cons f fs ih => exact (s.raise_kept f).trans (ih _)

@[simp] theorem State.troUpdate_kept (s : State) : s.Kept s.troUpdate :=
  .trans {} (State.raiseIf_kept _ _ _)

@[simp] theorem State.holdSeq_kept (s : State) : s.Kept s.holdSeq := .trans {} (State.troUpdate_kept _)
@[simp] theorem State.releaseSeq_kept (s : State) : s.Kept s.releaseSeq := .trans {} (State.troUpdate_kept _)
@[simp] theorem State.holdDemand_kept (s : State) : s.Kept s.holdDemand := .trans {} (State.troUpdate_kept _)
@[simp] theorem State.releaseDemand_kept (s : State) : s.Kept s.releaseDemand := .trans {} (State.troUpdate_kept _)

@[simp] theorem State.marksUpdate_kept (s : State) : s.Kept s.marksUpdate := by
  simp only [State.marksUpdate]
  refine .trans ?_ (State.troUpdate_kept _)
  split_ifs <;> exact {}

/-! #### The Breaker Interface -/

@[simp] theorem State.brkEnterOpen_kept (s : State) : s.Kept s.brkEnterOpen := .trans {} (State.releaseDemand_kept _)

@[simp] theorem State.brkEnterOpening_kept (s : State) : s.Kept s.brkEnterOpening := by
  simp only [State.brkEnterOpening]
  split
  · exact {}
  · exact .trans {} (State.brkEnterOpen_kept _)

@[simp] theorem State.brkEnterClosing_kept (s : State) : s.Kept s.brkEnterClosing := {}

@[simp] theorem State.openNow_kept (s : State) : s.Kept s.openNow := by
  unfold State.openNow
  split <;> simp

@[simp] theorem State.openBySequencer_kept (s : State) : s.Kept s.openBySequencer := by
  unfold State.openBySequencer
  split <;> simp

@[simp] theorem State.rampEnd_kept (s : State) : s.Kept s.rampEnd := by
  unfold State.rampEnd
  split <;> simp

@[simp] theorem State.rampReport_kept (s : State) : s.Kept s.rampReport := by
  unfold State.rampReport
  split <;> simp

@[simp] theorem State.rampStart_kept (s : State) : s.Kept s.rampStart := by
  have h : s.Kept { s with bki := { s.bki with ramp := ms s.tRamp } }.holdDemand := .trans {} (State.holdDemand_kept _)
  simp only [State.rampStart]
  split
  · exact h.trans (State.rampEnd_kept _)
  · exact h.trans (State.rampReport_kept _)

@[simp] theorem State.rampAbandon_kept (s : State) : s.Kept s.rampAbandon := by
  unfold State.rampAbandon
  split
  · exact .trans {} (State.releaseDemand_kept _)
  · simp

@[simp] theorem State.powerWritten_kept (s : State) (b : Bool) : s.Kept (s.powerWritten b) := by
  unfold State.powerWritten
  (repeat' split) <;> simp

@[simp] theorem State.expectedWritten_kept (s : State) (x : Option LineSystem) : s.Kept (s.expectedWritten x) := by
  unfold State.expectedWritten
  split
  · exact .refl s
  · exact {}

/-- A write of the expected system alone, as RERAISE of a BOUNDARY makes it (R83, R128). -/
theorem State.writeExpected_kept (s : State) (x : Option LineSystem) :
    s.Kept (s.writeDemand { s.cs.demand with expected := x }) :=
  .trans (.trans {} (State.expectedWritten_kept _ _)) (State.powerWritten_kept _ _)

@[simp] theorem State.wrongTest_kept (s : State) : s.Kept s.wrongTest :=
  .trans { wrongLatch := fun h => by simp [h] } (State.raiseIf_kept _ _ _)

@[simp] theorem State.testItems_kept (s : State) : s.Kept s.testItems := {}

@[simp] theorem State.interlock_kept (s : State) : s.Kept s.interlock := by
  unfold State.interlock
  split
  · split
    · exact s.testItems_kept.trans (State.brkEnterClosing_kept _)
    · exact {}
  · split
    · simp
    · exact s.testItems_kept.trans (State.brkEnterOpening_kept _)
  · split <;> simp
  · exact {}
  · exact {}

/-! #### The Configuration Selector -/

@[simp] theorem State.deliver_kept (s : State) (t : Target) : s.Kept (s.deliver t) where
  slots k := by simp [State.deliver]

@[simp] theorem State.holdOrDeliver_kept (s : State) (t : Target) : s.Kept (s.holdOrDeliver t) := by
  unfold State.holdOrDeliver
  split
  · exact {}
  · split <;> simp

@[simp] theorem State.evaluate_kept (s : State) : s.Kept s.evaluate :=
  (State.Kept.trans {} (State.raiseIf_kept _ _ _)).trans ((State.raiseIf_kept _ _ _).trans (State.holdOrDeliver_kept _ _))

@[simp] theorem State.csReact_kept (s : State) : s.Kept s.csReact := by
  unfold State.csReact
  split <;> simp

@[simp] theorem State.deliverPending_kept (s : State) : s.Kept s.deliverPending := by
  simp only [State.deliverPending]
  split
  · exact {}
  · split
    · exact {}
    · exact .trans {} (State.deliver_kept _ _)

@[simp] theorem State.csHoldOn_kept (s : State) : s.Kept s.csHoldOn := {}

@[simp] theorem State.csHoldOff_kept (s : State) : s.Kept s.csHoldOff := by
  unfold State.csHoldOff
  split
  · simp
  · split
    · exact .trans {} (State.deliverPending_kept _)
    · simp

@[simp] theorem State.csRelease_kept (s : State) (next : Option LineSystem) : s.Kept (s.csRelease next) := by
  unfold State.csRelease
  split
  · simp
  · exact ((s.writeExpected_kept _).trans (State.csReact_kept _)).trans (State.deliverPending_kept _)

/-! #### The queue -/

@[simp] theorem State.recordClose_kept (s : State) (e : Entry) (r : CloseResult) (last : Option Step) :
    s.Kept (s.recordClose e r last) :=
  .trans {} (State.raiseAll_kept _ _)

@[simp] theorem State.setHolds_kept (s : State) (h : SeqHold) : s.Kept (s.setHolds h) where
  slots k := by simp [State.setHolds]

@[simp] theorem State.releaseHolds_kept (s : State) : s.Kept s.releaseHolds where
  slots k := by simp [State.releaseHolds]

@[simp] theorem State.planClosed_kept (s : State) : s.Kept s.planClosed := by
  have h1 : s.Kept (if s.psq.seqHeld then s.releaseSeq else s) := .andThen (.refl s) s.releaseSeq_kept
  have h2 (u : State) : u.Kept (if u.psq.slotHold = .none then u else u.releaseHolds) := by split <;> simp
  exact (h1.trans (h2 _)).trans {}

@[simp] theorem State.closeEntry_kept (s : State) (e : Entry) (r : CloseResult) (last : Option Step) :
    s.Kept (s.closeEntry e r last) := by
  unfold State.closeEntry
  split_ifs
  · exact ((s.recordClose_kept e r last).trans (State.planClosed_kept _)).trans (State.csHoldOff_kept _)
  · simp
  · simp

/-- A fold of operations that each keep the frame keeps it. -/
theorem State.foldl_kept {α : Type} {f : State → α → State} (hf : ∀ (u : State) (a : α), u.Kept (f u a)) (as : List α)
    (s : State) : s.Kept (as.foldl f s) := by
  induction as generalizing s with
  | nil => exact .refl s
  | cons a as ih => exact (hf s a).trans (ih _)

@[simp] theorem State.skipPassed_kept (s : State) (e : Entry) : s.Kept (s.skipPassed e) := by
  unfold State.skipPassed
  split <;> simp

@[simp] theorem State.skipAll_kept (s : State) : s.Kept s.skipAll := State.foldl_kept State.skipPassed_kept _ s

@[simp] theorem State.zoneTest_kept (s : State) (e : Entry) : s.Kept (s.zoneTest e) := by
  unfold State.zoneTest
  split
  · simp
  · split
    · simp
    · split
      · exact {}
      · simp

@[simp] theorem State.zonesAll_kept (s : State) : s.Kept s.zonesAll := State.foldl_kept State.zoneTest_kept _ s

@[simp] theorem State.closeReversed_kept (s : State) (e : Entry) : s.Kept (s.closeReversed e) := by
  unfold State.closeReversed
  split <;> simp

@[simp] theorem State.closeAllReversed_kept (s : State) : s.Kept s.closeAllReversed :=
  (State.foldl_kept State.closeReversed_kept _ s).trans {}

/-! #### The Passage Sequencer -/

@[simp] theorem State.closeActive_kept (s : State) (r : CloseResult) (last : Option Step) : s.Kept (s.closeActive r last) := by
  unfold State.closeActive
  split
  · exact (s.raiseIf_kept _ _).trans (State.closeEntry_kept _ _ _ _)
  · simp

@[simp] theorem State.abortWith_kept (s : State) (r : AbortReason) (last : Option Step) : s.Kept (s.abortWith r last) :=
  s.closeActive_kept _ _

@[simp] theorem State.abortNoOpen_kept (s : State) : s.Kept s.abortNoOpen :=
  (s.setHolds_kept _).trans (State.abortWith_kept _ _ _)

@[simp] theorem State.startStep_kept (s : State) (st : Step) : s.Kept (s.startStep st) := by
  simp only [State.startStep]
  split
  · split <;> exact {}
  · exact .trans {} (State.openBySequencer_kept _)
  · exact .trans {} (State.setHolds_kept _ _)
  · exact {}
  · exact (State.Kept.trans {} (State.csRelease_kept _ _)).trans (State.releaseHolds_kept _)
  · exact {}

@[simp] theorem State.advance_kept (n : Nat) (c : Cause) (s : State) : s.Kept (State.advance n c s) := by
  induction n generalizing c s with
  | zero => exact .refl s
  | succ n ih =>
    unfold State.advance
    split
    · simp
    · exact (s.startStep_kept _).trans (ih _ _)
    · simp
    · simp

@[simp] theorem State.psqReact_kept (s : State) : s.Kept s.psqReact := by
  unfold State.psqReact
  split <;> simp

@[simp] theorem State.reportTotal_kept (s : State) : s.Kept s.reportTotal := by
  simp only [State.reportTotal]
  split
  · exact s.rampReport_kept.trans (State.advance_kept _ _ _)
  · simp

@[simp] theorem State.setStatus_kept (s : State) (e : Entry) (st : EntryStatus) : s.Kept (s.setStatus e st) := {}

@[simp] theorem State.arm_kept (s : State) (e : Entry) : s.Kept (s.arm e) := .trans {} (State.csHoldOn_kept _)

@[simp] theorem State.activate_kept (s : State) (e : Entry) : s.Kept (s.activate e) :=
  ((State.Kept.trans {} (State.holdSeq_kept _)).trans (State.startStep_kept _ _)).trans (State.advance_kept _ _ _)

@[simp] theorem State.deadlineTests_kept (s : State) (deadline : Pos) : s.Kept (s.deadlineTests deadline) := by
  simp only [State.deadlineTests]
  split
  · have h (em : Bool) : s.Kept (if s.bki.state = .opened then s
        else { s with psq := { s.psq with emergency := em } }.openNow) := by
      split
      · simp
      · exact .trans {} (State.openNow_kept _)
    split
    · exact ((h _).trans (State.setHolds_kept _ _)).trans (State.abortWith_kept _ _ _)
    · exact h _
  · simp

@[simp] theorem State.psqUpdate_kept (s : State) : s.Kept s.psqUpdate := by
  unfold State.psqUpdate
  split
  · simp
  · split
    · simp
    · exact (((State.Kept.andThen {} (State.arm_kept _ _)).andThen (State.activate_kept _ _)).trans
        (State.deadlineTests_kept _ _)).andThen (State.advance_kept _ _ _)

/-! #### Handing on -/

@[simp] theorem State.pointsTidy_kept (s : State) : s.Kept s.pointsTidy := by
  unfold State.pointsTidy
  split
  · exact {}
  · simp

@[simp] theorem State.bkiReact_kept (s : State) : s.Kept s.bkiReact := by
  have h := s.wrongTest_kept.trans (State.interlock_kept _)
  simp only [State.bkiReact]
  split
  · exact h.trans (State.abortWith_kept _ _ _)
  · exact h

@[simp] theorem State.puReact_kept (s : State) : s.Kept s.puReact where
  slots k := by simp [State.puReact]

@[simp] theorem State.iceLevelUpdate_kept (s : State) : s.Kept s.iceLevelUpdate := .trans {} (State.raiseIf_kept _ _ _)

/-- A recomputation writes the computed and the measured level and the fall timer alone (R154, R155). -/
theorem Icu.recompute_eq (i : Icu) : i.recompute =
    { i with computed := i.recompute.computed, measured := i.recompute.measured, fall := i.recompute.fall } := by
  simp only [Icu.recompute]
  split_ifs <;> rfl

@[simp] theorem State.icuReact_kept (s : State) : s.Kept s.icuReact :=
  .trans { icu := by rw [Icu.recompute_eq] } (State.iceLevelUpdate_kept _)

/-- Taking the inputs is the one operation that writes the limits (R162). -/
theorem State.csuInputs_framed (s : State) : s.Framed s.csuInputs := .trans {} (State.marksUpdate_kept _).toFramed

theorem State.csuReact_framed (s : State) : s.Framed s.csuReact := by
  simp only [State.csuReact]
  split
  · exact s.csuInputs_framed
  · exact s.csuInputs_framed.trans (State.reportTotal_kept _).toFramed

theorem State.settle_framed (s : State) : s.Framed s.settle :=
  ((s.icuReact_kept.trans (State.csReact_kept _)).toFramed.trans (State.csuReact_framed _)).trans
    (State.bkiReact_kept _).toFramed

theorem State.round_framed (s : State) : s.Framed s.round :=
  (s.puReact_kept.trans (State.psqReact_kept _)).toFramed.trans (State.settle_framed _)

theorem State.rounds_framed (n : Nat) (s : State) : s.Framed (State.rounds n s) := by
  induction n generalizing s with
  | zero => exact (State.Kept.refl s).toFramed
  | succ n ih => exact s.round_framed.trans (ih _)

theorem State.handOn_framed (s : State) : s.Framed s.handOn :=
  (s.settle_framed.trans (State.rounds_framed _ _)).trans (State.pointsTidy_kept _).toFramed

theorem State.estimateUpdate_framed (s : State) : s.Framed s.estimateUpdate :=
  ((s.psqUpdate_kept.trans (State.skipAll_kept _)).trans (State.zonesAll_kept _)).toFramed.trans (State.handOn_framed _)

/-! ### The limits that handing on gives -/

/-- Every slot's limit is the one the values held give (R162). -/
def State.LimitsGiven (s : State) : Prop := ∀ k, s.csu.limit.get k = s.limitNow

theorem State.Kept.limitNow {s t : State} (h : s.Kept t) : t.limitNow = s.limitNow := by
  simp only [State.limitNow, State.limitParam, State.param, h.lif, h.expected, h.band, h.profile]

theorem State.Kept.limitsGiven {s t : State} (h : s.Kept t) (hs : s.LimitsGiven) : t.LimitsGiven := fun k => by
  rw [h.limit, h.limitNow, hs k]

/-- The values the Collection Supervisor takes from their owners (R162, R174). -/
structure State.CsuTaken (s t : State) : Prop where
  expected : t.csu.expected = s.cs.demand.expected
  band : t.csu.band = s.pe.band
  profile : t.csu.profile = s.cs.current.profile
  roles : ∀ k, t.csu.roles.get k = (s.slots.get k).role

theorem State.CsuTaken.trans_kept {s t u : State} (h : s.CsuTaken t) (g : t.Kept u) : s.CsuTaken u where
  expected := g.expected.trans h.expected
  band := g.band.trans h.band
  profile := g.profile.trans h.profile
  roles k := by rw [g.roles, h.roles]

theorem State.csuInputs_taken (s : State) : s.CsuTaken s.csuInputs :=
  .trans_kept ⟨rfl, rfl, rfl, fun _ => by simp⟩ (State.marksUpdate_kept _)

theorem State.csuInputs_limitsGiven (s : State) : s.csuInputs.LimitsGiven :=
  (State.marksUpdate_kept _).limitsGiven fun _ => by simp [State.limitNow, State.limitParam, State.param]

theorem State.csuReact_of_csuInputs (s : State) : s.csuInputs.Kept s.csuReact := by
  simp only [State.csuReact]
  split <;> simp

theorem State.csuReact_taken (s : State) : s.CsuTaken s.csuReact := s.csuInputs_taken.trans_kept s.csuReact_of_csuInputs

theorem State.settle_limitsGiven (s : State) : s.settle.LimitsGiven :=
  ((State.csuReact_of_csuInputs _).trans (State.bkiReact_kept _)).limitsGiven (State.csuInputs_limitsGiven _)

theorem State.rounds_limitsGiven (n : Nat) {s : State} (h : s.LimitsGiven) : (State.rounds n s).LimitsGiven := by
  induction n generalizing s with
  | zero => exact h
  | succ n ih => exact ih (State.settle_limitsGiven _)

theorem State.handOn_limitsGiven (s : State) : s.handOn.LimitsGiven :=
  (State.pointsTidy_kept _).limitsGiven (State.rounds_limitsGiven _ s.settle_limitsGiven)

/-- Settles O60: the frame is put together from one frame an operation, and the limits stand since the last taking of the
Collection Supervisor's inputs. -/
theorem handingOnFrame : Obligations.HandingOnFrame := by
  intro s
  have h := s.handOn_framed
  have hu := s.csuReact_taken
  refine ⟨fun k => ?_, hu.expected, hu.band, hu.profile, hu.roles, by simp, by simp, by simp, h.lif, h.posted, h.lsu, h.rules,
    h.demand, h.icu, fun k => ?_, h.aux, h.tripWindow, h.reclose, h.brkFault, h.wrongLatch, h.hist, h.mean, h.buckets,
    h.overloadLatch, h.sample, h.bucket, h.mask, h.flags⟩
  · rw [s.handOn_limitsGiven k]
    simp only [State.limitNow, State.limitParam, State.param, h.lif, profilePercent]
    cases s.handOn.csu.expected with
    | none => rfl
    | some x => by_cases hb : s.handOn.csu.band = 0 <;> simp [hb]
  · obtain ⟨he, ho, hm, hd, hc, ha, hf, hl⟩ := h.slots k
    exact ⟨he, ho, hm, hd, hc, ha, hf, hl⟩

end Sys2Proof.Machine
end

section
/-! PROOFS. A request served to its reply, the flags of an estimate update, an empty queue and a reversal: O17, O18 and O20. -/

set_option Elab.async false

namespace Sys2Proof.Machine

/-! ### A request served to its reply -/

theorem whenRunning_of_running {s : State} (h : s.inReset = false) (f : State → State) : whenRunning f s = f s := by
  simp [whenRunning, h]

/-- An owner that answers: its state, with the reply on its way (R189, R190). -/
theorem State.serveOwner_of_answer {s t : State} {l : Link} {code : Nat} {p : List Byte} {a : Answer}
    {owner : List Byte → State → State × Option Answer} (h : owner p (s.beginService l) = (t, some a)) :
    s.serveOwner l code p owner = t.replied l code a.payload := by
  simp only [State.serveOwner, h]
  exact State.sendReply_eq_replied _ _ _ _

/-- A request from the link that holds command, whose owner answers (R189). -/
theorem State.Commands.served {s t : State} {l : Link} {r : Req} {p : List Byte} {a : Answer}
    {owner : List Byte → State → State × Option Answer} (h : s.Commands l r p)
    (ho : owner p (s.beginService l) = (t, some a)) :
    whenRunning (fun u => u.serve l r owner) s = t.replied l r.code a.payload := by
  rw [whenRunning_of_running h.running, State.serve_of_commands h, State.serveOwner_of_answer ho]

/-- A request that changes no state, on either link, whose owner answers (R189). -/
theorem State.Starts.served {s t : State} {l : Link} {r : Req} {p : List Byte} {a : Answer}
    {owner : List Byte → State → State × Option Answer} (h : s.Starts l r p) (hl : p.length = r.len)
    (hr : r.changes = false) (ho : owner p (s.beginService l) = (t, some a)) :
    whenRunning (fun u => u.serve l r owner) s = t.replied l r.code a.payload := by
  rw [whenRunning_of_running h.running, State.serve_of_starts h hl hr, State.serveOwner_of_answer ho]

/-- What a reply makes of its link rests on the Link Interface alone. -/
theorem State.replied_linkOf {s t : State} (h : t.lif = s.lif) (l : Link) (code : Nat) (p : List Byte) :
    (t.replied l code p).linkOf l = (s.replied l code p).linkOf l := by
  simp [State.replied, State.linkOf, State.updLink, h]

@[simp] theorem State.replied_fnu (s : State) (l : Link) (code : Nat) (p : List Byte) : (s.replied l code p).fnu = s.fnu := rfl

/-! ### Flags that a condition raises -/

theorem State.raiseIf_has (s : State) (f : Flag) : FlagSet.has (s.raiseIf true f).fnu.flags f = true := by
  simp [State.raiseIf]

theorem State.raiseAll_has (s : State) {fs : List Flag} {f : Flag} (h : f ∈ fs) :
    FlagSet.has (s.raiseAll fs).fnu.flags f = true := by
  induction fs generalizing s with
  | nil => cases h
  | cons g gs ih =>
    cases h with
    | head => exact (State.raiseAll_kept _ gs).flags f (by simp)
    | tail _ h => exact ih _ h

/-! ### The estimate at a report and at a refresh -/

/-- POS_LOST is set by a change of status into LOST (R10). -/
theorem State.setPe_posLost {s : State} {p : Pe} (hp : p.status = .lost) (hs : s.pe.status ≠ .lost) :
    FlagSet.has (s.setPe p).fnu.flags .posLost = true := by
  simp [State.setPe, hp, hs, State.raiseIf_has]

theorem State.setPe_kept (s : State) (p : Pe) : s.Kept (s.setPe p) := .trans {} (State.raiseIf_kept _ _ _)

@[simp] theorem State.report_lif (s : State) (pos : Pos) (v u : Nat) : (s.report pos v u).lif = s.lif := by
  simp [State.report]

/-- A report is an estimate update of the state with the jump flag and the new estimate (R4, R5). -/
theorem State.report_eq (s : State) (pos : Pos) (v u : Nat) : s.report pos v u =
    ((s.raiseIf (s.pe.jumps pos) .posJump).setPe (s.reportedPe pos v u)).estimateUpdate := rfl

theorem Pe.jumps_iff {p : Pe} {pos : Pos} :
    p.jumps pos = true ↔ p.status ≠ .noFix ∧ p.u + 1000 < (signedDiff pos p.e).natAbs := by
  simp [Pe.jumps]

/-- A jump sets POS_JUMP, which the update keeps (R5). -/
theorem State.report_posJump {s : State} {pos : Pos} (v u : Nat) (h : s.pe.jumps pos = true) :
    FlagSet.has (s.report pos v u).fnu.flags .posJump = true := by
  rw [State.report_eq]
  refine ((State.setPe_kept _ _).toFramed.trans (State.estimateUpdate_framed _)).flags _ ?_
  rw [h]
  exact s.raiseIf_has _

/-- A report into LOST sets POS_LOST, which the update keeps (R10). -/
theorem State.report_posLost {s : State} {pos : Pos} (v : Nat) {u : Nat} (h : s.statusFor u 0 = .lost)
    (hs : s.pe.status ≠ .lost) : FlagSet.has (s.report pos v u).fnu.flags .posLost = true := by
  rw [State.report_eq]
  exact (State.estimateUpdate_framed _).flags _ (State.setPe_posLost h (by simpa using hs))

/-- The status of a report: the age is 0, so it is VALID or LOST (R9). -/
theorem State.statusFor_zero (s : State) (u : Nat) : s.statusFor u 0 = if s.lostUnc ≤ u then .lost else .valid := by
  simp [State.statusFor]

/-- The bytes of a REPORT_POSITION reply: the status and the two values used (R202). -/
theorem reportAnswer_payload (clamped : Prop) [Decidable clamped] (v u : Nat) :
    Answer.payload ⟨if clamped then .ok else .clamped, [.wide 2 v, .wide 2 u]⟩ =
      [if clamped then 0x00 else 0x01] ++ toBE 2 v ++ toBE 2 u := by
  by_cases h : clamped <;> simp [Answer.payload, pack, Status.code, h]

/-- Settles O17: the owner's report, with its flags kept by the update that follows it. -/
theorem reportReplacesTheEstimate : Obligations.ReportReplacesTheEstimate := by
  intro s l p h pos v u v' u' status
  have hserved := h.served (owner := ownReportPosition) rfl
  refine ⟨_, congrArg Host.Outcome.next hserved, ?_, ?_, fun hs hd => ?_, fun hl hs => ?_⟩
  · rw [State.replied_pe, State.report_pe, State.reportedPe, State.statusFor_zero]
    rfl
  · rw [State.replied_linkOf (State.report_lif _ _ _ _), reportAnswer_payload]
    rfl
  · rw [State.replied_fnu]
    exact State.report_posJump _ _ (Pe.jumps_iff.mpr ⟨hs, hd⟩)
  · rw [State.replied_fnu]
    exact State.report_posLost _ ((State.statusFor_zero _ _).trans hl) hs

/-- Settles O18: in NO_FIX nothing but the timer is written; otherwise the values of R7 and R9, with POS_LOST kept by the update. -/
theorem refreshDeadReckons : Obligations.RefreshDeadReckons := by
  intro s hrun
  have hexec : exec .positionRefresh s = .next (if s.pe.status = .noFix then { s with pe := { s.pe with refresh := ms 10 } }
      else (s.setPe s.refreshed).estimateUpdate) := congrArg _ (whenRunning_of_running hrun _)
  refine ⟨fun hs => by rw [hexec, if_pos hs]; rfl, fun hs => ⟨_, by rw [hexec, if_neg hs], ?_, fun hl hne => ?_⟩⟩
  · rw [State.estimateUpdate_pe, State.setPe_pe]
    rfl
  · exact (State.estimateUpdate_framed _).flags _ (State.setPe_posLost hl hne)

/-! ### An empty queue is handed on as it is -/

theorem Teq.activeEntry_of_empty {q : Teq} (h : q.entries = []) : q.activeEntry = none := by
  simp [Teq.activeEntry, h]

theorem State.closeActive_of_empty {s : State} (h : s.teq.entries = []) (r : CloseResult) (last : Option Step) :
    s.closeActive r last = s := by
  simp [State.closeActive, Teq.activeEntry_of_empty h]

theorem State.abortNoOpen_teq_of_empty {s : State} (h : s.teq.entries = []) : s.abortNoOpen.teq = s.teq := by
  unfold State.abortNoOpen State.abortWith
  rw [State.closeActive_of_empty (by simpa using h), State.setHolds_teq]

theorem State.advance_teq_of_empty (n : Nat) (c : Cause) {s : State} (h : s.teq.entries = []) :
    (State.advance n c s).teq = s.teq := by
  induction n generalizing c s with
  | zero => rfl
  | succ n ih =>
    unfold State.advance
    split
    · rfl
    · rw [ih _ (by simpa using h), State.startStep_teq]
    · rw [State.closeActive_of_empty h]
    · exact State.abortNoOpen_teq_of_empty h

theorem State.psqReact_teq_of_empty {s : State} (h : s.teq.entries = []) : s.psqReact.teq = s.teq := by
  unfold State.psqReact
  split
  · exact State.advance_teq_of_empty _ _ h
  · rfl

theorem State.reportTotal_teq_of_empty {s : State} (h : s.teq.entries = []) : s.reportTotal.teq = s.teq := by
  simp only [State.reportTotal]
  split
  · rw [State.advance_teq_of_empty _ _ (by simpa using h), State.rampReport_teq]
  · simp

theorem State.csuReact_teq_of_empty {s : State} (h : s.teq.entries = []) : s.csuReact.teq = s.teq := by
  simp only [State.csuReact]
  split
  · simp
  · rw [State.reportTotal_teq_of_empty (by simpa using h), State.csuInputs_teq]

theorem State.bkiReact_teq_of_empty {s : State} (h : s.teq.entries = []) : s.bkiReact.teq = s.teq := by
  simp only [State.bkiReact, State.abortWith]
  split
  · rw [State.closeActive_of_empty (by simpa using h), State.interlock_teq, State.wrongTest_teq]
  · simp

theorem State.settle_teq_of_empty {s : State} (h : s.teq.entries = []) : s.settle.teq = s.teq := by
  have hc : s.icuReact.csReact.csuReact.teq = s.teq := by
    rw [State.csuReact_teq_of_empty (by simpa using h), State.csReact_teq, State.icuReact_teq]
  unfold State.settle
  rw [State.bkiReact_teq_of_empty (by rw [hc, h]), hc]

theorem State.round_teq_of_empty {s : State} (h : s.teq.entries = []) : s.round.teq = s.teq := by
  have hp : s.puReact.psqReact.teq = s.teq := by
    rw [State.psqReact_teq_of_empty (by simpa using h), State.puReact_teq]
  unfold State.round
  rw [State.settle_teq_of_empty (by rw [hp, h]), hp]

theorem State.rounds_teq_of_empty (n : Nat) {s : State} (h : s.teq.entries = []) : (State.rounds n s).teq = s.teq := by
  induction n generalizing s with
  | zero => rfl
  | succ n ih =>
    unfold State.rounds
    rw [ih (by rw [State.round_teq_of_empty h, h]), State.round_teq_of_empty h]

theorem State.handOn_teq_of_empty {s : State} (h : s.teq.entries = []) : s.handOn.teq = s.teq := by
  have hs := State.settle_teq_of_empty h
  unfold State.handOn
  rw [State.pointsTidy_teq, State.rounds_teq_of_empty _ (by rw [hs, h]), hs]

/-! ### A reversal closes every entry -/

/-- The queue after a close of a queued entry: the record, and nothing more (R24). -/
theorem State.closeEntry_teq_of_mem {s : State} {e : Entry} (h : e ∈ s.teq.entries) (r : CloseResult) (last : Option Step) :
    (s.closeEntry e r last).teq = { s.teq with
      entries := s.teq.entries.erase e, closed := (⟨e.tag, e.kind, r, last, s.pe.e⟩ :: s.teq.closed).take 8,
      closedCount := s.teq.closedCount + 1, halted := s.teq.halted || r.halts } := by
  unfold State.closeEntry
  rw [if_pos h]
  split <;> simp [State.recordClose_teq]

/-- A close of a queued entry sets the flags of its result (R24). -/
theorem State.closeEntry_flags {s : State} {e : Entry} (h : e ∈ s.teq.entries) {r : CloseResult} (last : Option Step) {f : Flag}
    (hf : f ∈ closeFlags e.kind.isSection r) : FlagSet.has (s.closeEntry e r last).fnu.flags f = true := by
  have hrec : FlagSet.has (s.recordClose e r last).fnu.flags f = true := State.raiseAll_has _ hf
  unfold State.closeEntry
  rw [if_pos h]
  split
  · exact ((State.planClosed_kept _).trans (State.csHoldOff_kept _)).flags f hrec
  · exact hrec

/-- Closing the head entry at a REVERSE leaves the rest, counts one, and marks an ACTIVE entry's abort (R32). -/
theorem State.closeReversed_head {s : State} {e : Entry} {es : List Entry} (h : s.teq.entries = e :: es) :
    (s.closeReversed e).teq.entries = es ∧ (s.closeReversed e).teq.closedCount = s.teq.closedCount + 1 ∧
      (e.status = .active → FlagSet.has (s.closeReversed e).fnu.flags .entryAbort = true) := by
  have hm : e ∈ s.teq.entries := by simp [h]
  unfold State.closeReversed
  split
  next ha =>
    rw [State.closeEntry_teq_of_mem hm]
    exact ⟨by simp [h], rfl, fun _ => State.closeEntry_flags hm _ (by simp [closeFlags, AbortReason.halts])⟩
  next ha =>
    rw [State.closeEntry_teq_of_mem hm]
    exact ⟨by simp [h], rfl, fun h => absurd h ha⟩

/-- Closing all entries, head first: none is left, the Closed counter counts each, and an ACTIVE one sets ENTRY_ABORT (R32). -/
theorem State.foldl_closeReversed {es : List Entry} {s : State} (h : s.teq.entries = es) :
    (es.foldl State.closeReversed s).teq.entries = [] ∧
      (es.foldl State.closeReversed s).teq.closedCount = s.teq.closedCount + BitVec.ofNat 32 es.length ∧
      ((∃ e ∈ es, e.status = .active) → FlagSet.has (es.foldl State.closeReversed s).fnu.flags .entryAbort = true) := by
  induction es generalizing s with
  | nil => exact ⟨h, by simp, by simp⟩
  | cons e es ih =>
    obtain ⟨hentries, hcount, hflag⟩ := State.closeReversed_head h
    obtain ⟨hnone, hcounts, hflags⟩ := ih hentries
    refine ⟨hnone, ?_, fun hact => ?_⟩
    · rw [List.foldl_cons, hcounts, hcount, List.length_cons, BitVec.ofNat_add]
      ac_rfl
    · rw [List.exists_mem_cons_iff] at hact
      obtain hhead | htail := hact
      · exact (State.foldl_kept State.closeReversed_kept es _).flags _ (hflag hhead)
      · exact hflags htail

/-- Settles O20: with the train moving the refusal alone; at rest the reversed estimate, with every entry closed before anything is
handed on. -/
theorem reverseTurnsTheTrain : Obligations.ReverseTurnsTheTrain := by
  intro s l h
  refine ⟨fun hv => ?_, fun hv => ?_⟩
  · have howner : ownReverse [] (s.beginService l) = (s.beginService l, some (.just .motion)) := if_neg hv
    exact congrArg Host.Outcome.next (h.served howner)
  · let u : State := { s.beginService l with pe := s.pe.reversed }
    have howner : ownReverse [] (s.beginService l) = (u.closeAllReversed.handOn, some (.just .ok)) := if_pos hv
    obtain ⟨hnone, hcount, hflag⟩ := State.foldl_closeReversed (s := u) rfl
    have hteq : u.closeAllReversed.handOn.teq = u.closeAllReversed.teq := State.handOn_teq_of_empty hnone
    refine ⟨_, congrArg Host.Outcome.next (h.served howner), ?_, ?_, ?_, ?_, ?_, fun hact => ?_, ?_⟩
    · rw [State.replied_pe, State.handOn_pe, State.closeAllReversed_pe]
      rfl
    · rw [State.replied_teq, hteq]
      exact hnone
    · rw [State.replied_teq, hteq]
      rfl
    · rw [State.replied_teq, hteq]
      exact u.closeAllReversed_kept.posted
    · rw [State.replied_teq, hteq]
      exact hcount
    · rw [State.replied_fnu]
      exact (State.handOn_framed _).flags _ (hflag hact)
    · exact State.replied_linkOf (by simp [u]) l _ _

end Sys2Proof.Machine
end

section
/-! PROOFS. Reset, the clock, the laws at reset, and two readouts: O3, O2, O4 and O30. -/

set_option Elab.async false

namespace Sys2Proof.Machine

/-! ### Reset -/

/-- R197: the part reset at some pins has every block at its reset values, whatever the queue of commands. -/
theorem State.resetWith_atReset (pins : Pins) (pending : List Instr) : (State.resetWith pins pending).AtReset pins where
  pe := rfl
  teq := rfl
  lsu := rfl
  slots k := by cases k <;> exact ⟨rfl, rfl, rfl, rfl, rfl, rfl, rfl, rfl, rfl, rfl, rfl, rfl, rfl⟩
  slotInputs k := by cases k <;> exact ⟨rfl, rfl, rfl, rfl⟩
  slotOutputs k := by cases k <;> exact ⟨rfl, rfl, rfl, rfl, rfl, rfl, rfl⟩
  cs := rfl
  bki := rfl
  psq := rfl
  icu := rfl
  csu := rfl
  fnu := rfl
  links l := by cases l <;> rfl
  command := ⟨rfl, rfl, by cases h : pins.sel <;> simp [State.resetWith, Lif.reset, holderAtReset, h], rfl, rfl, rfl, rfl, rfl, rfl⟩
  params := rfl

/-- The reset values say nothing of RST_N itself. -/
theorem State.AtReset.withInReset {s : State} {pins : Pins} (h : s.AtReset pins) (b : Bool) :
    State.AtReset { s with inReset := b } pins where
  pe := h.pe
  teq := h.teq
  lsu := h.lsu
  slots := h.slots
  slotInputs := h.slotInputs
  slotOutputs := h.slotOutputs
  cs := h.cs
  bki := h.bki
  psq := h.psq
  icu := h.icu
  csu := h.csu
  fnu := h.fnu
  links := h.links
  command := h.command
  params := h.params

theorem State.resetPart_atReset (s : State) : s.resetPart.AtReset s.pins := State.resetWith_atReset _ _

/-- The end of the reply of an accepted RESET_PART resets the part (R197). -/
theorem State.frameEnd_of_resetDue {s : State} {l : Link} {f : List Byte} (htx : (s.linkOf l).tx = .reply f)
    (hdue : s.lif.resetDue = some l) : s.frameEnd l = s.resetPart := by
  simp [State.frameEnd, htx, hdue]

/-- Settles O3: each source answers `State.resetWith` of the levels then at the pins; RESET_PART is first served to its reply. -/
theorem resetSetsEveryBlock : Obligations.ResetSetsEveryBlock := by
  intro s pins sel baud l
  refine ⟨⟨_, rfl, State.resetWith_atReset _ _, rfl, rfl⟩, ⟨_, rfl, s.resetPart_atReset.withInReset true, rfl⟩, fun hin => ?_,
    fun f hrun htx hdue => ?_, fun h => congrArg Host.Outcome.next (h.served (owner := ownResetPart l) rfl)⟩
  · exact ⟨s.resetRise sel baud, congrArg Host.Outcome.next (if_pos hin), State.resetWith_atReset _ _, rfl, rfl⟩
  · refine ⟨s.resetPart, congrArg Host.Outcome.next ?_, s.resetPart_atReset, rfl⟩
    rw [whenRunning_of_running hrun, State.frameEnd_of_resetDue htx hdue]

/-! ### The clock -/

/-- Settles O2: `State.elapse` of one microsecond, read part by part. -/
theorem idleStepLetsTimePass : Obligations.IdleStepLetsTimePass := by
  intro s hp
  have hstep : step s = .next (s.elapse 1) := by simp [step, hp]
  refine ⟨fun hin => by simp [hstep, State.elapse, hin], fun hrun => ⟨_, hstep, ?_⟩⟩
  have helapse : s.elapse 1 = { s with
      pe := s.pe.after 1, psq := s.psq.after 1, lsu := s.lsu.after 1, slots := s.slots.map (Slot.after 1),
      bki := s.bki.after 1, icu := s.icu.after 1, csu := s.csu.after 1, lif := s.lif.after 1 } := by
    simp [State.elapse, hrun]
  rw [helapse]
  refine ⟨rfl, rfl, rfl, rfl, rfl, fun k => ?_, fun l => ?_, rfl, rfl, rfl, rfl, rfl, fun k => ?_, rfl, rfl⟩
  · rw [PerSlot.get_map]
    rfl
  · cases l <;> rfl
  · rw [PerSlot.get_map]
    rfl

/-! ### The laws at reset -/

theorem State.holdLaw_of_no_hold {s : State} (h : s.bki.hold = false) : s.holdLaw :=
  fun hs => absurd (h.symm.trans hs) Bool.false_ne_true

theorem Teq.reset_law : Teq.reset.law :=
  ⟨rfl, ⟨Nat.zero_le _, Nat.zero_le _⟩, .nil, Nat.zero_le _, fun _ h => nomatch h⟩

theorem Teq.reset_placeLaw : Teq.reset.placeLaw := ⟨.nil, Nat.zero_le _, fun _ h => nomatch h⟩

/-- A slot at reset is DISABLED, at STOW, and without a lock; its disconnector is OPEN or OPENING, and the role in effect of STOW is
STOW in both (R53, R61, R73). -/
theorem State.resetWith_slotLaw (pins : Pins) (pending : List Instr) : (State.resetWith pins pending).slotLaw := by
  intro k
  simp [State.resetWith, Slot.reset, roleFor]

theorem Icu.reset_grantLaw : Icu.reset.grantLaw := by
  refine ⟨by decide, fun k h => ?_, fun k h => ?_⟩ <;> cases k <;> cases h

theorem Csu.reset_troLaw (brk : BrkState) : (Csu.reset brk).troLaw := rfl

theorem Csu.reset_bucketLaw (brk : BrkState) : (Csu.reset brk).bucketLaw := by
  intro k
  simp [Csu.reset]

theorem State.resetWith_limitLaw (pins : Pins) (pending : List Instr) : (State.resetWith pins pending).limitLaw := by
  intro k
  simp [State.resetWith, Csu.reset]

/-- Every default lies in its range (R203). -/
theorem Lif.reset_paramLaw (sel : SelLevel) (baud : Bool) : (Lif.reset sel baud).paramLaw := by
  refine ⟨rfl, ?_⟩
  change ∀ i < 36, (paramRanges.getD i (0, 0)).1 ≤ paramDefaults.getD i 0 ∧ paramDefaults.getD i 0 ≤ (paramRanges.getD i (0, 0)).2
  decide

/-- Settles O4: the start state is the reset at the chosen pins, and each block's reset values meet its laws. -/
theorem startStateIsAtReset : Obligations.StartStateIsAtReset :=
  ⟨State.resetWith_atReset _ _, rfl, rfl, State.holdLaw_of_no_hold rfl, Teq.reset_law, Teq.reset_placeLaw, State.resetWith_slotLaw _ _,
    Icu.reset_grantLaw, Csu.reset_troLaw _, Csu.reset_bucketLaw _, State.resetWith_limitLaw _ _, Pe.reset_rangeLaw,
    Pe.growthLaw_of_noFix rfl, Lif.reset_paramLaw _ _⟩

/-! ### The readouts of the estimate and of the line -/

@[simp] theorem PosStatus.code_mod (x : PosStatus) : x.code % 4 = x.code := by cases x <;> rfl

@[simp] theorem LeadEnd.code_mod (x : LeadEnd) : x.code % 2 = x.code := by cases x <;> rfl

@[simp] theorem LineClass.code_mod (x : LineClass) : x.code % 8 = x.code := by
  cases x with
  | sys y => cases y <;> rfl
  | none | unknown => rfl

@[simp] theorem toNat_mod_two (b : Bool) : b.toNat % 2 = b.toNat := Nat.mod_eq_of_lt b.toNat_lt

/-- The items of R16, packed: the three small items share the last byte. -/
theorem positionAnswer_payload (p : List Byte) (s : State) : (positionAnswer p s).payload =
    [0x00] ++ toBE 4 s.pe.e.toNat ++ toBE 2 s.pe.u ++ toBE 4 s.pe.p.toNat ++ toBE 2 s.pe.v ++ toBE 2 s.pe.uRep ++
      toBE 2 (s.pe.age / 1000) ++ [byte (s.pe.status.code + 4 * (s.pe.band % 4) + 16 * s.pe.lead.code)] := by
  simp [positionAnswer, Answer.payload, pack, Status.code, Pe.ageMs, Nat.mul_comm]

/-- A class that may be absent, behind three bits already taken: its presence at bit 3 and its code from bit 4 (R198). -/
theorem pack_optClass (a n v : Nat) (c : Option LineClass) (r : List Item) :
    pack 3 a (optSmall 3 (c.map LineClass.code) ++ .wide n v :: r) =
      byte (a + at2 c.isSome 3 + 16 * (c.getD .none).code) :: (toBE n v ++ pack 0 0 r) := by
  cases c with
  | none => simp [optSmall, pack, at2, show LineClass.none.code = 0 from rfl]
  | some c => simp [optSmall, pack, at2, Nat.mul_comm]

/-- The items of R52, packed: the confirmed system and the candidate share a byte. -/
theorem lineAnswer_payload (p : List Byte) (s : State) : (lineAnswer p s).payload =
    let w := s.lsu.last.getD ⟨none, 0, .none⟩
    [0x00, byte (s.lsu.confirmed.code + at2 s.lsu.cand.isSome 3 + 16 * (s.lsu.cand.getD .none).code), byte s.lsu.candCount,
      byte s.lsu.last.isSome.toNat] ++ toBE 2 (w.period.getD 0) ++ toBE 2 w.magnitude ++ [byte w.cls.code] ++
      toBE 2 s.lsu.windows ++ [byte s.lsu.overCount, byte s.lsu.overvolt.toNat] := by
  have hperiod : (s.lsu.last.bind fun w => w.period).getD 0 = (s.lsu.last.getD ⟨none, 0, .none⟩).period.getD 0 := by
    cases s.lsu.last <;> rfl
  have hmagnitude : (s.lsu.last.map fun w => w.magnitude).getD 0 = (s.lsu.last.getD ⟨none, 0, .none⟩).magnitude := by
    cases s.lsu.last <;> rfl
  have hcls : (s.lsu.last.map fun w => w.cls.code).getD 0 = (s.lsu.last.getD ⟨none, 0, .none⟩).cls.code := by
    cases s.lsu.last <;> rfl
  simp only [lineAnswer, hperiod, hmagnitude, hcls, Answer.payload, List.cons_append, List.nil_append, List.append_assoc]
  simp [pack, pack_optClass, Status.code, Item.bool, toBE]

/-- Settles O30: both requests only read, and their answers pack as given. -/
theorem positionAndLineReplyBytes : Obligations.PositionAndLineReplyBytes := by
  intro s l
  refine ⟨fun h => ?_, fun h => ?_⟩
  · refine (congrArg Host.Outcome.next (h.served (owner := readOnly positionAnswer) rfl rfl rfl)).trans ?_
    rw [positionAnswer_payload]
    rfl
  · refine (congrArg Host.Outcome.next (h.served (owner := readOnly lineAnswer) rfl rfl rfl)).trans ?_
    rw [lineAnswer_payload]
    rfl

end Sys2Proof.Machine
end

section
/-! PROOFS. What an event can make of the queue: the closes, arming, activation and the ice zones as moves from queue to queue (R19, R24,
R29 to R32, R95, R120), and one lemma an operation that says which moves it makes. -/

set_option Elab.async false

namespace Sys2Proof.Machine

/-! ### The moves of the queue -/

/-- The entry with a status, where it is the one meant. -/
def Entry.withStatus (e : Entry) (st : EntryStatus) (x : Entry) : Entry := if x = e then { x with status := st } else x

/-- The queue after a close: the entry gone, its record in front of the last eight, the halt kept or set (R24, R29). -/
def Teq.close (q : Teq) (e : Entry) (c : ClosedRec) (halts : Bool) : Teq :=
  { q with entries := q.entries.erase e, closed := (c :: q.closed).take 8, closedCount := q.closedCount + 1,
           halted := q.halted || halts }

/-- The queue with one entry's status replaced (R19). -/
def Teq.withStatus (q : Teq) (e : Entry) (st : EntryStatus) : Teq := { q with entries := q.entries.map (e.withStatus st) }

/-- A move the Passage Sequencer makes in the queue: it closes a section, arms the nearest section, activates an armed one. -/
inductive Teq.SeqMove (q : Teq) : Teq → Prop
  | close {e : Entry} (hm : e ∈ q.entries) (hs : e.kind.isSection = true) (c : ClosedRec) (halts : Bool) :
      SeqMove q (q.close e c halts)
  | arm {e : Entry} (hn : q.nearest = some e) (hq : e.status = .queued) : SeqMove q (q.withStatus e .armed)
  | activate {e : Entry} (hm : e ∈ q.entries) (hs : e.kind.isSection = true) (ha : e.status = .armed) :
      SeqMove q (q.withStatus e .active)

/-- A move in the queue: the sequencer's, a close of any entry, an ice zone entered while none is INSIDE, and the end of a halt. -/
inductive Teq.Move (q : Teq) : Teq → Prop
  | seq {r : Teq} (h : q.SeqMove r) : Move q r
  | close {e : Entry} (hm : e ∈ q.entries) (c : ClosedRec) (halts : Bool) : Move q (q.close e c halts)
  | enter {e : Entry} (hz : e.kind.isSection = false) (hi : q.zoneInside = false) : Move q (q.withStatus e .inside)
  | resume : Move q { q with halted := false }

/-- Any number of the sequencer's moves. -/
def Teq.SeqMoves : Teq → Teq → Prop := Relation.ReflTransGen Teq.SeqMove

/-- Any number of moves. -/
def Teq.Moves : Teq → Teq → Prop := Relation.ReflTransGen Teq.Move

@[simp] theorem Teq.SeqMoves.refl (q : Teq) : q.SeqMoves q := Relation.ReflTransGen.refl

@[simp] theorem Teq.Moves.refl (q : Teq) : q.Moves q := Relation.ReflTransGen.refl

theorem Teq.SeqMoves.trans {q r u : Teq} (h : q.SeqMoves r) (g : r.SeqMoves u) : q.SeqMoves u := Relation.ReflTransGen.trans h g

theorem Teq.Moves.trans {q r u : Teq} (h : q.Moves r) (g : r.Moves u) : q.Moves u := Relation.ReflTransGen.trans h g

theorem Teq.SeqMove.moves {q r : Teq} (h : q.SeqMove r) : q.SeqMoves r := .single h

theorem Teq.Move.moves {q r : Teq} (h : q.Move r) : q.Moves r := .single h

theorem Teq.SeqMoves.moves {q r : Teq} (h : q.SeqMoves r) : q.Moves r := by
  induction h with
  | refl => exact .refl q
  | tail _ hlast ih => exact ih.trans (Teq.Move.seq hlast).moves

theorem Teq.mem_of_nearest {q : Teq} {e : Entry} (h : q.nearest = some e) : e ∈ q.entries := List.mem_of_find?_eq_some h

theorem Teq.isSection_of_nearest {q : Teq} {e : Entry} (h : q.nearest = some e) : e.kind.isSection = true := by
  simpa using List.find?_some h

theorem Teq.mem_of_activeEntry {q : Teq} {e : Entry} (h : q.activeEntry = some e) : e ∈ q.entries := List.mem_of_find?_eq_some h

theorem Teq.isSection_of_activeEntry {q : Teq} {e : Entry} (h : q.activeEntry = some e) : e.kind.isSection = true := by
  have := List.find?_some h
  simp_all

/-! ### The moves of a passage -/

/-- A close of a queued entry, as a queue (R24). -/
theorem State.closeEntry_teq_eq_close {s : State} {e : Entry} (h : e ∈ s.teq.entries) (r : CloseResult) (last : Option Step) :
    (s.closeEntry e r last).teq = s.teq.close e ⟨e.tag, e.kind, r, last, s.pe.e⟩ r.halts :=
  State.closeEntry_teq_of_mem h r last

theorem State.closeActive_seqMoves (s : State) (r : CloseResult) (last : Option Step) :
    s.teq.SeqMoves (s.closeActive r last).teq := by
  unfold State.closeActive
  split
  next e he =>
    have hm := Teq.mem_of_activeEntry he
    rw [State.closeEntry_teq_eq_close (by simpa using hm), State.raiseIf_teq]
    exact (Teq.SeqMove.close hm (Teq.isSection_of_activeEntry he) _ _).moves
  next => exact .refl _

theorem State.abortNoOpen_seqMoves (s : State) : s.teq.SeqMoves s.abortNoOpen.teq :=
  (s.setHolds .fast).closeActive_seqMoves _ _

theorem State.advance_seqMoves (n : Nat) (c : Cause) (s : State) : s.teq.SeqMoves (State.advance n c s).teq := by
  induction n generalizing c s with
  | zero => exact .refl _
  | succ n ih =>
    unfold State.advance
    split
    · exact .refl _
    · simpa using ih .start (s.startStep _)
    · exact s.closeActive_seqMoves _ _
    · exact s.abortNoOpen_seqMoves

theorem State.psqReact_seqMoves (s : State) : s.teq.SeqMoves s.psqReact.teq := by
  unfold State.psqReact
  split
  · exact State.advance_seqMoves _ _ s
  · exact .refl _

theorem State.reportTotal_seqMoves (s : State) : s.teq.SeqMoves s.reportTotal.teq := by
  simp only [State.reportTotal]
  split
  · simpa using State.advance_seqMoves stepFuel .total s.rampReport
  · simp

theorem State.csuReact_seqMoves (s : State) : s.teq.SeqMoves s.csuReact.teq := by
  simp only [State.csuReact]
  split
  · simp
  · simpa using s.csuInputs.reportTotal_seqMoves

theorem State.bkiReact_seqMoves (s : State) : s.teq.SeqMoves s.bkiReact.teq := by
  simp only [State.bkiReact, State.abortWith]
  split
  · simpa using s.wrongTest.interlock.closeActive_seqMoves _ _
  · simp

theorem State.settle_seqMoves (s : State) : s.teq.SeqMoves s.settle.teq := by
  have h := s.icuReact.csReact.csuReact_seqMoves
  rw [State.csReact_teq, State.icuReact_teq] at h
  exact h.trans (State.bkiReact_seqMoves _)

theorem State.round_seqMoves (s : State) : s.teq.SeqMoves s.round.teq := by
  have h := s.puReact.psqReact_seqMoves
  rw [State.puReact_teq] at h
  exact h.trans (State.settle_seqMoves _)

theorem State.rounds_seqMoves (n : Nat) (s : State) : s.teq.SeqMoves (State.rounds n s).teq := by
  induction n generalizing s with
  | zero => exact .refl _
  | succ n ih => exact s.round_seqMoves.trans (ih _)

/-- Handing on moves the queue as the sequencer does, and in no other way (R33, R138). -/
theorem State.handOn_seqMoves (s : State) : s.teq.SeqMoves s.handOn.teq := by
  unfold State.handOn
  rw [State.pointsTidy_teq]
  exact s.settle_seqMoves.trans (State.rounds_seqMoves _ _)

theorem State.activate_seqMoves {s : State} {e : Entry} (hm : e ∈ s.teq.entries) (hs : e.kind.isSection = true)
    (ha : e.status = .armed) : s.teq.SeqMoves (s.activate e).teq := by
  simp only [State.activate]
  refine .trans (Teq.SeqMove.activate hm hs ha).moves ?_
  refine Eq.subst (motive := fun q => Teq.SeqMoves q _) ?_ (State.advance_seqMoves _ _ _)
  simp
  rfl

theorem State.deadlineTests_seqMoves (s : State) (deadline : Pos) : s.teq.SeqMoves (s.deadlineTests deadline).teq := by
  simp only [State.deadlineTests, State.abortWith]
  split
  · have h (em : Bool) : (if s.bki.state = .opened then s
        else { s with psq := { s.psq with emergency := em } }.openNow).teq = s.teq := by
      split <;> simp
    split
    · refine Eq.subst (motive := fun q => Teq.SeqMoves q _) ?_ (State.closeActive_seqMoves _ _ _)
      rw [State.setHolds_teq, h]
    · rw [h]
      exact .refl _
  · exact .refl _

/-- The sequencer's last points stored (R118). -/
def State.withPoints (p : Points) (s : State) : State := { s with psq := { s.psq with lastPoints := some p } }

/-- The test of arming (R119). -/
def State.armTest (e : Entry) (p : Points) (s : State) : State :=
  if e.status = .queued ∧ reached p.e p.arming ∧ s.cleared e = false then s.arm e else s

/-- The entry as it stands behind the test of arming. -/
def Entry.behindArming (e : Entry) : Entry := if e.status = .queued then { e with status := .armed } else e

/-- The test of activation (R120). -/
def State.activateTest (e : Entry) (p : Points) (s : State) : State :=
  if e ∈ s.teq.entries ∧ e.status = .armed ∧ reached p.e p.a ∧ s.cleared e = false then s.activate e else s

/-- The position tests of an ACTIVE entry (R115, R127). -/
def State.positionTests (s : State) : State := if s.psq.phase = .active then State.advance stepFuel .update s else s

/-- An estimate update of the sequencer, test by test (R115; log 2). -/
theorem State.psqUpdate_of_nearest {s : State} {e : Entry} (hh : s.teq.halted = false) (hn : s.teq.nearest = some e) :
    s.psqUpdate = (((((s.withPoints (s.pointsOf e)).armTest e (s.pointsOf e)).activateTest e.behindArming
      (s.pointsOf e)).deadlineTests (s.pointsOf e).deadline).positionTests) := by
  simp only [State.psqUpdate, hh, hn]
  rfl

/-- With the queue HALTED or no section queued an update does nothing (R115). -/
theorem State.psqUpdate_of_none {s : State} (h : s.teq.halted = true ∨ s.teq.nearest = none) : s.psqUpdate = s := by
  unfold State.psqUpdate
  split
  · rfl
  next hh => simp [h.resolve_left hh]

theorem State.armTest_seqMoves {s : State} {e : Entry} (hn : s.teq.nearest = some e) (p : Points) :
    s.teq.SeqMoves (s.armTest e p).teq := by
  unfold State.armTest
  split
  next h => exact (Teq.SeqMove.arm hn h.1).moves
  next => exact .refl _

theorem State.activateTest_seqMoves {s : State} {e : Entry} (hs : e.kind.isSection = true) (p : Points) :
    s.teq.SeqMoves (s.activateTest e p).teq := by
  unfold State.activateTest
  split
  next h => exact State.activate_seqMoves h.1 hs h.2.1
  next => exact .refl _

theorem State.positionTests_seqMoves (s : State) : s.teq.SeqMoves s.positionTests.teq := by
  unfold State.positionTests
  split
  · exact State.advance_seqMoves _ _ s
  · exact .refl _

theorem Entry.behindArming_kind (e : Entry) : e.behindArming.kind = e.kind := by
  unfold Entry.behindArming
  split <;> rfl

/-- An estimate update of the sequencer moves the queue by its own moves alone (R115). -/
theorem State.psqUpdate_seqMoves (s : State) : s.teq.SeqMoves s.psqUpdate.teq := by
  by_cases h : s.teq.halted = true ∨ s.teq.nearest = none
  · rw [State.psqUpdate_of_none h]
    exact .refl _
  · obtain ⟨hh, hn⟩ := not_or.mp h
    obtain ⟨e, hn⟩ := Option.ne_none_iff_exists'.mp hn
    rw [State.psqUpdate_of_nearest (Bool.eq_false_iff.mpr hh) hn]
    have hs := (congrArg Kind.isSection e.behindArming_kind).trans (Teq.isSection_of_nearest hn)
    refine .trans (.trans (.trans ?_ (State.activateTest_seqMoves hs _)) (State.deadlineTests_seqMoves _ _))
      (State.positionTests_seqMoves _)
    exact State.armTest_seqMoves (s := s.withPoints _) hn _

/-! ### The moves of the other operations -/

theorem State.closeEntry_moves (s : State) (e : Entry) (r : CloseResult) (last : Option Step) :
    s.teq.Moves (s.closeEntry e r last).teq := by
  by_cases h : e ∈ s.teq.entries
  · rw [State.closeEntry_teq_eq_close h]
    exact (Teq.Move.close h _ _).moves
  · rw [State.closeEntry_of_not_mem _ _ _ _ h]
    exact .refl _

theorem State.foldl_moves {α : Type} {f : State → α → State} (hf : ∀ (u : State) (a : α), u.teq.Moves (f u a).teq)
    (as : List α) (s : State) : s.teq.Moves (as.foldl f s).teq := by
  induction as generalizing s with
  | nil => exact .refl _
  | cons a as ih => exact (hf s a).trans (ih _)

theorem State.skipPassed_moves (s : State) (e : Entry) : s.teq.Moves (s.skipPassed e).teq := by
  unfold State.skipPassed
  split
  · exact s.closeEntry_moves _ _ _
  · exact .refl _

theorem State.skipAll_moves (s : State) : s.teq.Moves s.skipAll.teq := State.foldl_moves State.skipPassed_moves _ s

theorem State.zoneTest_moves (s : State) (e : Entry) : s.teq.Moves (s.zoneTest e).teq := by
  unfold State.zoneTest
  split
  next => exact .refl _
  next hs =>
    split
    · exact s.closeEntry_moves _ _ _
    · split
      next h => exact (Teq.Move.enter (Bool.eq_false_iff.mpr hs) h.2.2).moves
      next => exact .refl _

theorem State.zonesAll_moves (s : State) : s.teq.Moves s.zonesAll.teq := State.foldl_moves State.zoneTest_moves _ s

theorem State.estimateUpdate_moves (s : State) : s.teq.Moves s.estimateUpdate.teq :=
  ((s.psqUpdate_seqMoves.moves.trans (State.skipAll_moves _)).trans (State.zonesAll_moves _)).trans (State.handOn_seqMoves _).moves

theorem State.closeReversed_moves (s : State) (e : Entry) : s.teq.Moves (s.closeReversed e).teq := by
  unfold State.closeReversed
  split <;> exact s.closeEntry_moves _ _ _

theorem State.closeAllReversed_moves (s : State) : s.teq.Moves s.closeAllReversed.teq :=
  (State.foldl_moves State.closeReversed_moves _ s).trans Teq.Move.resume.moves

end Sys2Proof.Machine
end

section
/-! PROOFS. What a command can make of the queue: one lemma for each owner and operation that leaves or moves it, and the inversion
`exec_teq_cases` for all 81 commands (R17, R22, R26, R30, R32, R197). -/

set_option Elab.async false

namespace Sys2Proof.Machine

/-! ### What a command can make of the queue -/

/-- Where the queue handed on was reached by moves, handing on makes moves again. -/
@[simp] theorem State.handOn_moves {q : Teq} {u : State} (h : q.Moves u.teq) : q.Moves u.handOn.teq :=
  h.trans u.handOn_seqMoves.moves

@[simp] theorem State.slotEvent_moves (s : State) (k : SlotId) (r : Slot × List Flag) : s.teq.Moves (s.slotEvent k r).teq := by
  simp [State.slotEvent]

theorem whenRunning_moves {f : State → State} (hf : ∀ u : State, u.teq.Moves (f u).teq) (s : State) :
    s.teq.Moves (whenRunning f s).teq := by
  unfold whenRunning
  split
  · exact .refl _
  · exact hf s

/-- Serving a request moves the queue as its owner does. -/
theorem State.serve_moves {owner : List Byte → State → State × Option Answer}
    (howner : ∀ p (u : State), u.teq.Moves (owner p u).1.teq) (s : State) (l : Link) (r : Req) :
    s.teq.Moves (s.serve l r owner).teq :=
  State.serve_keeps (P := fun u => s.teq.Moves u.teq) (fun _ _ h => h) (fun p u h => h.trans (howner p u)) (.refl _)

/-- What serving a request can make of the queue: nothing, or what the owner makes of it with the request under service. -/
theorem State.serve_teq_cases {owner : List Byte → State → State × Option Answer} (s : State) (l : Link) (r : Req) :
    (s.serve l r owner).teq = s.teq ∨ ∃ p, (s.serve l r owner).teq = (owner p (s.beginService l)).1.teq := by
  unfold State.serve
  split
  · exact .inl rfl
  · split_ifs
    · exact .inl rfl
    · exact .inl rfl
    · exact .inl rfl
    · refine .inr ⟨(by assumption : Request).payload, ?_⟩
      unfold State.serveOwner
      split <;> simp [*]

theorem State.holderHandOn_moves {q : Teq} {s : State} (h : q.Moves s.teq) (before : Option Link) :
    q.Moves (s.holderHandOn before).teq := by
  unfold State.holderHandOn
  split <;> simp [h]

theorem State.receive_moves (s : State) (l : Link) (b : Byte) : s.teq.Moves (s.receive l b).teq := by
  simp only [State.receive, State.frameComplete]
  (repeat' split) <;> simp [State.holderHandOn_moves]

theorem State.gateEnded_moves (s : State) : s.teq.Moves s.gateEnded.teq := by
  unfold State.gateEnded
  split <;> simp

theorem State.powerIfSilent_teq (s : State) : s.powerIfSilent.teq = s.teq := by
  unfold State.powerIfSilent
  split <;> simp

theorem State.rawLevel_teq (s : State) (i : RawInput) : (s.rawLevel i).teq = s.teq := by
  cases i <;> rfl

theorem State.clearLatch_teq (s : State) (x : Latch) : (s.clearLatch x).teq = s.teq := by
  cases x <;> rfl

theorem State.psqRampExpiry_moves (s : State) : s.teq.Moves s.psqRampExpiry.teq := by
  unfold State.psqRampExpiry
  split
  · simpa using (State.advance_seqMoves stepFuel .start (s.startStep .openBrk)).moves
  · exact .refl _

theorem State.confirmExpiry_moves (s : State) : s.teq.Moves s.confirmExpiry.teq := by
  unfold State.confirmExpiry
  split
  · split <;> exact (s.closeActive_seqMoves _ _).moves
  · exact .refl _

theorem State.report_moves (s : State) (pos : Pos) (v u : Nat) : s.teq.Moves (s.report pos v u).teq := by
  have h := State.estimateUpdate_moves ((s.raiseIf (s.pe.jumps pos) .posJump).setPe (s.reportedPe pos v u))
  rwa [State.setPe_teq, State.raiseIf_teq] at h

theorem ownReportPosition_moves (p : List Byte) (s : State) : s.teq.Moves (ownReportPosition p s).1.teq := by
  simp only [ownReportPosition]
  exact s.report_moves _ _ _

theorem ownReverse_moves (p : List Byte) (s : State) : s.teq.Moves (ownReverse p s).1.teq := by
  unfold ownReverse
  split
  · exact State.handOn_moves (u := State.closeAllReversed { s with pe := s.pe.reversed })
      (State.closeAllReversed_moves { s with pe := s.pe.reversed })
  · exact .refl _

theorem ownCancelEvent_moves (p : List Byte) (s : State) : s.teq.Moves (ownCancelEvent p s).1.teq := by
  unfold ownCancelEvent
  split
  next => exact .refl _
  next e _ =>
    split
    · exact .refl _
    · exact State.handOn_moves (u := s.closeEntry e (.skipped .cancelled) none) (s.closeEntry_moves _ _ _)

theorem ownResumeQueue_moves (p : List Byte) (s : State) : s.teq.Moves (ownResumeQueue p s).1.teq := by
  unfold ownResumeQueue
  split
  · exact State.handOn_moves (u := { s with teq := { s.teq with halted := false } }) Teq.Move.resume.moves
  · exact .refl _

theorem ownSetSlot_moves (p : List Byte) (s : State) : s.teq.Moves (ownSetSlot p s).1.teq := by
  unfold ownSetSlot
  (repeat' split) <;> simp

theorem ownUnlockSlot_moves (p : List Byte) (s : State) : s.teq.Moves (ownUnlockSlot p s).1.teq := by
  unfold ownUnlockSlot
  (repeat' split) <;> simp

theorem ownSetDemand_moves (p : List Byte) (s : State) : s.teq.Moves (ownSetDemand p s).1.teq := by
  unfold ownSetDemand
  split <;> simp

theorem ownWriteRule_moves (p : List Byte) (s : State) : s.teq.Moves (ownWriteRule p s).1.teq := by
  simp only [ownWriteRule]
  (repeat' split) <;> simp

theorem ownClearTro_moves (p : List Byte) (s : State) : s.teq.Moves (ownClearTro p s).1.teq := by
  unfold ownClearTro
  split <;> simp

theorem ownReadCurrent_moves (l : Link) (p : List Byte) (s : State) : s.teq.Moves (ownReadCurrent l p s).1.teq := by
  unfold ownReadCurrent
  split <;> exact .refl _

theorem ownClearFlags_moves (p : List Byte) (s : State) : s.teq.Moves (ownClearFlags p s).1.teq := by
  unfold ownClearFlags
  split <;> exact .refl _

theorem ownClearFault_moves (p : List Byte) (s : State) : s.teq.Moves (ownClearFault p s).1.teq := by
  unfold ownClearFault
  (repeat' split) <;> simp [State.clearLatch_teq]

theorem ownSetNoticeMask_moves (l : Link) (p : List Byte) (s : State) : s.teq.Moves (ownSetNoticeMask l p s).1.teq := by
  unfold ownSetNoticeMask
  split <;> exact .refl _

theorem ownTakeCommand_moves (l : Link) (p : List Byte) (s : State) : s.teq.Moves (ownTakeCommand l p s).1.teq := by
  simp only [ownTakeCommand]
  (repeat' split) <;> simp [State.holderHandOn_moves]

theorem ownSetParam_moves (p : List Byte) (s : State) : s.teq.Moves (ownSetParam p s).1.teq := by
  simp only [ownSetParam]
  (repeat' split) <;> simp [State.storeParam]

/-! ### An accepted entry -/

/-- What an entry that POST_EVENT accepts into a queue meets, at an estimate E (R18, R22). -/
structure Teq.Accepts (q : Teq) (e : Pos) (x : Entry) : Prop where
  room : q.entries.length < 16
  fresh : ∀ o ∈ q.entries, o.tag ≠ x.tag
  queued : x.status = .queued
  minLen : 100 ≤ x.len
  maxLen : x.len ≤ 300000
  ahead : 0 < signedDiff x.start e
  inRange : signedDiff x.start e ≤ 10000000
  behindHeld : aheadOfHeld x q.entries = false
  apart : overlapsClass x q.entries = false

/-- The queue with an accepted entry at its place (R20, R23). -/
def Teq.post (q : Teq) (e : Pos) (x : Entry) : Teq := { q with entries := placeEntry e x q.entries, posted := q.posted + 1 }

/-- The payload's tag, as the owner of POST_EVENT reads it (R202). -/
def postedTag (p : List Byte) : Byte := BitVec.ofNat 8 (field p 0 1)

/-- The entry of a payload has the payload's tag, is QUEUED and of a length within R18. -/
theorem postedEntry_eq_some {p : List Byte} {x : Entry} (h : postedEntry p = some x) :
    x.tag = postedTag p ∧ x.status = .queued ∧ 100 ≤ x.len ∧ x.len ≤ 300000 := by
  unfold postedEntry at h
  split at h
  next =>
    split at h
    next hl =>
      cases h
      exact ⟨rfl, rfl, hl⟩
    next => cases h
  next => cases h

/-- What no refusal of R22 leaves: an entry that the queue accepts. -/
theorem State.accepts_of_postRefusal {s : State} {p : List Byte} {x : Entry} (h : s.postRefusal p = none)
    (hx : postedEntry p = some x) : s.teq.Accepts s.pe.e x := by
  obtain ⟨htag, hq, hmin, hmax⟩ := postedEntry_eq_some hx
  unfold State.postRefusal at h
  rw [hx] at h
  split_ifs at h with hroom hdup
  dsimp only at h
  split_ifs at h with hlate hrange hover
  simp only [State.postLate, Bool.or_eq_true, decide_eq_true_eq, not_or, not_le, Bool.not_eq_true] at hlate
  obtain ⟨⟨_, hahead⟩, hheld⟩ := hlate
  exact ⟨not_le.mp hroom, fun o ho heq => hdup (List.any_eq_true.mpr ⟨o, ho, by simp [heq, htag, postedTag]⟩), hq, hmin, hmax, hahead,
    not_lt.mp hrange, hheld, Bool.eq_false_iff.mpr hover⟩

/-- POST_EVENT's owner leaves the queue, or posts an entry the queue accepts and hands on (R22, R23). -/
theorem ownPostEvent_teq_cases (p : List Byte) (s : State) :
    (ownPostEvent p s).1.teq = s.teq ∨
      ∃ x, s.teq.Accepts s.pe.e x ∧ (s.teq.post s.pe.e x).Moves (ownPostEvent p s).1.teq := by
  unfold ownPostEvent
  split
  next x hr hx => exact .inr ⟨x, State.accepts_of_postRefusal hr hx, State.handOn_moves (u := s.post x) (.refl _)⟩
  next => exact .inl rfl
  next => exact .inl rfl

/-! ### Every command -/

/-- What a step can make of a queue at an estimate E: moves, an accepted entry and moves, or the reset (R17, R22, R197). -/
inductive Teq.Next (q : Teq) (e : Pos) : Teq → Prop
  | moves {r : Teq} (h : q.Moves r) : Next q e r
  | post {x : Entry} {r : Teq} (hx : q.Accepts e x) (h : (q.post e x).Moves r) : Next q e r
  | reset : Next q e .reset

theorem execPostEvent_teq {s t : State} {l : Link} (h : exec (.postEvent l) s = .next t) : s.teq.Next s.pe.e t.teq := by
  cases h
  unfold whenRunning
  split
  · exact .moves (.refl _)
  · obtain h | ⟨p, h⟩ := s.serve_teq_cases l .postEvent (owner := ownPostEvent)
    · rw [h]
      exact .moves (.refl _)
    · rw [h]
      obtain h | ⟨x, hx, hm⟩ := ownPostEvent_teq_cases p (s.beginService l)
      · rw [h]
        exact .moves (.refl _)
      · exact .post hx hm

theorem execPositionRefresh_moves {s t : State} (h : exec .positionRefresh s = .next t) : s.teq.Moves t.teq := by
  cases h
  refine whenRunning_moves (fun u => ?_) s
  split
  · exact .refl _
  · have h := State.estimateUpdate_moves (u.setPe u.refreshed)
    rwa [State.setPe_teq] at h

theorem execFrameSent_teq {s t : State} {l : Link} (h : exec (.frameSent l) s = .next t) : s.teq.Next s.pe.e t.teq := by
  cases h
  unfold whenRunning
  split
  · exact .moves (.refl _)
  · unfold State.frameEnd
    split
    · exact .moves (.refl _)
    · exact .moves (by simp)
    · split
      · exact .reset
      · exact .moves (by simp)

/-- A sample event reports the total, which can take a passage on (R161, R174). -/
theorem execCsuSample_moves {s t : State} {amps : PerSlot Nat} (h : exec (.csuSample amps) s = .next t) : s.teq.Moves t.teq := by
  cases h
  refine whenRunning_moves (fun u => ?_) s
  have h := (State.marksUpdate { u with csu := u.csu.sampleAll amps }).reportTotal_seqMoves.moves
  rw [State.marksUpdate_teq] at h
  exact State.handOn_moves (u := State.reportTotal _) h

theorem execOverloadTimerExpiry_moves {s t : State} (h : exec .overloadTimerExpiry s = .next t) : s.teq.Moves t.teq := by
  cases h
  refine whenRunning_moves (fun u => ?_) s
  split
  · split
    · exact .refl _
    · exact State.handOn_moves (u := State.raise _ _) (.refl _)
  · exact .refl _

/-- What a command can make of the queue. -/
theorem exec_teq_cases {c : Instr} {s t : State} (h : exec c s = .next t) : s.teq.Next s.pe.e t.teq := by
  cases c with
  | powerOn | rstNLow => cases h; exact .reset
  | rstNRise =>
    cases h
    split
    · exact .reset
    · exact .moves (.refl _)
  | inputRawChange i =>
    cases h
    split
    · exact .reset
    · exact .moves (by simp [s.rawLevel_teq i])
  | frameSent => exact execFrameSent_teq h
  | postEvent => exact execPostEvent_teq h
  | positionRefresh => exact .moves (execPositionRefresh_moves h)
  | reportPosition =>
    cases h; exact .moves (whenRunning_moves (fun u => u.serve_moves ownReportPosition_moves _ _) s)
  | reverse => cases h; exact .moves (whenRunning_moves (fun u => u.serve_moves ownReverse_moves _ _) s)
  | cancelEvent => cases h; exact .moves (whenRunning_moves (fun u => u.serve_moves ownCancelEvent_moves _ _) s)
  | resumeQueue => cases h; exact .moves (whenRunning_moves (fun u => u.serve_moves ownResumeQueue_moves _ _) s)
  -- requests that read: their owner leaves the state as it is
  | readPosition | readQueue | readClosed | readLine | readSlot | readRule | readTarget | readBreaker | readPassage
  | readIce | getFlags | getStatus | readParam | resetPart =>
    cases h; exact .moves (whenRunning_moves (fun u => u.serve_moves (fun _ _ => .refl _) _ _) s)
  | setSlot => cases h; exact .moves (whenRunning_moves (fun u => u.serve_moves ownSetSlot_moves _ _) s)
  | unlockSlot => cases h; exact .moves (whenRunning_moves (fun u => u.serve_moves ownUnlockSlot_moves _ _) s)
  | setDemand => cases h; exact .moves (whenRunning_moves (fun u => u.serve_moves ownSetDemand_moves _ _) s)
  | writeRule => cases h; exact .moves (whenRunning_moves (fun u => u.serve_moves ownWriteRule_moves _ _) s)
  | clearTro => cases h; exact .moves (whenRunning_moves (fun u => u.serve_moves ownClearTro_moves _ _) s)
  | readCurrent l => cases h; exact .moves (whenRunning_moves (fun u => u.serve_moves (ownReadCurrent_moves l) _ _) s)
  | clearFlags => cases h; exact .moves (whenRunning_moves (fun u => u.serve_moves ownClearFlags_moves _ _) s)
  | clearFault => cases h; exact .moves (whenRunning_moves (fun u => u.serve_moves ownClearFault_moves _ _) s)
  | setNoticeMask l => cases h; exact .moves (whenRunning_moves (fun u => u.serve_moves (ownSetNoticeMask_moves l) _ _) s)
  | takeCommand l => cases h; exact .moves (whenRunning_moves (fun u => u.serve_moves (ownTakeCommand_moves l) _ _) s)
  | setParam => cases h; exact .moves (whenRunning_moves (fun u => u.serve_moves ownSetParam_moves _ _) s)
  -- the links
  | frameReceived | byteReceived =>
    cases h; exact .moves (whenRunning_moves (fun u => by (repeat' split) <;> simp [State.receive_moves]) s)
  | commandChangeEffect | selAcceptedChange | silenceTimerExpiry =>
    cases h
    exact .moves (whenRunning_moves (fun u => by (repeat' split) <;> simp [State.holderHandOn_moves, State.powerIfSilent_teq]) s)
  -- gates of the Ice Unit
  | gateEnd | scanCompletion =>
    cases h; exact .moves (whenRunning_moves (fun u => by (repeat' split) <;> simp [State.gateEnded_moves]) s)
  -- the timers of a passage, and a sample of the currents: the sequencer moves the queue before anything is handed on
  | psqRampTimerExpiry | confirmTimerExpiry =>
    cases h
    refine .moves (whenRunning_moves (fun u => ?_) s)
    split
    · exact State.handOn_moves (by simp [State.psqRampExpiry_moves, State.confirmExpiry_moves])
    · exact .refl _
  | csuSample => exact .moves (execCsuSample_moves h)
  | overloadTimerExpiry => exact .moves (execOverloadTimerExpiry_moves h)
  -- an event of one block, and its hand-over
  | _ => cases h; exact .moves (whenRunning_moves (fun u => by (repeat' split) <;> simp) s)

end Sys2Proof.Machine
end

section
/-! PROOFS. The laws of the queue under moves and under a post (R17 to R25), the order of R20 as an order of keys, and O27. -/

set_option Elab.async false

namespace Sys2Proof.Machine

/-! ### An entry with a status -/

@[simp] theorem Entry.withStatus_tag (e x : Entry) (st : EntryStatus) : (e.withStatus st x).tag = x.tag := by
  unfold Entry.withStatus
  split <;> rfl

@[simp] theorem Entry.withStatus_kind (e x : Entry) (st : EntryStatus) : (e.withStatus st x).kind = x.kind := by
  unfold Entry.withStatus
  split <;> rfl

@[simp] theorem Entry.withStatus_start (e x : Entry) (st : EntryStatus) : (e.withStatus st x).start = x.start := by
  unfold Entry.withStatus
  split <;> rfl

@[simp] theorem Entry.withStatus_len (e x : Entry) (st : EntryStatus) : (e.withStatus st x).len = x.len := by
  unfold Entry.withStatus
  split <;> rfl

theorem Entry.withStatus_self (e : Entry) (st : EntryStatus) : e.withStatus st e = { e with status := st } := if_pos rfl

theorem Entry.withStatus_of_ne {e x : Entry} (h : x ≠ e) (st : EntryStatus) : e.withStatus st x = x := if_neg h

/-! ### What a move keeps -/

/-- No entry stands twice, since no tag does (R21). -/
theorem Teq.disjointLaw.nodup {q : Teq} (h : q.disjointLaw) : q.entries.Nodup :=
  List.Pairwise.imp (fun hxy heq => hxy.1 (congrArg Entry.tag heq)) h

/-- A status put on an entry adds none of a property that the entry meant, so marked, has only where it had it. -/
theorem countP_map_withStatus_le {es : List Entry} {e : Entry} {st : EntryStatus} {p : Entry → Bool}
    (h : p { e with status := st } = true → p e = true) : (es.map (e.withStatus st)).countP p ≤ es.countP p := by
  rw [List.countP_map]
  refine List.countP_mono_left fun x _ hx => ?_
  by_cases hxe : x = e
  · subst hxe
    rw [Function.comp_apply, Entry.withStatus_self] at hx
    exact h hx
  · rwa [Function.comp_apply, Entry.withStatus_of_ne hxe] at hx

/-- Where no entry has a property, a status put on an entry gives it to one at most. -/
theorem countP_map_withStatus_le_one {es : List Entry} {e : Entry} {st : EntryStatus} {p : Entry → Bool} (hn : es.Nodup)
    (h : ∀ x ∈ es, p x = false) : (es.map (e.withStatus st)).countP p ≤ 1 := by
  rw [List.countP_map]
  refine le_trans (List.countP_mono_left (q := fun x => x == e) fun x hx hp => ?_) (List.nodup_iff_count_le_one.mp hn e)
  by_contra hne
  rw [Function.comp_apply, Entry.withStatus_of_ne (by simpa using hne), h x hx] at hp
  cases hp

theorem Teq.insideLaw_iff {q : Teq} : q.insideLaw ↔ q.entries.countP (fun e => decide (e.status = .inside)) ≤ 1 := by
  rw [Teq.insideLaw, List.countP_eq_length_filter]

/-- Tags, spans and lengths are not the status's: a status keeps the laws on them, and the counters. -/
theorem Teq.withStatus_spans {q : Teq} (e : Entry) (st : EntryStatus) (hc : q.countersLaw) (hs : q.sizeLaw) (hd : q.disjointLaw) :
    (q.withStatus e st).countersLaw ∧ (q.withStatus e st).sizeLaw ∧ (q.withStatus e st).disjointLaw := by
  refine ⟨?_, ?_, ?_⟩
  · simpa [Teq.countersLaw, Teq.withStatus] using hc
  · simpa [Teq.sizeLaw, Teq.withStatus] using hs
  · simpa [Teq.disjointLaw, Teq.withStatus, List.pairwise_map] using hd

/-- A status that its kind has keeps the laws of the queue, if it adds no second zone INSIDE (R19). -/
theorem Teq.withStatus_law {q : Teq} {e : Entry} {st : EntryStatus} (h : q.law)
    (hsec : e.kind.isSection = true → st ≠ .inside)
    (hzone : e.kind.isSection = false → st = .queued ∨ st = .inside)
    (hin : st = .inside → q.zoneInside = false) : (q.withStatus e st).law := by
  obtain ⟨hc, hs, hd, hi, he⟩ := h
  obtain ⟨hc', hs', hd'⟩ := Teq.withStatus_spans e st hc hs hd
  refine ⟨hc', hs', hd', Teq.insideLaw_iff.mpr ?_, fun x hx => ?_⟩
  · by_cases hst : st = .inside
    · refine countP_map_withStatus_le_one hd.nodup fun x hx => ?_
      simpa using List.any_eq_false.mp (hin hst) x hx
    · exact (countP_map_withStatus_le (by simp [hst])).trans (Teq.insideLaw_iff.mp hi)
  · obtain ⟨y, hy, rfl⟩ := List.mem_map.mp hx
    by_cases hye : y = e
    · subst hye
      obtain ⟨_, _, hlen⟩ := he y hy
      rw [Entry.withStatus_self]
      refine ⟨hsec, fun hz => ?_, hlen⟩
      obtain rfl | rfl := hzone hz <;> rfl
    · rw [Entry.withStatus_of_ne hye]
      exact he y hy

/-- A close keeps the laws of the queue: what remains stood before, and the counters keep their sum (R24, R25). -/
theorem Teq.close_law {q : Teq} {e : Entry} (h : q.law) (hm : e ∈ q.entries) (c : ClosedRec) (halts : Bool) :
    (q.close e c halts).law := by
  obtain ⟨hc, ⟨hn, _⟩, hd, hi, he⟩ := h
  have hsub : (q.entries.erase e).Sublist q.entries := List.erase_sublist
  have hlen : q.entries.length = (q.entries.erase e).length + 1 := by
    rw [List.length_erase_of_mem hm]
    have := List.length_pos_of_mem hm
    omega
  refine ⟨?_, ⟨hsub.length_le.trans hn, List.length_take_le _ _⟩, List.Pairwise.sublist hsub hd,
    Teq.insideLaw_iff.mpr ((List.Sublist.countP_le hsub).trans (Teq.insideLaw_iff.mp hi)),
    fun x hx => he x (hsub.subset hx)⟩
  have hposted : q.posted = BitVec.ofNat 32 q.entries.length + q.closedCount := hc
  change q.posted = BitVec.ofNat 32 (q.entries.erase e).length + (q.closedCount + 1)
  rw [hposted, hlen, BitVec.ofNat_add]
  ac_rfl

theorem Teq.SeqMove.law {q r : Teq} (h : q.SeqMove r) (hl : q.law) : r.law := by
  cases h with
  | close hm hs c halts => exact Teq.close_law hl hm c halts
  | arm hn hq => exact Teq.withStatus_law hl (by simp) (by simp [Teq.isSection_of_nearest hn]) (by simp)
  | activate hm hs ha => exact Teq.withStatus_law hl (by simp) (by simp [hs]) (by simp)

theorem Teq.Move.law {q r : Teq} (h : q.Move r) (hl : q.law) : r.law := by
  cases h with
  | seq h => exact h.law hl
  | close hm c halts => exact Teq.close_law hl hm c halts
  | enter hz hi => exact Teq.withStatus_law hl (by simp [hz]) (fun _ => .inr rfl) fun _ => hi
  | resume => exact hl

/-! ### The place of the entry in passage -/

theorem Teq.heldLaw_iff {q : Teq} :
    q.heldLaw ↔ q.entries.countP Entry.held ≤ 1 ∧ ∀ e ∈ q.entries, e.held = true → q.nearest = some e := by
  rw [Teq.heldLaw, List.countP_eq_length_filter]

/-- The nearest section entry stays so under a status (R19). -/
theorem Teq.withStatus_nearest {q : Teq} {x : Entry} (h : q.nearest = some x) (e : Entry) (st : EntryStatus) :
    (q.withStatus e st).nearest = some (e.withStatus st x) := by
  have hcomp : (fun x : Entry => x.kind.isSection) ∘ e.withStatus st = fun x => x.kind.isSection := by
    funext x
    simp
  unfold Teq.nearest at h
  rw [Teq.nearest, Teq.withStatus, List.find?_map, hcomp, h]
  rfl

/-- A status keeps the order, and keeps the nearest section entry the only held one, where it holds none but that and no
second one. -/
theorem Teq.withStatus_placeLaw {q : Teq} {e : Entry} {st : EntryStatus} (h : q.placeLaw)
    (hcount : (q.withStatus e st).entries.countP Entry.held ≤ 1)
    (hnew : ({ e with status := st } : Entry).held = true → q.nearest = some e) : (q.withStatus e st).placeLaw := by
  obtain ⟨ho, hh⟩ := h
  obtain ⟨_, hnear⟩ := Teq.heldLaw_iff.mp hh
  refine ⟨?_, Teq.heldLaw_iff.mpr ⟨hcount, fun y hy hyheld => ?_⟩⟩
  · simpa [Teq.orderLaw, Teq.withStatus, List.pairwise_map] using ho
  · obtain ⟨x, hx, rfl⟩ := List.mem_map.mp hy
    refine Teq.withStatus_nearest ?_ e st
    by_cases hxe : x = e
    · subst hxe
      rw [Entry.withStatus_self] at hyheld
      exact hnew hyheld
    · rw [Entry.withStatus_of_ne hxe] at hyheld
      exact hnear x hx hyheld

theorem Teq.withStatus_countP_held {q : Teq} {e : Entry} {st : EntryStatus} (h : q.heldLaw)
    (hst : ({ e with status := st } : Entry).held = true → e.held = true) :
    (q.withStatus e st).entries.countP Entry.held ≤ 1 :=
  (countP_map_withStatus_le hst).trans (Teq.heldLaw_iff.mp h).1

theorem find?_erase_of_ne {p : Entry → Bool} {es : List Entry} {x e : Entry} (h : es.find? p = some x) (hne : x ≠ e) :
    (es.erase e).find? p = some x := by
  induction es with
  | nil => cases h
  | cons a as ih =>
    rw [List.find?_cons] at h
    by_cases hae : a = e
    · subst hae
      rw [List.erase_cons_head]
      split at h
      · exact absurd (Option.some.inj h).symm hne
      · exact h
    · rw [List.erase_cons_tail (by simpa using hae), List.find?_cons]
      split at h
      · exact h
      · exact ih h

/-- A close keeps the order and the place of the entry in passage, if that is not the one closed (R19, R20). -/
theorem Teq.close_placeLaw {q : Teq} (hd : q.disjointLaw) (h : q.placeLaw) (e : Entry) (c : ClosedRec) (halts : Bool) :
    (q.close e c halts).placeLaw := by
  obtain ⟨ho, hh⟩ := h
  obtain ⟨hcount, hnear⟩ := Teq.heldLaw_iff.mp hh
  have hsub : (q.entries.erase e).Sublist q.entries := List.erase_sublist
  refine ⟨List.Pairwise.sublist hsub ho, Teq.heldLaw_iff.mpr ⟨(List.Sublist.countP_le hsub).trans hcount, fun x hx hxheld => ?_⟩⟩
  obtain ⟨hne, hmem⟩ := hd.nodup.mem_erase_iff.mp hx
  exact find?_erase_of_ne (hnear x hmem hxheld) hne

theorem Teq.SeqMove.placeLaw {q r : Teq} (h : q.SeqMove r) (hd : q.disjointLaw) (hp : q.placeLaw) : r.placeLaw := by
  have ⟨_, hheld⟩ := hp
  cases h with
  | close hm hs c halts => exact Teq.close_placeLaw hd hp _ c halts
  | @arm e hn hq =>
    -- an entry held already would be the nearest, which is QUEUED
    have hnone : ∀ x ∈ q.entries, x.held = false := fun x hx => by
      by_contra hxheld
      obtain rfl := Option.some.inj (hn.symm.trans (hheld.2 x hx (by simpa using hxheld)))
      simp [Entry.held, hq] at hxheld
    exact Teq.withStatus_placeLaw hp (countP_map_withStatus_le_one hd.nodup hnone) fun _ => hn
  | @activate e hm hs ha =>
    have hheldNow : e.held = true := by simp [Entry.held, ha]
    exact Teq.withStatus_placeLaw hp (Teq.withStatus_countP_held hheld fun _ => hheldNow) fun _ => hheld.2 e hm hheldNow

theorem Teq.Move.placeLaw {q r : Teq} (h : q.Move r) (hd : q.disjointLaw) (hp : q.placeLaw) : r.placeLaw := by
  cases h with
  | seq h => exact h.placeLaw hd hp
  | close hm c halts => exact Teq.close_placeLaw hd hp _ c halts
  | @enter e hz hi =>
    have hno : ({ e with status := .inside } : Entry).held = false := rfl
    exact Teq.withStatus_placeLaw hp (Teq.withStatus_countP_held hp.2 (by simp [hno])) (by simp [hno])
  | resume => exact hp

theorem Teq.Moves.law {q r : Teq} (h : q.Moves r) (hl : q.law) : r.law := by
  induction h with
  | refl => exact hl
  | tail _ hlast ih => exact hlast.law ih

theorem Teq.law.disjoint {q : Teq} (h : q.law) : q.disjointLaw := by
  obtain ⟨_, _, hd, _⟩ := h
  exact hd

theorem Teq.Moves.placeLaw {q r : Teq} (h : q.Moves r) (hl : q.law) (hp : q.placeLaw) : r.placeLaw := by
  induction h with
  | refl => exact hp
  | tail hfirst hlast ih => exact hlast.placeLaw (Teq.Moves.law hfirst hl).disjoint ih

end Sys2Proof.Machine
end

section
/-! PROOFS. Placing an entry (R20, R22): the order of R20 as an order of keys, what an accepted entry does to the laws, and O27. -/

set_option Elab.async false

namespace Sys2Proof.Machine

/-! ### The order of R20 -/

/-- The place of an entry in the order of R20 at an estimate, as one number: its distance, and of two at one start the section
first. -/
def Entry.key (e : Pos) (x : Entry) : Int := 2 * signedDiff x.start e + if x.kind.isSection then 0 else 1

/-- A new entry goes behind those of a smaller key (R20). -/
theorem goesAfter_iff (e : Pos) (new old : Entry) : goesAfter e new old = true ↔ old.key e < new.key e := by
  unfold goesAfter Entry.key
  cases old.kind.isSection <;> cases new.kind.isSection <;> simp <;> omega

theorem goesAfter_eq_false_iff (e : Pos) (new old : Entry) : goesAfter e new old = false ↔ new.key e ≤ old.key e := by
  rw [← Bool.not_eq_true, goesAfter_iff, not_lt]

/-- Where what has a property stands in front of what has not, the front is what has it and the rest what has not. -/
theorem take_drop_length_filter {α : Type} {p : α → Bool} {l : List α} (h : l.Pairwise fun a b => p b = true → p a = true) :
    l.take (l.filter p).length = l.filter p ∧ l.drop (l.filter p).length = l.filter fun a => !p a := by
  induction l with
  | nil => exact ⟨rfl, rfl⟩
  | cons a as ih =>
    obtain ⟨ha, has⟩ := List.pairwise_cons.mp h
    by_cases hpa : p a = true
    · simpa [hpa] using ih has
    · have hno : ∀ b ∈ as, ¬ p b = true := fun b hb hpb => hpa (ha b hb hpb)
      have hnil : as.filter p = [] := List.filter_eq_nil_iff.mpr hno
      have hall : (as.filter fun b => !p b) = as := List.filter_eq_self.mpr (by simpa using hno)
      simp [hpa, hnil, hall]

/-- In an ordered queue the entry goes between those of a smaller key and the others (R20). -/
theorem placeEntry_eq {e : Pos} {x : Entry} {q : List Entry} (h : q.Pairwise fun a b => a.key e ≤ b.key e) :
    placeEntry e x q = q.filter (goesAfter e x) ++ x :: q.filter (fun a => !goesAfter e x a) ∧
      q.filter (goesAfter e x) ++ q.filter (fun a => !goesAfter e x a) = q := by
  obtain ⟨htake, hdrop⟩ := take_drop_length_filter (p := goesAfter e x) (l := q) (h.imp fun {a b} hab hb => by
    rw [goesAfter_iff] at hb ⊢
    omega)
  have hsplit := List.take_append_drop (q.filter (goesAfter e x)).length q
  rw [htake, hdrop] at hsplit
  unfold placeEntry placeIndex
  rw [htake, hdrop]
  exact ⟨rfl, hsplit⟩

/-- Placing adds the entry and nothing else (R20). -/
theorem placeEntry_perm (e : Pos) (x : Entry) (q : List Entry) : (placeEntry e x q).Perm (x :: q) := by
  unfold placeEntry
  refine List.perm_middle.trans (.cons x ?_)
  rw [List.take_append_drop]

/-- Placing keeps any order of which the keys decide between the new entry and the others (R20). -/
theorem placeEntry_pairwise {e : Pos} {x : Entry} {q : List Entry} {R : Entry → Entry → Prop}
    (hkey : q.Pairwise fun a b => a.key e ≤ b.key e) (hR : q.Pairwise R) (hfront : ∀ a ∈ q, a.key e < x.key e → R a x)
    (hback : ∀ a ∈ q, x.key e ≤ a.key e → R x a) : (placeEntry e x q).Pairwise R := by
  obtain ⟨hplace, hsplit⟩ := placeEntry_eq (x := x) hkey
  rw [hplace]
  rw [← hsplit] at hR
  obtain ⟨hRfront, hRback, hRcross⟩ := List.pairwise_append.mp hR
  refine List.pairwise_append.mpr ⟨hRfront, List.pairwise_cons.mpr ⟨fun b hb => ?_, hRback⟩, fun a ha b hb => ?_⟩
  · obtain ⟨hb, hx⟩ := List.mem_filter.mp hb
    exact hback b hb ((goesAfter_eq_false_iff e x b).mp (by simpa using hx))
  · obtain rfl | hb := List.mem_cons.mp hb
    · obtain ⟨ha, hx⟩ := List.mem_filter.mp ha
      exact hfront a ha ((goesAfter_iff e _ a).mp hx)
    · exact hRcross a ha b hb

/-! ### Distances -/

/-- Two positions within 10,000 km of a third differ by the difference of their distances (R1, R20). -/
theorem signedDiff_eq_sub {x y e : Pos} (hx : (signedDiff x e).natAbs ≤ 1000000000) (hy : (signedDiff y e).natAbs ≤ 1000000000) :
    signedDiff x y = signedDiff x e - signedDiff y e := by
  have hsub : x - y = (x - e) - (y - e) := by bv_omega
  unfold signedDiff at *
  rw [hsub, BitVec.toInt_sub, Int.bmod_eq_of_le (by omega) (by omega)]

/-- One distance is one position (R1). -/
theorem eq_of_signedDiff_eq {x y e : Pos} (h : signedDiff x e = signedDiff y e) : x = y := by
  have hsub : x - e = y - e := BitVec.eq_of_toInt_eq h
  exact sub_left_injective hsub

theorem signedDiff_self (x : Pos) : signedDiff x x = 0 := by simp [signedDiff]

/-- Overlap does not turn on which of two spans is named first (R21). -/
theorem overlaps_comm (s1 : Pos) (l1 : Nat) (s2 : Pos) (l2 : Nat) : overlaps s1 l1 s2 l2 = overlaps s2 l2 s1 l1 :=
  Bool.and_comm _ _

/-! ### What an accepted entry does to the laws -/

section Accepted

variable {q : Teq} {e : Pos} {x : Entry}

/-- An accepted entry shares no ground with an entry of its class (R21). -/
theorem Teq.Accepts.overlaps_eq_false (h : q.Accepts e x) {o : Entry} (ho : o ∈ q.entries)
    (hk : o.kind.isSection = x.kind.isSection) : overlaps o.start o.len x.start x.len = false := by
  have hapart := List.any_eq_false.mp h.apart o ho
  simpa [hk] using hapart

/-- An accepted entry takes no other's key: at one start and of one class the spans would overlap (R20, R21). -/
theorem Teq.Accepts.key_ne (h : q.Accepts e x) (hl : q.law) {o : Entry} (ho : o ∈ q.entries) : o.key e ≠ x.key e := by
  intro hkey
  obtain ⟨_, _, _, _, he⟩ := hl
  obtain ⟨_, _, holen, _⟩ := he o ho
  have hxlen := h.minLen
  have hsame : signedDiff o.start e = signedDiff x.start e ∧ o.kind.isSection = x.kind.isSection := by
    unfold Entry.key at hkey
    cases ho : o.kind.isSection <;> cases hx : x.kind.isSection <;> simp [ho, hx] at hkey ⊢ <;> omega
  obtain ⟨hdist, hclass⟩ := hsame
  have hover := h.overlaps_eq_false ho hclass
  rw [eq_of_signedDiff_eq hdist] at hover
  simp only [overlaps, signedDiff_self, Bool.and_eq_false_iff, decide_eq_false_iff_not] at hover
  omega

theorem Teq.Accepts.held_eq_false (h : q.Accepts e x) : x.held = false := by simp [Entry.held, h.queued]

/-- An accepted entry keeps the laws of the queue (R17 to R25). -/
theorem Teq.Accepts.law_post (h : q.Accepts e x) (hl : q.law) : (q.post e x).law := by
  obtain ⟨hc, ⟨_, hn⟩, hd, hi, he⟩ := hl
  have hperm := placeEntry_perm e x q.entries
  have hroom := h.room
  have hlen : (placeEntry e x q.entries).length = q.entries.length + 1 := hperm.length_eq
  refine ⟨?_, ⟨?_, hn⟩, ?_, Teq.insideLaw_iff.mpr ?_, fun o ho => ?_⟩
  · have hposted : q.posted = BitVec.ofNat 32 q.entries.length + q.closedCount := hc
    change q.posted + 1 = BitVec.ofNat 32 (placeEntry e x q.entries).length + q.closedCount
    rw [hposted, hlen, BitVec.ofNat_add]
    ac_rfl
  · change (placeEntry e x q.entries).length ≤ 16
    omega
  · refine (hperm.pairwise_iff fun {a b} hab => ?_).mpr (List.pairwise_cons.mpr ⟨fun o ho => ?_, hd⟩)
    · obtain ⟨htag, hover⟩ := hab
      refine ⟨htag.symm, fun hk => ?_⟩
      rw [overlaps_comm]
      exact hover hk.symm
    · refine ⟨(h.fresh o ho).symm, fun hk => ?_⟩
      rw [overlaps_comm]
      exact h.overlaps_eq_false ho hk.symm
  · change (placeEntry e x q.entries).countP _ ≤ 1
    rw [hperm.countP_eq, List.countP_cons_of_neg (by simp [h.queued])]
    exact Teq.insideLaw_iff.mp hi
  · obtain rfl | ho := List.mem_cons.mp (hperm.mem_iff.mp ho)
    · exact ⟨fun _ => by simp [h.queued], fun _ => h.held_eq_false, h.minLen, h.maxLen⟩
    · exact he o ho

/-- A queue with every start within 10,000 km of the estimate (R20). -/
def Teq.Near (q : Teq) (e : Pos) : Prop := ∀ o ∈ q.entries, (signedDiff o.start e).natAbs ≤ 1000000000

/-- The order between two entries near the estimate is that of their keys (R20). -/
theorem before_iff_key_lt {a b : Entry} (ha : (signedDiff a.start e).natAbs ≤ 1000000000)
    (hb : (signedDiff b.start e).natAbs ≤ 1000000000) :
    (signedDiff a.start b.start < 0 ∨ (a.start = b.start ∧ a.kind.isSection = true ∧ b.kind.isSection = false)) ↔
      a.key e < b.key e := by
  have hstart : a.start = b.start ↔ signedDiff a.start e = signedDiff b.start e :=
    ⟨fun h => by rw [h], eq_of_signedDiff_eq⟩
  rw [hstart, signedDiff_eq_sub ha hb, Entry.key, Entry.key]
  cases a.kind.isSection <;> cases b.kind.isSection <;> simp <;> omega

theorem Teq.Near.keys_sorted (hnear : q.Near e) (ho : q.orderLaw) : q.entries.Pairwise fun a b => a.key e < b.key e :=
  List.Pairwise.imp_of_mem (fun ha hb h => (before_iff_key_lt (hnear _ ha) (hnear _ hb)).mp h) ho

theorem Teq.Accepts.near (h : q.Accepts e x) : (signedDiff x.start e).natAbs ≤ 1000000000 := by
  have := h.ahead
  have := h.inRange
  omega

/-- An accepted entry keeps the order of R20. -/
theorem Teq.Accepts.orderLaw_post (h : q.Accepts e x) (hl : q.law) (hnear : q.Near e) (ho : q.orderLaw) : (q.post e x).orderLaw := by
  have hsorted := hnear.keys_sorted ho
  refine placeEntry_pairwise (hsorted.imp le_of_lt) ho (fun a ha hlt => (before_iff_key_lt (hnear a ha) h.near).mpr hlt)
    fun a ha hle => (before_iff_key_lt h.near (hnear a ha)).mpr ?_
  exact lt_of_le_of_ne hle (h.key_ne hl ha).symm

/-- An accepted section goes behind the entry in passage (R22, third LATE condition). -/
theorem Teq.Accepts.key_held_lt (h : q.Accepts e x) (hl : q.law) (hnear : q.Near e) (hx : x.kind.isSection = true) {o : Entry}
    (ho : o ∈ q.entries) (hsec : o.kind.isSection = true) (hheld : o.held = true) : o.key e < x.key e := by
  have hbehind := h.behindHeld
  simp only [aheadOfHeld, hx, Bool.true_and] at hbehind
  have hno := List.any_eq_false.mp hbehind o ho
  simp only [hsec, hheld, Bool.true_and, decide_eq_true_eq, not_lt] at hno
  rw [signedDiff_eq_sub h.near (hnear o ho)] at hno
  have hne := h.key_ne hl ho
  simp only [Entry.key, hx, hsec, if_true] at hne ⊢
  omega

/-- An accepted entry leaves the entry in passage the nearest section (R19, R22). -/
theorem Teq.Accepts.heldLaw_post (h : q.Accepts e x) (hl : q.law) (hnear : q.Near e) (hp : q.placeLaw) : (q.post e x).heldLaw := by
  obtain ⟨ho, hh⟩ := hp
  obtain ⟨hcount, hfirst⟩ := Teq.heldLaw_iff.mp hh
  have hperm := placeEntry_perm e x q.entries
  refine Teq.heldLaw_iff.mpr ⟨?_, fun o hmem hheld => ?_⟩
  · change (placeEntry e x q.entries).countP _ ≤ 1
    rw [hperm.countP_eq, List.countP_cons_of_neg (by simp [h.held_eq_false])]
    exact hcount
  · have hmem : o ∈ q.entries := by
      obtain rfl | hmem := List.mem_cons.mp (hperm.mem_iff.mp hmem)
      · exact absurd hheld (by simp [h.held_eq_false])
      · exact hmem
    have hnearest := hfirst o hmem hheld
    have hsec := Teq.isSection_of_nearest hnearest
    obtain ⟨hplace, hsplit⟩ := placeEntry_eq (x := x) ((hnear.keys_sorted ho).imp le_of_lt)
    unfold Teq.nearest at hnearest
    rw [← hsplit, List.find?_append] at hnearest
    change (placeEntry e x q.entries).find? _ = some o
    rw [hplace, List.find?_append]
    cases hx : x.kind.isSection with
    | false => rwa [List.find?_cons_of_neg (by simp [hx])]
    | true =>
      -- the held entry is in front of the new one, so the first section is found in front too
      have hfront : o ∈ q.entries.filter (goesAfter e x) :=
        List.mem_filter.mpr ⟨hmem, (goesAfter_iff e x o).mpr (h.key_held_lt hl hnear hx hmem hsec hheld)⟩
      have hsome := List.find?_isSome (p := fun a : Entry => a.kind.isSection).mpr ⟨o, hfront, hsec⟩
      obtain ⟨y, hy⟩ := Option.isSome_iff_exists.mp hsome
      rw [hy, Option.some_or] at hnearest ⊢
      exact hnearest

end Accepted

/-- What a step can make of a queue keeps its laws, and the places near the estimate. -/
theorem Teq.Next.laws {q r : Teq} {e : Pos} (h : q.Next e r) (hl : q.law) :
    r.law ∧ (q.Near e → q.placeLaw → r.placeLaw) := by
  cases h with
  | moves h => exact ⟨h.law hl, fun _ hp => h.placeLaw hl hp⟩
  | post hx h =>
    have hpost := hx.law_post hl
    refine ⟨h.law hpost, fun hnear hp => h.placeLaw hpost ⟨?_, hx.heldLaw_post hl hnear hp⟩⟩
    obtain ⟨ho, _⟩ := hp
    exact hx.orderLaw_post hl hnear ho
  | reset => exact ⟨Teq.reset_law, fun _ _ => Teq.reset_placeLaw⟩

theorem State.elapse_teq (n : Nat) (s : State) : (s.elapse n).teq = s.teq := by
  unfold State.elapse
  split <;> rfl

/-- Settles O27: an idle step leaves the queue; a command moves it, posts an entry it accepts, or resets it, and each keeps the
laws. -/
theorem queueLawsKept : Obligations.QueueLawsKept := by
  intro s t hl h
  unfold step at h
  split at h
  next =>
    cases h
    rw [State.elapse_teq]
    exact ⟨hl, fun _ hp => hp⟩
  next c rest _ =>
    have hnext : s.teq.Next s.pe.e t.teq := exec_teq_cases (s := { s with pending := rest }) h
    exact hnext.laws hl

end Sys2Proof.Machine
end

section
/-! PROOFS. The requests of the queue served to their replies: O21, O22, O23 and O25. -/

set_option Elab.async false

namespace Sys2Proof.Machine

/-! ### The fields of a POST_EVENT -/

/-- A field of one byte is that byte (R198). -/
theorem field_one {p : List Byte} {i : Nat} (h : i < p.length) : field p i 1 = (p.getD i 0).toNat := by
  unfold field
  rw [List.drop_eq_getElem_cons h, List.take_succ_cons, List.take_zero, List.getD_eq_getElem _ _ h]
  simp [be]

theorem postedTag_eq {p : List Byte} (h : 0 < p.length) : postedTag p = p.getD 0 0 := by
  simp [postedTag, field_one h]

/-- The kind a payload announces (R18, R202). -/
def postedKind (p : List Byte) : Option Kind :=
  kindOf (p.getD 1 0).toNat (p.getD 10 0).toNat (p.getD 11 0).toNat (p.getD 12 0).toNat

/-- The start a payload announces (R202). -/
def postedStart (p : List Byte) : Pos := BitVec.ofNat 32 (be ((p.drop 2).take 4))

/-- The length a payload announces (R202). -/
def postedLen (p : List Byte) : Nat := be ((p.drop 6).take 4)

/-- The entry of a payload of POST_EVENT's length, byte by byte (R202). -/
theorem postedEntry_eq {p : List Byte} (hp : p.length = 13) : postedEntry p = (postedKind p).bind fun k =>
    if 100 ≤ postedLen p ∧ postedLen p ≤ 300000 then some ⟨p.getD 0 0, k, postedStart p, postedLen p, .queued⟩ else none := by
  have htag : BitVec.ofNat 8 (field p 0 1) = p.getD 0 0 := postedTag_eq (by omega)
  unfold postedEntry postedKind
  rw [htag, field_one (by omega), field_one (by omega), field_one (by omega), field_one (by omega)]
  cases kindOf (p.getD 1 0).toNat (p.getD 10 0).toNat (p.getD 11 0).toNat (p.getD 12 0).toNat <;> rfl

/-- The third LATE condition of R22: a section ahead of the entry in passage. -/
theorem aheadOfHeld_iff {x : Entry} {q : List Entry} : aheadOfHeld x q = true ↔
    x.kind.isSection = true ∧ ∃ o ∈ q, o.kind.isSection = true ∧ (o.status = .armed ∨ o.status = .active) ∧
      signedDiff x.start o.start < 0 := by
  simp [aheadOfHeld, Entry.held, and_assoc]

theorem overlapsClass_iff {x : Entry} {q : List Entry} : overlapsClass x q = true ↔
    ∃ o ∈ q, o.kind.isSection = x.kind.isSection ∧ signedDiff x.start o.start < (o.len : Int) ∧
      signedDiff o.start x.start < (x.len : Int) := by
  simp [overlapsClass, overlaps]

/-! ### POST_EVENT -/

/-- The refusal of R22, condition by condition, over the bytes of the payload. -/
theorem State.postRefusal_eq {s : State} {p : List Byte} (hp : p.length = 13) : s.postRefusal p =
    if 16 ≤ s.teq.entries.length then some .full
    else if ∃ o ∈ s.teq.entries, o.tag = p.getD 0 0 then some .dupTag
    else (postedKind p).elim (some .badValue) fun k =>
      if postedLen p < 100 ∨ 300000 < postedLen p then some .badValue
      else if s.pe.status = .noFix ∨ signedDiff (postedStart p) s.pe.e ≤ 0 ∨ (k.isSection = true ∧ ∃ o ∈ s.teq.entries,
          o.kind.isSection = true ∧ (o.status = .armed ∨ o.status = .active) ∧ signedDiff (postedStart p) o.start < 0) then
        some .late
      else if 10000000 < signedDiff (postedStart p) s.pe.e then some .range
      else if ∃ o ∈ s.teq.entries, o.kind.isSection = k.isSection ∧ signedDiff (postedStart p) o.start < (o.len : Int) ∧
          signedDiff o.start (postedStart p) < (postedLen p : Int) then some .overlap
      else none := by
  have hdup : (s.teq.entries.any fun o => o.tag == BitVec.ofNat 8 (field p 0 1)) = true ↔
      ∃ o ∈ s.teq.entries, o.tag = p.getD 0 0 := by
    change (s.teq.entries.any fun o => o.tag == postedTag p) = true ↔ _
    simp [postedTag_eq (p := p) (by omega)]
  unfold State.postRefusal
  rw [if_congr hdup rfl rfl, postedEntry_eq hp]
  congr 2
  cases postedKind p with
  | none => rfl
  | some k =>
    by_cases hlen : postedLen p < 100 ∨ 300000 < postedLen p
    · have hno : ¬ (100 ≤ postedLen p ∧ postedLen p ≤ 300000) := by omega
      simp [hlen, hno]
    · have hyes : 100 ≤ postedLen p ∧ postedLen p ≤ 300000 := by omega
      simp [hlen, hyes, State.postLate, aheadOfHeld_iff, overlapsClass_iff, or_assoc]

/-- A refused POST_EVENT leaves the state (R22). -/
theorem ownPostEvent_of_refusal {s : State} {p : List Byte} {st : Status} (h : s.postRefusal p = some st) :
    ownPostEvent p s = (s, some (.just st)) := by
  simp [ownPostEvent, h]

/-- An entry that nothing refuses is posted, and the result handed on (R23). -/
theorem ownPostEvent_of_entry {s : State} {p : List Byte} {x : Entry} (h : s.postRefusal p = none) (hx : postedEntry p = some x) :
    ownPostEvent p s = ((s.post x).handOn, some ⟨.ok, [.wide 1 x.tag.toNat, .wide 1 (placeIndex s.pe.e x s.teq.entries),
      .wide 1 (placeEntry s.pe.e x s.teq.entries).length, .wide 4 (s.teq.posted + 1).toNat]⟩) := by
  simp [ownPostEvent, h, hx]

/-- Settles O22: the first condition that holds is the refusal, whose code is the reply's one byte. -/
theorem postEventRefusalsInOrder : Obligations.PostEventRefusalsInOrder := by
  intro s l p h start len dist status hne
  have hcode : status = (s.postRefusal p).elim 0x00 Status.code := by
    rw [State.postRefusal_eq h.length]
    have hk : kindOf (p.getD 1 0).toNat (p.getD 10 0).toNat (p.getD 11 0).toNat (p.getD 12 0).toNat = postedKind p := rfl
    have hstart : start = postedStart p := rfl
    have hlen : len = postedLen p := rfl
    simp only [status, dist, hk, hstart, hlen]
    cases postedKind p with
    | none => split_ifs <;> rfl
    | some k => dsimp only [Option.elim_some]; split_ifs <;> rfl
  cases hr : s.postRefusal p with
  | none => exact absurd (hcode.trans (by rw [hr]; rfl)) hne
  | some st =>
    have howner : ownPostEvent p (s.beginService l) = (s.beginService l, some (.just st)) := ownPostEvent_of_refusal hr
    rw [hcode, hr]
    exact congrArg Host.Outcome.next (h.served howner)

theorem placeEntry_length (e : Pos) (x : Entry) (q : List Entry) : (placeEntry e x q).length = q.length + 1 :=
  (placeEntry_perm e x q).length_eq

/-- An order in which no entry goes behind a later one is an order of the keys (R20). -/
theorem keys_of_goesAfter {e : Pos} {q : List Entry} (h : q.Pairwise fun a b => goesAfter e a b = false) :
    q.Pairwise fun a b => a.key e ≤ b.key e :=
  h.imp (goesAfter_eq_false_iff e _ _).mp

/-- Where no condition of R22 holds, nothing is refused. -/
theorem State.postRefusal_eq_none {s : State} {p : List Byte} {k : Kind} (hp : p.length = 13) (hk : postedKind p = some k)
    (hroom : s.teq.entries.length < 16) (hfresh : ∀ o ∈ s.teq.entries, o.tag ≠ p.getD 0 0) (hmin : 100 ≤ postedLen p)
    (hmax : postedLen p ≤ 300000) (hfix : s.pe.status ≠ .noFix) (hahead : 0 < signedDiff (postedStart p) s.pe.e)
    (hrange : signedDiff (postedStart p) s.pe.e ≤ 10000000)
    (hheld : k.isSection = true → ∀ o ∈ s.teq.entries, o.kind.isSection = true → o.held = true →
      0 ≤ signedDiff (postedStart p) o.start)
    (hapart : ∀ o ∈ s.teq.entries, o.kind.isSection = k.isSection →
      (o.len : Int) ≤ signedDiff (postedStart p) o.start ∨ (postedLen p : Int) ≤ signedDiff o.start (postedStart p)) :
    s.postRefusal p = none := by
  rw [State.postRefusal_eq hp, hk, Option.elim_some, if_neg (not_le.mpr hroom), if_neg (by simpa using hfresh), if_neg (by omega),
    if_neg ?late, if_neg (not_lt.mpr hrange), if_neg ?overlap]
  case late =>
    rintro (hno | hle | ⟨hsec, o, ho, hosec, hst, hlt⟩)
    · exact hfix hno
    · exact absurd hahead (not_lt.mpr hle)
    · exact absurd hlt (not_lt.mpr (hheld hsec o ho hosec (by simpa [Entry.held] using hst)))
  case overlap =>
    rintro ⟨o, ho, hclass, hlt, hlt'⟩
    obtain hle | hle := hapart o ho hclass
    · exact absurd hlt (not_lt.mpr hle)
    · exact absurd hlt' (not_lt.mpr hle)

/-- The bytes of an accepted post's reply (R23, R202). -/
theorem postAnswer_payload (tag : Byte) (n m c : Nat) :
    Answer.payload ⟨.ok, [.wide 1 tag.toNat, .wide 1 n, .wide 1 m, .wide 4 c]⟩ = [0x00, tag, byte n, byte m] ++ toBE 4 c := by
  simp [Answer.payload, pack, toBE, Status.code]

/-- Settles O21: with no refusal the owner posts the entry and hands on; placing keeps any order of the keys. -/
theorem postEventInsertsTheEntry : Obligations.PostEventInsertsTheEntry := by
  refine ⟨?_, fun e x q hq => ?_⟩
  · intro s l p k h e dist n hroom hfresh hkind hmin hmax hfix hahead hrange hheld hapart
    have hk : postedKind p = some k := hkind
    have hentry : postedEntry p = some e := by
      rw [postedEntry_eq h.length, hk]
      exact if_pos ⟨hmin, hmax⟩
    have hrefusal := State.postRefusal_eq_none h.length hk hroom hfresh hmin hmax hfix hahead hrange hheld hapart
    have howner := ownPostEvent_of_entry (s := s.beginService l) hrefusal hentry
    refine (congrArg Host.Outcome.next (h.served howner)).trans ?_
    rw [postAnswer_payload, placeEntry_length]
    rfl
  · have hkeys := keys_of_goesAfter hq
    refine ⟨placeEntry_pairwise hkeys hq (fun a _ hlt => ?_) fun a _ hle => ?_, placeEntry_perm e x q⟩
    · exact (goesAfter_eq_false_iff e a x).mpr hlt.le
    · exact (goesAfter_eq_false_iff e x a).mpr hle

/-! ### CANCEL_EVENT and RESUME_QUEUE -/

/-- The bytes of an accepted CANCEL_EVENT's reply (R26, R202; log 40). -/
theorem cancelAnswer_payload (n c : Nat) : Answer.payload ⟨.ok, [.wide 1 n, .wide 4 c]⟩ = [0x00, byte n] ++ toBE 4 c := by
  simp [Answer.payload, pack, toBE, Status.code]

/-- CANCEL_EVENT finds its entry by the tag of its one byte (R26). -/
theorem ownCancelEvent_eq (b : Byte) (s : State) : ownCancelEvent [b] s =
    (s.teq.entries.find? fun o => o.tag == b).elim (s, some (.just .notFound)) fun e =>
      if e.status = .active then (s, some (.just .busy))
      else
        let t := (s.closeEntry e (.skipped .cancelled) none).handOn
        (t, some ⟨.ok, [.wide 1 t.teq.entries.length, .wide 4 t.teq.closedCount.toNat]⟩) := by
  have hb : BitVec.ofNat 8 (field [b] 0 1) = b := postedTag_eq (p := [b]) (by simp)
  unfold ownCancelEvent
  rw [hb]
  cases s.teq.entries.find? fun o => o.tag == b <;> rfl

/-- Settles O23: each row's owner and the bytes of its answer. -/
theorem cancelAndResumeByTheirTables : Obligations.CancelAndResumeByTheirTables := by
  intro s l b
  refine ⟨fun h => ⟨fun hno => ?_, fun e he => ⟨fun hactive => ?_, fun hactive => ?_⟩⟩,
    fun h => ⟨fun hh => ?_, fun hh => ?_⟩⟩
  · have hnone : s.teq.entries.find? (fun o => o.tag == b) = none := by simpa using hno
    have howner := ownCancelEvent_eq b (s.beginService l)
    rw [State.beginService_teq, hnone] at howner
    exact congrArg Host.Outcome.next (h.served howner)
  · have howner := ownCancelEvent_eq b (s.beginService l)
    rw [State.beginService_teq, he, Option.elim_some, if_pos hactive] at howner
    exact congrArg Host.Outcome.next (h.served howner)
  · intro t
    have howner := ownCancelEvent_eq b (s.beginService l)
    rw [State.beginService_teq, he, Option.elim_some, if_neg hactive] at howner
    refine (congrArg Host.Outcome.next (h.served howner)).trans ?_
    rw [cancelAnswer_payload, show Req.cancelEvent.code = 0x11 from rfl]
  · have howner : ownResumeQueue [] (s.beginService l) = (s.beginService l, some ⟨.ok, [.wide 1 0]⟩) :=
      if_neg (by simp [hh])
    exact congrArg Host.Outcome.next (h.served howner)
  · have howner : ownResumeQueue [] (s.beginService l) =
        (State.handOn { s.beginService l with teq := { s.teq with halted := false } }, some ⟨.ok, [.wide 1 1]⟩) := if_pos hh
    exact congrArg Host.Outcome.next (h.served howner)

/-! ### The readouts of the queue -/

/-- The bytes of READ_QUEUE's answer: HALTED and the number of records share a byte (R34, R202). -/
theorem queueAnswer_payload {b : Byte} (hb : b.toNat ≤ 15) (s : State) : (queueAnswer [b] s).payload =
    [0x00, byte s.teq.entries.length] ++ toBE 4 s.teq.posted.toNat ++ toBE 4 s.teq.closedCount.toNat ++
      [byte (s.teq.halted.toNat + 2 * ((s.teq.entries.drop b.toNat).take 3).length)] ++
      ((s.teq.entries.drop b.toNat).take 3).flatMap entryBytes := by
  have hfield : field [b] 0 1 = b.toNat := field_one (p := [b]) (by simp)
  have hcount : ((s.teq.entries.drop b.toNat).take 3).length % 4 = ((s.teq.entries.drop b.toNat).take 3).length :=
    Nat.mod_eq_of_lt (Nat.lt_succ_of_le (List.length_take_le _ _))
  unfold queueAnswer
  rw [hfield, if_neg (not_lt.mpr hb)]
  generalize (s.teq.entries.drop b.toNat).take 3 = es at hcount
  simp [Answer.payload, pack, Status.code, Item.bool, toBE, hcount, Nat.mul_comm]

/-- The bytes of READ_CLOSED's answer (R35, R202). -/
theorem closedAnswer_payload_none {b : Byte} {s : State} (hb : b.toNat ≤ 7) (h : s.teq.closed[b.toNat]? = none) :
    (closedAnswer [b] s).payload = [0x0C] ++ toBE 4 s.teq.closedCount.toNat := by
  have hfield : field [b] 0 1 = b.toNat := field_one (p := [b]) (by simp)
  unfold closedAnswer
  rw [hfield, if_neg (not_lt.mpr hb), h]
  simp [Answer.payload, pack, Status.code, toBE]

theorem closedAnswer_payload_some {b : Byte} {s : State} {r : ClosedRec} (hb : b.toNat ≤ 7)
    (h : s.teq.closed[b.toNat]? = some r) :
    (closedAnswer [b] s).payload = [0x00] ++ toBE 4 s.teq.closedCount.toNat ++ closedBytes r := by
  have hfield : field [b] 0 1 = b.toNat := field_one (p := [b]) (by simp)
  unfold closedAnswer
  rw [hfield, if_neg (not_lt.mpr hb), h]
  simp [Answer.payload, pack, Status.code, toBE]

/-- Settles O25: both requests only read, and their answers pack as given. -/
theorem queueReadoutBytes : Obligations.QueueReadoutBytes := by
  intro s l b entry es
  have hfield : field [b] 0 1 = b.toNat := field_one (p := [b]) (by simp)
  refine ⟨fun h => ⟨fun hb => ?_, fun hb => ?_⟩, fun h => ⟨fun hb => ?_, fun hb hnone => ?_, fun r hb hr => ?_⟩⟩
  all_goals refine (congrArg Host.Outcome.next (h.served (owner := readOnly _) rfl rfl rfl)).trans ?_
  · have hans : queueAnswer [b] (s.beginService l) = .just .badValue := by
      unfold queueAnswer
      rw [hfield, if_pos hb]
    rw [hans]
    rfl
  · have hentry : entry = entryBytes := by
      funext e
      obtain ⟨tag, kind, start, len, st⟩ := e
      cases kind <;> rfl
    rw [queueAnswer_payload hb, hentry]
    rfl
  · have hans : closedAnswer [b] (s.beginService l) = .just .badValue := by
      unfold closedAnswer
      rw [hfield, if_pos hb]
    rw [hans]
    rfl
  · rw [closedAnswer_payload_none (s := s.beginService l) hb hnone]
    rfl
  · rw [closedAnswer_payload_some (s := s.beginService l) hb hr]
    rfl

end Sys2Proof.Machine
end

section
/-! PROOFS. The close of an entry, part by part (R24, R25, R29, R62, R97, R134, R164), and O24. -/

set_option Elab.async false

namespace Sys2Proof.Machine

/-! ### The close of an entry -/

/-- The halt reasons of R29. -/
theorem CloseResult.halts_iff {r : CloseResult} : r.halts = true ↔
    r = .aborted .brkNoOpen ∨ r = .aborted .lowerLate ∨ r = .aborted .noCollector ∨ r = .aborted .wrongSystem := by
  cases r with
  | aborted a => cases a <;> simp [CloseResult.halts, AbortReason.halts]
  | done | doneNoVoltage | skipped => simp [CloseResult.halts]

theorem entryAbort_mem_closeFlags (b : Bool) (a : AbortReason) : Flag.entryAbort ∈ closeFlags b (.aborted a) := by
  cases a <;> simp [closeFlags, AbortReason.halts]

theorem queueHalt_mem_closeFlags (b : Bool) {r : CloseResult} (h : r.halts = true) : Flag.queueHalt ∈ closeFlags b r := by
  cases r with
  | aborted a => simp [closeFlags, show a.halts = true from h]
  | done | doneNoVoltage | skipped => cases h

/-- A close of an entry out of passage touches the queue and the flags alone (R24). -/
theorem State.closeEntry_of_not_held {s : State} {e : Entry} (hm : e ∈ s.teq.entries) (h : e.held = false) (r : CloseResult)
    (last : Option Step) : s.closeEntry e r last = s.recordClose e r last := by
  simp [State.closeEntry, hm, h]

/-- A close of the entry in passage ends the plan, and then the target hold (R97, R134; log 2). -/
theorem State.closeEntry_of_held {s : State} {e : Entry} (hm : e ∈ s.teq.entries) (h : e.held = true) (r : CloseResult)
    (last : Option Step) : s.closeEntry e r last = (s.recordClose e r last).planClosed.csHoldOff := by
  simp [State.closeEntry, hm, h]

/-! ### The end of the plan -/

/-- A unit's record as the end of the plan leaves it: its hold released where one is set (R62, R134). -/
def State.freedSlot (s : State) (k : SlotId) : Slot :=
  if s.psq.slotHold = .none then s.slots.get k else (s.slots.get k).releaseHold s.puCtx

theorem State.troUpdate_csu (s : State) : s.troUpdate.csu = { s.csu with tro := s.csu.troLevel } := by
  simp [State.troUpdate]

/-- The end of the plan releases SEQ, and TRO takes the level of the reasons that remain (R134, R164). -/
theorem State.planClosed_csu (s : State) : s.planClosed.csu = if s.psq.seqHeld
    then { s.csu with seqHeld := false, tro := s.csu.demandHeld || decide (s.csu.overReason ≠ .idle) } else s.csu := by
  have hholds (u : State) : (if u.psq.slotHold = .none then u else u.releaseHolds).csu = u.csu := by split <;> simp
  unfold State.planClosed
  simp only [hholds]
  split
  · simp [State.releaseSeq, State.troUpdate_csu, Csu.troLevel]
  · rfl

/-- What a unit reads outside its record rests on the parameters and the breaker (R203). -/
theorem State.puCtx_congr {s t : State} (hlif : t.lif = s.lif) (hbki : t.bki = s.bki) : t.puCtx = s.puCtx := by
  simp only [State.puCtx, State.approachKpa, State.forceKpa, State.raiseTimeout, State.lowerTimeout, State.retryGap, State.param,
    hlif, hbki]

theorem State.planClosed_slots (s : State) (k : SlotId) : s.planClosed.slots.get k = s.freedSlot k := by
  unfold State.planClosed State.freedSlot
  cases s.psq.seqHeld <;> by_cases h : s.psq.slotHold = .none <;>
    simp [h, State.releaseHolds, State.puCtx_congr (s.releaseSeq_lif) (s.releaseSeq_bki)]

/-! ### The end of the target hold -/

/-- The target hold ends with a close: it is on, and no section is ARMED or ACTIVE any more (R97). -/
def State.endsHold (s : State) : Prop := s.cs.hold = true ∧ s.teq.anyHeld = false

theorem State.csHoldOff_of_not_ends {s : State} (h : ¬ s.endsHold) : s.csHoldOff = s := by
  unfold State.csHoldOff
  split
  · rfl
  next hany =>
    split
    next hhold => exact absurd ⟨hhold, Bool.eq_false_iff.mpr hany⟩ h
    next => rfl

theorem State.csHoldOff_of_ends {s : State} (h : s.endsHold) :
    s.csHoldOff = State.deliverPending { s with cs := { s.cs with hold := false } } := by
  obtain ⟨hhold, hany⟩ := h
  simp [State.csHoldOff, hhold, hany]

/-- With no Pending Target, or one that is current already, nothing is delivered (R97). -/
theorem State.deliverPending_of_none {s : State} (h : s.cs.pend = none ∨ s.cs.pend = some s.cs.current) :
    s.deliverPending = { s with cs := { s.cs with pend := none } } := by
  obtain h | h := h <;> simp [State.deliverPending, h]

/-- A Pending Target that differs becomes the current Target and is delivered (R97). -/
theorem State.deliverPending_of_some {s : State} {p : Target} (h : s.cs.pend = some p) (hne : p ≠ s.cs.current) :
    s.deliverPending = State.deliver p { s with cs := { s.cs with pend := none } } := by
  simp [State.deliverPending, h, hne]

theorem State.csHoldOff_hold {s : State} (h : s.teq.anyHeld = false) : s.csHoldOff.cs.hold = false := by
  by_cases hhold : s.cs.hold = true
  · rw [State.csHoldOff_of_ends ⟨hhold, h⟩]
    simp only [State.deliverPending]
    split
    · rfl
    · split <;> rfl
  · rw [State.csHoldOff_of_not_ends fun ⟨hon, _⟩ => hhold hon]
    exact Bool.eq_false_iff.mpr hhold

/-! ### A close of the entry in passage -/

section InPassage

variable {s : State} {e : Entry} (r : CloseResult) (last : Option Step)

/-- The state in which the target hold is tested at a close: the record written and the plan ended. -/
def State.planEnded (s : State) (e : Entry) (r : CloseResult) (last : Option Step) : State := (s.recordClose e r last).planClosed

theorem State.planEnded_cs : (s.planEnded e r last).cs = s.cs := by simp [State.planEnded]

theorem State.planEnded_csu : (s.planEnded e r last).csu = if s.psq.seqHeld
    then { s.csu with seqHeld := false, tro := s.csu.demandHeld || decide (s.csu.overReason ≠ .idle) } else s.csu := by
  simp [State.planEnded, State.planClosed_csu]

theorem State.planEnded_puCtx : (s.planEnded e r last).puCtx = s.puCtx :=
  State.puCtx_congr (by simp [State.planEnded]) (by simp [State.planEnded])

theorem State.planEnded_slots (k : SlotId) : (s.planEnded e r last).slots.get k = s.freedSlot k := by
  have hctx : (s.recordClose e r last).puCtx = s.puCtx := State.puCtx_congr (by simp) (by simp)
  simp [State.planEnded, State.planClosed_slots, State.freedSlot, hctx]

end InPassage

/-- Settles O24: the record and its flags; for the entry in passage the plan's end and then the target hold's, and nothing but the record
for any other. -/
theorem closeFormsTheRecord : Obligations.CloseFormsTheRecord := by
  intro s e r last hm t halts
  have hteq : t.teq = s.teq.close e ⟨e.tag, e.kind, r, last, s.pe.e⟩ r.halts := State.closeEntry_teq_eq_close hm r last
  have hflag {f : Flag} (hf : f ∈ closeFlags e.kind.isSection r) : FlagSet.has t.fnu.flags f = true :=
    State.closeEntry_flags hm last hf
  refine ⟨by rw [hteq]; rfl, by rw [hteq]; rfl, by rw [hteq]; rfl, by rw [hteq]; rfl, ?_, fun hh => ?_, ?_, ?_, ?_, fun hheld => ?_,
    fun hheld => ?_, by simp [t], by simp [t], by simp [t], by simp [t], by simp [t]⟩
  · have hhalts : r.halts = true ↔ halts := CloseResult.halts_iff
    rw [hteq, ← hhalts]
    exact Bool.or_eq_true_iff
  · exact hflag (queueHalt_mem_closeFlags _ (CloseResult.halts_iff.mpr hh))
  · rintro ⟨a, rfl⟩
    exact hflag (entryAbort_mem_closeFlags _ a)
  · rintro (rfl | rfl) <;> exact hflag (List.mem_singleton.mpr rfl)
  · rintro hsec (rfl | rfl) <;> exact hflag (by simp [closeFlags, hsec])
  · have ht : t = (s.planEnded e r last).csHoldOff := State.closeEntry_of_held hm hheld r last
    have hany : t.teq.anyHeld = (s.planEnded e r last).teq.anyHeld := by rw [ht, State.csHoldOff_teq]
    have hcsu := State.planEnded_csu (s := s) (e := e) r last
    have hcs := State.planEnded_cs (s := s) (e := e) r last
    have hslots := State.planEnded_slots (s := s) (e := e) r last
    have hctx := State.planEnded_puCtx (s := s) (e := e) r last
    have hpsq : (s.planEnded e r last).psq = .reset := rfl
    rw [hany, ht, State.csHoldOff_psq, State.csHoldOff_csu]
    generalize s.planEnded e r last = u at *
    have hends : (s.cs.hold = true ∧ u.teq.anyHeld = false) ↔ u.endsHold := by rw [State.endsHold, hcs]
    refine ⟨hpsq, fun hseq => ?_, State.csHoldOff_hold, hcsu, ?_⟩
    · rw [hcsu, if_pos hseq]
    intro freed ends
    have hfreed : freed = s.freedSlot := rfl
    refine ⟨fun hno => ?_, fun hyes hpend => ?_, fun hyes p hpend hne => ?_⟩
    · rw [State.csHoldOff_of_not_ends (mt hends.mpr hno)]
      exact ⟨hcs, hslots⟩
    · rw [State.csHoldOff_of_ends (hends.mp hyes), State.deliverPending_of_none (by simpa [hcs] using hpend)]
      exact ⟨by rw [hcs], hslots⟩
    · rw [State.csHoldOff_of_ends (hends.mp hyes), State.deliverPending_of_some (p := p) (by simpa [hcs] using hpend)
        (by simpa [hcs] using hne)]
      refine ⟨by simp [hcs], fun k => ?_⟩
      rw [State.deliver_slots, PerSlot.get_of, hfreed, ← hslots k, ← hctx]
      rfl
  · have ht : t = s.recordClose e r last := State.closeEntry_of_not_held hm hheld r last
    rw [ht]
    simp

end Sys2Proof.Machine
end

section
/-! PROOFS. What an estimate update leaves in the queue: no passed section, no left ice zone, and a zone INSIDE where one is reached (R27,
R31), and O26. -/

set_option Elab.async false

namespace Sys2Proof.Machine

/-! ### What the points rest on -/

/-- The estimate and everything else that the points of the entries rest on are as they were (R12, R27, R31). -/
structure State.SameGround (s t : State) : Prop where
  pe : t.pe = s.pe
  framed : s.Framed t

theorem State.SameGround.refl (s : State) : s.SameGround s := ⟨rfl, (State.Kept.refl s).toFramed⟩

theorem State.SameGround.trans {s t u : State} (h : s.SameGround t) (g : t.SameGround u) : s.SameGround u :=
  ⟨g.pe.trans h.pe, h.framed.trans g.framed⟩

/-- The effective offsets of the enabled slots, in slot order (R12, R116). -/
theorem State.enabledOffsets_eq (s : State) : s.enabledOffsets =
    (allSlots.filter fun k => (s.slots.get k).enabled).map fun k => s.effOffset (s.slots.get k) := by
  have hlist : s.slots.toList = allSlots.map s.slots.get := rfl
  rw [State.enabledOffsets, hlist, List.filter_map, List.map_map]
  rfl

section SameGround

variable {s t : State} (h : s.SameGround t)
include h

theorem State.SameGround.param (i : Nat) : t.param i = s.param i := by rw [State.param, h.framed.lif]; rfl

theorem State.SameGround.effOffset (x y : Slot) (hxy : y.offset = x.offset) : t.effOffset y = s.effOffset x := by
  unfold State.effOffset
  rw [h.pe, hxy, show t.trainLength = s.trainLength from h.param _]

theorem State.SameGround.oRearNow : t.oRearNow = s.oRearNow := by
  have henabled : (fun k => (t.slots.get k).enabled) = fun k => (s.slots.get k).enabled :=
    funext fun k => (h.framed.slots k).enabled
  have hoffset : (fun k => t.effOffset (t.slots.get k)) = fun k => s.effOffset (s.slots.get k) :=
    funext fun k => h.effOffset _ _ (h.framed.slots k).offset
  rw [State.oRearNow, State.oRearNow, State.enabledOffsets_eq, State.enabledOffsets_eq, henabled, hoffset]

theorem State.SameGround.cleared {x : Entry} (hq : x.status = .queued) : t.cleared x = s.cleared x := by
  unfold State.cleared State.oRearFor State.clearedPoint
  rw [if_pos hq, if_pos hq, h.oRearNow, h.pe, show t.margin = s.margin from h.param _]

theorem State.SameGround.exitReached (x : Entry) : reached t.pe.e (t.exitPoint x) = reached s.pe.e (s.exitPoint x) := by
  unfold State.exitPoint
  rw [h.pe, show t.trainLength = s.trainLength from h.param _]

theorem State.SameGround.leadReached (x : Entry) : reached t.pe.e (t.leadPoint x) = reached s.pe.e (s.leadPoint x) := by
  unfold State.leadPoint
  rw [h.pe, show t.iceLead = s.iceLead from h.param _]

end SameGround

theorem State.skipPassed_sameGround (s : State) (e : Entry) : s.SameGround (s.skipPassed e) :=
  ⟨by simp, (s.skipPassed_kept e).toFramed⟩

theorem State.zoneTest_sameGround (s : State) (e : Entry) : s.SameGround (s.zoneTest e) :=
  ⟨by simp, (s.zoneTest_kept e).toFramed⟩

theorem State.skipAll_sameGround (s : State) : s.SameGround s.skipAll := ⟨by simp, s.skipAll_kept.toFramed⟩

theorem State.zonesAll_sameGround (s : State) : s.SameGround s.zonesAll := ⟨by simp, s.zonesAll_kept.toFramed⟩

theorem State.handOn_sameGround (s : State) : s.SameGround s.handOn := ⟨by simp, s.handOn_framed⟩

/-! ### The entries that the sequencer's moves leave -/

/-- The sequencer's moves bring no entry that it does not hold. -/
theorem Teq.SeqMoves.mem_of_not_held {q r : Teq} (h : q.SeqMoves r) {x : Entry} (hx : x.held = false) (hm : x ∈ r.entries) :
    x ∈ q.entries := by
  have hstatus {q : Teq} {e : Entry} {st : EntryStatus} (hst : ({ e with status := st } : Entry).held = true)
      (hm : x ∈ (q.withStatus e st).entries) : x ∈ q.entries := by
    obtain ⟨y, hy, rfl⟩ := List.mem_map.mp hm
    by_cases hye : y = e
    · subst hye
      rw [Entry.withStatus_self, hst] at hx
      cases hx
    · rwa [Entry.withStatus_of_ne hye]
  induction h with
  | refl => exact hm
  | tail _ hlast ih =>
    refine ih ?_
    cases hlast with
    | close _ _ c halts => exact List.mem_of_mem_erase hm
    | arm hn hq => exact hstatus rfl hm
    | activate hm' hs ha => exact hstatus rfl hm

/-- The sequencer's moves leave the ice zones as they are. -/
theorem Teq.SeqMoves.mem_zone_iff {q r : Teq} (h : q.SeqMoves r) {x : Entry} (hx : x.kind.isSection = false) :
    x ∈ r.entries ↔ x ∈ q.entries := by
  have hne {e : Entry} (hs : e.kind.isSection = true) : x ≠ e := fun heq => by simp [← heq, hx] at hs
  have hstatus {q : Teq} {e : Entry} (st : EntryStatus) (hs : e.kind.isSection = true) :
      x ∈ (q.withStatus e st).entries ↔ x ∈ q.entries := by
    refine ⟨fun hm => ?_, fun hm => List.mem_map.mpr ⟨x, hm, Entry.withStatus_of_ne (hne hs) st⟩⟩
    obtain ⟨y, hy, rfl⟩ := List.mem_map.mp hm
    rw [Entry.withStatus_kind] at hx
    rwa [Entry.withStatus_of_ne fun heq => by simp [← heq, hx] at hs]
  induction h with
  | refl => exact Iff.rfl
  | tail _ hlast ih =>
    refine Iff.trans ?_ ih
    cases hlast with
    | close _ hs c halts => exact List.mem_erase_of_ne (hne hs)
    | arm hn hq => exact hstatus _ (Teq.isSection_of_nearest hn)
    | activate hm hs ha => exact hstatus _ hs

/-! ### Folds over the queue -/

/-- A fold of an operation keeps what the operation keeps. -/
theorem State.foldl_keeps {f : State → Entry → State} {P : State → Prop} {es : List Entry}
    (h : ∀ u, ∀ a ∈ es, P u → P (f u a)) {s : State} (hs : P s) : P (es.foldl f s) := by
  induction es generalizing s with
  | nil => exact hs
  | cons a as ih => exact ih (fun u b hb => h u b (List.mem_cons_of_mem _ hb)) (h s a List.mem_cons_self hs)

/-- A fold of an operation that takes one copy of an entry away at the entry, and adds none of it elsewhere, takes as many copies
away as it meets. -/
theorem State.count_foldl_le {f : State → Entry → State} {I : State → Prop} {x : Entry} (hI : ∀ u a, I u → I (f u a))
    (hself : ∀ u, I u → (f u x).teq.entries.count x ≤ u.teq.entries.count x - 1)
    (hother : ∀ u a, a ≠ x → I u → (f u a).teq.entries.count x ≤ u.teq.entries.count x) (es : List Entry) {s : State} (hs : I s) :
    (es.foldl f s).teq.entries.count x ≤ s.teq.entries.count x - es.count x := by
  induction es generalizing s with
  | nil => exact le_rfl
  | cons a as ih =>
    refine (ih (hI s a hs)).trans ?_
    by_cases hax : a = x
    · subst hax
      have := hself s hs
      rw [List.count_cons_self]
      omega
    · have := hother s a hax hs
      rw [List.count_cons_of_ne hax]
      omega

theorem State.not_mem_foldl_entries {f : State → Entry → State} {I : State → Prop} {x : Entry} (hI : ∀ u a, I u → I (f u a))
    (hself : ∀ u, I u → (f u x).teq.entries.count x ≤ u.teq.entries.count x - 1)
    (hother : ∀ u a, a ≠ x → I u → (f u a).teq.entries.count x ≤ u.teq.entries.count x) {s : State} (hs : I s) :
    x ∉ (s.teq.entries.foldl f s).teq.entries := by
  have h := State.count_foldl_le hI hself hother s.teq.entries hs
  rw [Nat.sub_self] at h
  exact List.count_eq_zero.mp (Nat.le_zero.mp h)

/-! ### The entries that closes leave -/

/-- A close takes one copy of its entry out of the queue, if there is one. -/
theorem State.closeEntry_entries (s : State) (e : Entry) (r : CloseResult) (last : Option Step) :
    (s.closeEntry e r last).teq.entries = s.teq.entries.erase e := by
  by_cases h : e ∈ s.teq.entries
  · rw [State.closeEntry_teq_of_mem h]
  · rw [State.closeEntry_of_not_mem _ _ _ _ h, List.erase_of_not_mem h]

/-- Skipping takes sections alone out of the queue (R27). -/
theorem State.skipPassed_entries (s : State) (e : Entry) : (s.skipPassed e).teq.entries = s.teq.entries ∨
    (e.kind.isSection = true ∧ (s.skipPassed e).teq.entries = s.teq.entries.erase e) := by
  unfold State.skipPassed
  split
  next h => exact .inr ⟨h.1, s.closeEntry_entries _ _ _⟩
  next => exact .inl rfl

/-- After skipping no QUEUED section is left whose cleared point is reached (R27). -/
theorem State.not_mem_skipAll {s : State} {x : Entry} (hs : x.kind.isSection = true) (hq : x.status = .queued)
    (hc : s.cleared x = true) : x ∉ s.skipAll.teq.entries := by
  refine State.not_mem_foldl_entries (I := fun u => s.SameGround u) (fun u a h => h.trans (u.skipPassed_sameGround a)) (fun u h => ?_)
    (fun u a hne h => ?_) (.refl s)
  · have hskip : u.skipPassed x = u.closeEntry x (.skipped (if u.teq.halted then .passedHalted else .passed)) none :=
      if_pos ⟨hs, .inl hq, by rw [h.cleared hq, hc]⟩
    rw [hskip, State.closeEntry_entries, List.count_erase_self]
  · obtain h | ⟨_, h⟩ := u.skipPassed_entries a
    · rw [h]
    · rw [h, List.count_erase_of_ne hne.symm]

/-- What one ice zone's test makes of the queue (R31). -/
theorem State.zoneTest_entries (s : State) (e : Entry) : (s.zoneTest e).teq.entries = s.teq.entries ∨
    (e.kind.isSection = false ∧ reached s.pe.e (s.exitPoint e) = true ∧ (s.zoneTest e).teq.entries = s.teq.entries.erase e) ∨
    (e.kind.isSection = false ∧ reached s.pe.e (s.exitPoint e) = false ∧
      (s.zoneTest e).teq.entries = s.teq.entries.map (e.withStatus .inside)) := by
  unfold State.zoneTest
  split
  next => exact .inl rfl
  next hs =>
    have hz := Bool.eq_false_iff.mpr hs
    split
    next hx => exact .inr (.inl ⟨hz, hx, s.closeEntry_entries _ _ _⟩)
    next hx =>
      split
      · exact .inr (.inr ⟨hz, Bool.eq_false_iff.mpr hx, rfl⟩)
      · exact .inl rfl

/-- After the zones are taken none is left whose exit point is reached (R31). -/
theorem State.not_mem_zonesAll {s : State} {x : Entry} (hz : x.kind.isSection = false)
    (hx : reached s.pe.e (s.exitPoint x) = true) : x ∉ s.zonesAll.teq.entries := by
  refine State.not_mem_foldl_entries (I := fun u => s.SameGround u) (fun u a h => h.trans (u.zoneTest_sameGround a)) (fun u h => ?_)
    (fun u a hne h => ?_) (.refl s)
  · have htest : u.zoneTest x = u.closeEntry x (if x.status = .inside then .done else .skipped .passed) none := by
      unfold State.zoneTest
      rw [if_neg (by simp [hz]), if_pos (by rw [h.exitReached, hx])]
    rw [htest, State.closeEntry_entries, List.count_erase_self]
  · obtain h' | ⟨_, _, h'⟩ | ⟨_, hexit, h'⟩ := u.zoneTest_entries a
    · rw [h']
    · rw [h', List.count_erase_of_ne hne.symm]
    · -- a zone that becomes INSIDE has its exit point ahead, so it is none of those meant
      rw [h']
      refine countP_map_withStatus_le (p := fun y => y == x) fun heq => ?_
      obtain rfl := beq_iff_eq.mp heq
      rw [← h.exitReached] at hx
      exact absurd (hexit.symm.trans hx) Bool.false_ne_true

/-- The tests of the zones bring no section into the queue (R31). -/
theorem State.mem_of_mem_zonesAll {s : State} {x : Entry} (hs : x.kind.isSection = true) (hm : x ∈ s.zonesAll.teq.entries) :
    x ∈ s.teq.entries := by
  refine State.foldl_keeps (P := fun u => x ∈ u.teq.entries → x ∈ s.teq.entries) (fun u a _ ih hm => ih ?_) id hm
  obtain h | ⟨_, _, h⟩ | ⟨hz, _, h⟩ := u.zoneTest_entries a
  · rwa [h] at hm
  · rw [h] at hm
    exact List.mem_of_mem_erase hm
  · rw [h] at hm
    obtain ⟨y, hy, rfl⟩ := List.mem_map.mp hm
    rw [Entry.withStatus_kind] at hs
    rwa [Entry.withStatus_of_ne fun heq => by simp [heq, hz] at hs]

/-- Skipping leaves the ice zones, and brings nothing (R27). -/
theorem State.mem_skipAll_zone {s : State} {x : Entry} (hz : x.kind.isSection = false) (hm : x ∈ s.teq.entries) :
    x ∈ s.skipAll.teq.entries := by
  refine State.foldl_keeps (P := fun u => x ∈ u.teq.entries) (fun u a _ ih => ?_) hm
  obtain h | ⟨hs, h⟩ := u.skipPassed_entries a
  · rwa [h]
  · rw [h]
    exact (List.mem_erase_of_ne fun heq => by simp [← heq, hz] at hs).mpr ih

theorem State.mem_of_mem_skipAll {s : State} {x : Entry} (hm : x ∈ s.skipAll.teq.entries) : x ∈ s.teq.entries := by
  refine State.foldl_keeps (P := fun u => x ∈ u.teq.entries → x ∈ s.teq.entries) (fun u a _ ih hm => ih ?_) id hm
  obtain h | ⟨_, h⟩ := u.skipPassed_entries a
  · rwa [h] at hm
  · rw [h] at hm
    exact List.mem_of_mem_erase hm

/-! ### A reached ice zone -/

/-- An ice zone is INSIDE. -/
def Teq.InsideZone (q : Teq) : Prop := ∃ o ∈ q.entries, o.kind.isSection = false ∧ o.status = .inside

/-- Only ice zones are INSIDE (R18, R19). -/
def Teq.OnlyZonesInside (q : Teq) : Prop := ∀ o ∈ q.entries, o.status = .inside → o.kind.isSection = false

/-- The test of a zone that is not INSIDE leaves the one that is (R31). -/
theorem State.zoneTest_insideZone {s : State} {a : Entry} (ha : a.status ≠ .inside) (h : s.teq.InsideZone) :
    (s.zoneTest a).teq.InsideZone := by
  obtain ⟨o, ho, hz, hi⟩ := h
  have hne : o ≠ a := fun heq => ha (heq ▸ hi)
  refine ⟨o, ?_, hz, hi⟩
  obtain h | ⟨_, _, h⟩ | ⟨_, _, h⟩ := s.zoneTest_entries a
  · rwa [h]
  · rw [h]
    exact (List.mem_erase_of_ne hne).mpr ho
  · rw [h]
    exact List.mem_map.mpr ⟨o, ho, Entry.withStatus_of_ne hne _⟩

theorem State.zoneTest_onlyZonesInside {s : State} {a : Entry} (h : s.teq.OnlyZonesInside) : (s.zoneTest a).teq.OnlyZonesInside := by
  intro o ho hi
  obtain h' | ⟨_, _, h'⟩ | ⟨hz, _, h'⟩ := s.zoneTest_entries a
  · exact h o (by rwa [h'] at ho) hi
  · rw [h'] at ho
    exact h o (List.mem_of_mem_erase ho) hi
  · rw [h'] at ho
    obtain ⟨y, hy, rfl⟩ := List.mem_map.mp ho
    rw [Entry.withStatus_kind]
    by_cases hya : y = a
    · rw [hya, hz]
    · rw [Entry.withStatus_of_ne hya] at hi
      exact h y hy hi

/-- The zone that is to be taken: QUEUED, its lead point reached and its exit point ahead (R31). -/
structure State.Reaches (s : State) (x : Entry) : Prop where
  zone : x.kind.isSection = false
  queued : x.status = .queued
  exit : reached s.pe.e (s.exitPoint x) = false
  lead : reached s.pe.e (s.leadPoint x) = true

theorem State.SameGround.reaches {s t : State} (h : s.SameGround t) {x : Entry} (hx : s.Reaches x) : t.Reaches x :=
  ⟨hx.zone, hx.queued, by rw [h.exitReached, hx.exit], by rw [h.leadReached, hx.lead]⟩

theorem Teq.insideZone_of_zoneInside {q : Teq} (h : q.OnlyZonesInside) (hi : q.zoneInside = true) : q.InsideZone := by
  obtain ⟨o, ho, hst⟩ := List.any_eq_true.mp hi
  have hst : o.status = .inside := of_decide_eq_true hst
  exact ⟨o, ho, h o ho hst, hst⟩

/-- The test of a reached zone leaves a zone INSIDE: itself, or the one that stands INSIDE already (R31). -/
theorem State.zoneTest_self_insideZone {s : State} {x : Entry} (hx : s.Reaches x) (ho : s.teq.OnlyZonesInside)
    (hm : x ∈ s.teq.entries ∨ s.teq.InsideZone) : (s.zoneTest x).teq.InsideZone := by
  obtain ⟨hz, hq, hexit, hlead⟩ := hx
  by_cases hi : s.teq.zoneInside = true
  · exact State.zoneTest_insideZone (by simp [hq]) (Teq.insideZone_of_zoneInside ho hi)
  · have hi := Bool.eq_false_iff.mpr hi
    obtain hm | ⟨o, ho, _, hst⟩ := hm
    · have htest : (s.zoneTest x).teq = s.teq.withStatus x .inside := by
        unfold State.zoneTest
        rw [if_neg (by simp [hz]), if_neg (by simp [hexit]), if_pos ⟨hq, hlead, hi⟩]
        rfl
      rw [htest]
      exact ⟨_, List.mem_map_of_mem hm, by rw [Entry.withStatus_kind, hz], by rw [Entry.withStatus_self]⟩
    · exact absurd (decide_eq_true hst) (List.any_eq_false.mp hi o ho)

/-- The test of another zone leaves a reached zone queued (R31). -/
theorem State.mem_zoneTest_of_ne {s : State} {x a : Entry} (hne : x ≠ a) (hm : x ∈ s.teq.entries) :
    x ∈ (s.zoneTest a).teq.entries := by
  obtain h | ⟨_, _, h⟩ | ⟨_, _, h⟩ := s.zoneTest_entries a
  · rwa [h]
  · rw [h]
    exact (List.mem_erase_of_ne hne).mpr hm
  · rw [h]
    exact List.mem_map.mpr ⟨x, hm, Entry.withStatus_of_ne hne _⟩

/-- With no zone INSIDE, the zones' tests leave one INSIDE where a queued one is reached (R31). -/
theorem State.zonesAll_insideZone {s : State} {x : Entry} (hx : s.Reaches x) (hm : x ∈ s.teq.entries)
    (hno : ∀ o ∈ s.teq.entries, o.status ≠ .inside) : s.zonesAll.teq.InsideZone := by
  obtain ⟨front, back, hsplit⟩ := List.append_of_mem hm
  have hfront : ∀ a ∈ front, a.status ≠ .inside := fun a ha => hno a (by simp [hsplit, ha])
  have hback : ∀ a ∈ back, a.status ≠ .inside := fun a ha => hno a (by simp [hsplit, ha])
  -- up to its own test the zone stands queued, or another has become INSIDE
  have hbefore : s.SameGround (front.foldl State.zoneTest s) ∧ (front.foldl State.zoneTest s).teq.OnlyZonesInside ∧
      (x ∈ (front.foldl State.zoneTest s).teq.entries ∨ (front.foldl State.zoneTest s).teq.InsideZone) := by
    refine State.foldl_keeps (P := fun u => s.SameGround u ∧ u.teq.OnlyZonesInside ∧ (x ∈ u.teq.entries ∨ u.teq.InsideZone))
      (fun u a ha ⟨hground, honly, hxu⟩ => ⟨hground.trans (u.zoneTest_sameGround a), State.zoneTest_onlyZonesInside honly, ?_⟩)
      ⟨.refl s, fun o ho hi => absurd hi (hno o ho), .inl hm⟩
    by_cases hxa : x = a
    · subst hxa
      exact .inr (State.zoneTest_self_insideZone (hground.reaches hx) honly hxu)
    · exact hxu.imp (State.mem_zoneTest_of_ne hxa) (State.zoneTest_insideZone (hfront a ha))
  obtain ⟨hground, honly, hxu⟩ := hbefore
  rw [State.zonesAll, hsplit, List.foldl_append, List.foldl_cons]
  exact State.foldl_keeps (P := fun u => u.teq.InsideZone) (fun u a ha => State.zoneTest_insideZone (hback a ha))
    (State.zoneTest_self_insideZone (hground.reaches hx) honly hxu)

/-! ### The estimate update -/

theorem State.estimateUpdate_eq (s : State) : s.estimateUpdate = s.psqUpdate.skipAll.zonesAll.handOn := rfl

theorem State.psqUpdate_sameGround (s : State) : s.SameGround s.psqUpdate := ⟨by simp, s.psqUpdate_kept.toFramed⟩

theorem reached_eq_false_iff {x y : Pos} : reached x y = false ↔ signedDiff x y < 0 := by simp [reached]

theorem reached_iff {x y : Pos} : reached x y = true ↔ 0 ≤ signedDiff x y := by simp [reached]

/-- After an estimate update every QUEUED section has its cleared point ahead (R27). -/
theorem State.estimateUpdate_not_cleared {s : State} {x : Entry} (hm : x ∈ s.estimateUpdate.teq.entries)
    (hs : x.kind.isSection = true) (hq : x.status = .queued) : s.estimateUpdate.cleared x = false := by
  rw [State.estimateUpdate_eq] at hm ⊢
  generalize s.psqUpdate = u at hm
  have hground := (u.skipAll_sameGround.trans (State.zonesAll_sameGround _)).trans (State.handOn_sameGround _)
  have hheld : x.held = false := by simp [Entry.held, hq]
  have hmem := State.mem_of_mem_zonesAll hs ((State.handOn_seqMoves _).mem_of_not_held hheld hm)
  rw [hground.cleared hq]
  exact Bool.eq_false_iff.mpr fun hc => State.not_mem_skipAll hs hq hc hmem

/-- After an estimate update every ice zone has its exit point ahead (R31). -/
theorem State.estimateUpdate_not_left {s : State} {x : Entry} (hm : x ∈ s.estimateUpdate.teq.entries)
    (hz : x.kind.isSection = false) : reached s.estimateUpdate.pe.e (s.estimateUpdate.exitPoint x) = false := by
  rw [State.estimateUpdate_eq] at hm ⊢
  generalize s.psqUpdate.skipAll = u at hm
  have hground := u.zonesAll_sameGround.trans (State.handOn_sameGround _)
  have hmem := ((State.handOn_seqMoves _).mem_zone_iff hz).mp hm
  rw [hground.exitReached]
  exact Bool.eq_false_iff.mpr fun hx => State.not_mem_zonesAll hz hx hmem

/-- With no zone INSIDE before, an estimate update leaves one INSIDE where a queued one is reached (R31). -/
theorem State.estimateUpdate_insideZone {s : State} {x : Entry} (hx : s.Reaches x) (hm : x ∈ s.teq.entries)
    (hno : ∀ o ∈ s.teq.entries, o.status ≠ .inside) : s.estimateUpdate.teq.InsideZone := by
  have hground := s.psqUpdate_sameGround.trans (State.skipAll_sameGround _)
  have hmem := State.mem_skipAll_zone hx.zone ((s.psqUpdate_seqMoves.mem_zone_iff hx.zone).mpr hm)
  obtain ⟨o, ho, hz, hi⟩ := State.zonesAll_insideZone (hground.reaches hx) hmem fun o ho hi =>
    hno o (s.psqUpdate_seqMoves.mem_of_not_held (by simp [Entry.held, hi]) (State.mem_of_mem_skipAll ho)) hi
  rw [State.estimateUpdate_eq]
  exact ⟨o, ((State.handOn_seqMoves _).mem_zone_iff hz).mpr ho, hz, hi⟩

/-- A refresh outside NO_FIX is an estimate update of the state with the estimate recomputed (R7). -/
theorem execPositionRefresh_of_fix {s : State} (hrun : s.inReset = false) (hfix : s.pe.status ≠ .noFix) :
    exec .positionRefresh s = .next (s.setPe s.refreshed).estimateUpdate := by
  refine (congrArg Host.Outcome.next (whenRunning_of_running hrun _)).trans ?_
  rw [if_neg hfix]

/-- The rows of R31 for one ice zone. -/
theorem State.zoneTest_rows {s : State} {e : Entry} (hz : e.kind.isSection = false) : s.zoneTest e =
    if reached s.pe.e (s.exitPoint e) then s.closeEntry e (if e.status = .inside then .done else .skipped .passed) none
    else if e.status = .queued ∧ reached s.pe.e (s.leadPoint e) ∧ s.teq.zoneInside = false then
      { s with teq := s.teq.withStatus e .inside }
    else s := by
  unfold State.zoneTest
  rw [if_neg (by simp [hz])]
  rfl

theorem Teq.zoneInside_eq_false_iff {q : Teq} : q.zoneInside = false ↔ ¬ ∃ o ∈ q.entries, o.status = .inside := by
  simp [Teq.zoneInside]

/-- Settles O26: what an estimate update leaves, of the state with the estimate recomputed; and the rows of one zone's test. -/
theorem refreshLeavesNothingPassed : Obligations.RefreshLeavesNothingPassed := by
  refine ⟨fun s t hrun hfix h => ?_, ?_⟩
  · rw [execPositionRefresh_of_fix hrun hfix] at h
    have hteq : (s.setPe s.refreshed).teq = s.teq := State.setPe_teq _ _
    have hlif : (s.setPe s.refreshed).lif = s.lif := State.setPe_lif _ _
    generalize s.setPe s.refreshed = u at h hteq hlif
    have ht := Host.Outcome.next.inj h
    have hpe : t.pe = u.pe := by rw [← ht, State.estimateUpdate_pe]
    refine ⟨fun e he hs hq => ?_, fun e he hz => ?_, fun e he hz hq hno hexit hlead => ?_⟩
    · have hclear := State.estimateUpdate_not_cleared (s := u) (by rwa [ht]) hs hq
      rw [ht, State.cleared, State.oRearFor, if_pos hq, reached_eq_false_iff] at hclear
      exact hclear
    · have hleft := State.estimateUpdate_not_left (s := u) (by rwa [ht]) hz
      rw [ht, reached_eq_false_iff] at hleft
      exact hleft
    · have hparam (i : Nat) : s.param i = u.param i := by rw [State.param, State.param, hlif]
      rw [hpe, State.trainLength, hparam] at hexit
      rw [hpe, State.iceLead, hparam] at hlead
      have hreaches : u.Reaches e := ⟨hz, hq, reached_eq_false_iff.mpr hexit, reached_iff.mpr hlead⟩
      rw [← hteq] at he hno
      exact ht ▸ State.estimateUpdate_insideZone hreaches he hno
  · intro s e hz exit lead inside
    have hexit : reached s.pe.e (s.exitPoint e) = true ↔ exit := reached_iff
    have hlead : reached s.pe.e (s.leadPoint e) = true ↔ lead := reached_iff
    have hinside : s.teq.zoneInside = false ↔ ¬ inside := Teq.zoneInside_eq_false_iff
    rw [State.zoneTest_rows hz]
    refine ⟨fun hx hi => ?_, fun hx hi => ?_, fun hx hq hl hi => ?_, fun hx hno => ?_⟩
    · rw [if_pos (hexit.mpr hx), if_pos hi]
    · rw [if_pos (hexit.mpr hx), if_neg hi]
    · rw [if_neg (mt hexit.mp hx), if_pos ⟨hq, hlead.mpr hl, hinside.mpr hi⟩]
      rfl
    · rw [if_neg (mt hexit.mp hx)]
      refine if_neg fun ⟨hq, hl, hi⟩ => ?_
      obtain h | h | h := hno
      · exact h hq
      · exact h (hlead.mp hl)
      · exact hinside.mp hi h

end Sys2Proof.Machine
end

section
/-! PROOFS. The points of a section entry, the offsets, the estimate update of the sequencer test by test, and the two timers of a passage
(R115 to R123, R130), and O50. -/

set_option Elab.async false

namespace Sys2Proof.Machine

/-! ### The points -/

/-- The points of an entry for given offsets and lead time (R116 to R118). -/
def State.pointsWith (s : State) (e : Entry) (oLead oRear t : Nat) : Points :=
  let g := ceilDiv (s.pe.v * t) 1000
  let d := e.start.plus oLead
  let a := d.minus (s.margin + g + s.pe.u)
  { tag := e.tag, g := g, d := d, a := a, arming := a.minus s.armLead, deadline := d.minus s.pe.u,
    c := s.clearedPoint e.start e.len oRear, e := s.pe.e, u := s.pe.u }

/-- The lead time by kind (R117). -/
theorem State.tLeadNow_of_isSection (s : State) {k : Kind} (h : k.isSection = true) :
    s.tLeadNow k = if k = .neutral false then s.tRamp + s.tOpen else s.tRamp + s.tOpen + s.tLower := by
  cases k with
  | neutral b => cases b <;> rfl
  | boundary | lower => rfl
  | iceZone => cases h

/-- Before arming the points are those of the values of the update (R116 to R118). -/
theorem State.pointsOf_of_not_held (s : State) {e : Entry} (h : e.held = false) :
    s.pointsOf e = s.pointsWith e s.oLeadNow s.oRearNow (s.tLeadNow e.kind) := by
  have hactive : e.status ≠ .active := fun ha => by simp [Entry.held, ha] at h
  simp [State.pointsOf, State.pointsWith, h, hactive]

/-- From arming they are those of the plan's offsets (R119). -/
theorem State.pointsOf_of_armed {s : State} {e : Entry} {oLead oRear : Nat} (h : e.status = .armed) (hl : s.psq.oLead = some oLead)
    (hr : s.psq.oRear = some oRear) : s.pointsOf e = s.pointsWith e oLead oRear (s.tLeadNow e.kind) := by
  simp [State.pointsOf, State.pointsWith, Entry.held, h, hl, hr]

/-- From activation they are those of the plan's lead time too (R120). -/
theorem State.pointsOf_of_active {s : State} {e : Entry} {oLead oRear tLead : Nat} (h : e.status = .active)
    (hl : s.psq.oLead = some oLead) (hr : s.psq.oRear = some oRear) (ht : s.psq.tLead = some tLead) :
    s.pointsOf e = s.pointsWith e oLead oRear tLead := by
  simp [State.pointsOf, State.pointsWith, Entry.held, h, hl, hr, ht]

/-! ### The offsets -/

theorem foldl_min_mem_and_le (x : Nat) (xs : List Nat) : xs.foldl min x ∈ x :: xs ∧ ∀ y ∈ x :: xs, xs.foldl min x ≤ y :=
  List.min?_eq_some_iff.mp List.min?_cons'

theorem foldl_max_mem_and_le (x : Nat) (xs : List Nat) :
    (x :: xs).foldl max 0 ∈ x :: xs ∧ ∀ y ∈ x :: xs, y ≤ (x :: xs).foldl max 0 := by
  rw [List.foldl_cons, Nat.zero_max]
  exact List.max?_eq_some_iff.mp List.max?_cons'

theorem State.mem_enabledOffsets {s : State} {n : Nat} :
    n ∈ s.enabledOffsets ↔ ∃ k, (s.slots.get k).enabled = true ∧ n = s.effOffset (s.slots.get k) := by
  have hall (k : SlotId) : k ∈ allSlots := by cases k <;> simp [allSlots]
  rw [State.enabledOffsets_eq, List.mem_map]
  simp only [List.mem_filter, hall, true_and]
  exact exists_congr fun k => and_congr_right fun _ => eq_comm

/-- With no slot enabled both offsets are 0 (R116). -/
theorem State.offsets_of_none {s : State} (h : ∀ k, (s.slots.get k).enabled = false) : s.oLeadNow = 0 ∧ s.oRearNow = 0 := by
  have hnil : s.enabledOffsets = [] := List.eq_nil_iff_forall_not_mem.mpr fun n hn => by
    obtain ⟨k, hk, _⟩ := State.mem_enabledOffsets.mp hn
    simp [h k] at hk
  simp [State.oLeadNow, State.oRearNow, hnil]

/-- With a slot enabled o_lead and o_rear are the smallest and the largest of the effective offsets (R116). -/
theorem State.offsets_of_some {s : State} (h : s.enabledOffsets ≠ []) :
    (s.oLeadNow ∈ s.enabledOffsets ∧ ∀ n ∈ s.enabledOffsets, s.oLeadNow ≤ n) ∧
      s.oRearNow ∈ s.enabledOffsets ∧ ∀ n ∈ s.enabledOffsets, n ≤ s.oRearNow := by
  unfold State.oLeadNow State.oRearNow
  cases hl : s.enabledOffsets with
  | nil => exact absurd hl h
  | cons x xs => exact ⟨foldl_min_mem_and_le x xs, foldl_max_mem_and_le x xs⟩

/-! ### The tests of an update -/

/-- The cleared point of an entry QUEUED or ARMED is the one of its points (R27, R118). -/
theorem State.cleared_withPoints (s : State) {e : Entry} (h : e.status = .queued ∨ e.status = .armed) (p : Points) :
    (s.withPoints p).cleared e = reached s.pe.e (s.pointsOf e).c := by
  obtain h | h := h <;> simp [State.cleared, State.oRearFor, State.pointsOf, Entry.held, h] <;> rfl

/-- With no passage ACTIVE the tests of an ACTIVE entry do nothing (R115). -/
theorem State.positionTests_of_deadlineTests {s : State} (h : s.psq.phase ≠ .active) (d : Pos) :
    (s.deadlineTests d).positionTests = s := by
  have hdeadline : s.deadlineTests d = s := if_neg fun ⟨hphase, _⟩ => h hphase
  rw [hdeadline]
  exact if_neg h

/-- Two queued entries of one tag are one (R21). -/
theorem Teq.disjointLaw.eq_of_tag_eq {q : Teq} (h : q.disjointLaw) {x y : Entry} (hx : x ∈ q.entries) (hy : y ∈ q.entries)
    (ht : x.tag = y.tag) : x = y := by
  have htags : (q.entries.map Entry.tag).Nodup := List.pairwise_map.mpr (List.Pairwise.imp And.left h)
  exact List.inj_on_of_nodup_map htags hx hy ht

theorem Entry.behindArming_of_queued {e : Entry} (h : e.status = .queued) : e.behindArming = { e with status := .armed } := if_pos h

theorem Entry.behindArming_of_ne {e : Entry} (h : e.status ≠ .queued) : e.behindArming = e := if_neg h

section Update

variable {s : State} {e : Entry}

/-- The conditions of arming (R119). -/
def State.Arms (s : State) (e : Entry) : Prop :=
  e.status = .queued ∧ reached s.pe.e (s.pointsOf e).arming = true ∧ reached s.pe.e (s.pointsOf e).c = false

theorem State.armTest_of_arms (h : s.Arms e) : (s.withPoints (s.pointsOf e)).armTest e (s.pointsOf e) =
    (s.withPoints (s.pointsOf e)).arm e := by
  obtain ⟨hq, harm, hc⟩ := h
  exact if_pos ⟨hq, harm, by rw [State.cleared_withPoints s (.inl hq), hc]⟩

theorem State.armTest_of_not_arms (h : ¬ s.Arms e) : (s.withPoints (s.pointsOf e)).armTest e (s.pointsOf e) =
    s.withPoints (s.pointsOf e) :=
  if_neg fun ⟨hq, harm, hc⟩ => h ⟨hq, harm, by rw [← State.cleared_withPoints s (.inl hq), hc]⟩

/-- The entry is armed by the update, and the plan keeps the offsets of its points (R119). -/
theorem State.cleared_armed (hq : e.status = .queued) (p : Points) :
    ((s.withPoints p).arm e).cleared { e with status := .armed } = reached s.pe.e (s.pointsOf e).c := by
  have hheld : e.held = false := by simp [Entry.held, hq]
  rw [State.pointsOf_of_not_held s hheld]
  rfl

theorem State.mem_arm (hm : e ∈ s.teq.entries) (p : Points) :
    { e with status := .armed } ∈ ((s.withPoints p).arm e).teq.entries :=
  List.mem_map.mpr ⟨e, hm, if_pos rfl⟩

/-- An update that arms nothing and finds no passage keeps all but the points (R21, R119). -/
theorem State.psqUpdate_of_not_arms (hh : s.teq.halted = false) (hn : s.teq.nearest = some e) (hq : e.status = .queued)
    (hphase : s.psq.phase ≠ .active) (ha : ¬ s.Arms e) (hd : s.teq.disjointLaw) : s.psqUpdate = s.withPoints (s.pointsOf e) := by
  have hnot : { e with status := .armed } ∉ s.teq.entries := fun hm => by
    have heq := hd.eq_of_tag_eq hm (Teq.mem_of_nearest hn) rfl
    rw [← heq] at hq
    cases hq
  have hact : (s.withPoints (s.pointsOf e)).activateTest e.behindArming (s.pointsOf e) = s.withPoints (s.pointsOf e) := by
    rw [Entry.behindArming_of_queued hq]
    exact if_neg fun ⟨hm, _⟩ => hnot hm
  rw [State.psqUpdate_of_nearest hh hn, State.armTest_of_not_arms ha, hact]
  exact State.positionTests_of_deadlineTests (s := s.withPoints _) hphase _

/-- An update that arms an entry short of its action point does no more (R119, R120). -/
theorem State.psqUpdate_of_arms (hh : s.teq.halted = false) (hn : s.teq.nearest = some e) (ha : s.Arms e)
    (hact : reached s.pe.e (s.pointsOf e).a = false) : s.psqUpdate = (s.withPoints (s.pointsOf e)).arm e := by
  have htest : ((s.withPoints (s.pointsOf e)).arm e).activateTest e.behindArming (s.pointsOf e) =
      (s.withPoints (s.pointsOf e)).arm e := if_neg fun ⟨_, _, hreach, _⟩ => absurd (hact.symm.trans hreach) Bool.false_ne_true
  have hphase : ((s.withPoints (s.pointsOf e)).arm e).psq.phase ≠ .active := fun h => nomatch h
  rw [State.psqUpdate_of_nearest hh hn, State.armTest_of_arms ha, htest]
  exact State.positionTests_of_deadlineTests hphase _

/-- An update that arms an entry at its action point activates it too (R119, R120). -/
theorem State.psqUpdate_of_arms_activates (hh : s.teq.halted = false) (hn : s.teq.nearest = some e) (ha : s.Arms e)
    (hact : reached s.pe.e (s.pointsOf e).a = true) : s.psqUpdate =
      ((((s.withPoints (s.pointsOf e)).arm e).activate { e with status := .armed }).deadlineTests
        (s.pointsOf e).deadline).positionTests := by
  have ⟨hq, _, hc⟩ := ha
  have htest : ((s.withPoints (s.pointsOf e)).arm e).activateTest e.behindArming (s.pointsOf e) =
      ((s.withPoints (s.pointsOf e)).arm e).activate { e with status := .armed } := by
    rw [Entry.behindArming_of_queued hq]
    exact if_pos ⟨State.mem_arm (Teq.mem_of_nearest hn) _, rfl, hact, by rw [State.cleared_armed hq, hc]⟩
  rw [State.psqUpdate_of_nearest hh hn, State.armTest_of_arms ha, htest]

theorem State.not_arms_of_ne (h : e.status ≠ .queued) : ¬ s.Arms e := fun ⟨hq, _⟩ => h hq

/-- An update finds an ARMED entry short of its action point, or past its cleared point, and leaves it (R120). -/
theorem State.psqUpdate_of_armed_waits (hh : s.teq.halted = false) (hn : s.teq.nearest = some e) (hst : e.status = .armed)
    (hphase : s.psq.phase ≠ .active)
    (hact : reached s.pe.e (s.pointsOf e).a = false ∨ reached s.pe.e (s.pointsOf e).c = true) :
    s.psqUpdate = s.withPoints (s.pointsOf e) := by
  have hne : e.status ≠ .queued := by simp [hst]
  have htest : (s.withPoints (s.pointsOf e)).activateTest e (s.pointsOf e) = s.withPoints (s.pointsOf e) := by
    refine if_neg fun ⟨_, _, hreach, hc⟩ => ?_
    rw [State.cleared_withPoints s (.inr hst)] at hc
    obtain h | h := hact
    · exact absurd (h.symm.trans hreach) Bool.false_ne_true
    · exact absurd (hc.symm.trans h) Bool.false_ne_true
  rw [State.psqUpdate_of_nearest hh hn, State.armTest_of_not_arms (State.not_arms_of_ne hne), Entry.behindArming_of_ne hne, htest]
  exact State.positionTests_of_deadlineTests (s := s.withPoints _) hphase _

/-- An update activates an ARMED entry at its action point (R120). -/
theorem State.psqUpdate_of_armed_activates (hh : s.teq.halted = false) (hn : s.teq.nearest = some e) (hst : e.status = .armed)
    (hact : reached s.pe.e (s.pointsOf e).a = true) (hc : reached s.pe.e (s.pointsOf e).c = false) :
    s.psqUpdate = (((s.withPoints (s.pointsOf e)).activate e).deadlineTests (s.pointsOf e).deadline).positionTests := by
  have hne : e.status ≠ .queued := by simp [hst]
  have htest : (s.withPoints (s.pointsOf e)).activateTest e (s.pointsOf e) = (s.withPoints (s.pointsOf e)).activate e :=
    if_pos ⟨Teq.mem_of_nearest hn, hst, hact, by rw [State.cleared_withPoints s (.inr hst), hc]⟩
  rw [State.psqUpdate_of_nearest hh hn, State.armTest_of_not_arms (State.not_arms_of_ne hne), Entry.behindArming_of_ne hne, htest]

/-- An update makes the deadline tests and then the position tests of an ACTIVE entry (R115; log 2). -/
theorem State.psqUpdate_of_active (hh : s.teq.halted = false) (hn : s.teq.nearest = some e) (hst : e.status = .active) :
    s.psqUpdate = ((s.withPoints (s.pointsOf e)).deadlineTests (s.pointsOf e).deadline).positionTests := by
  have hne : e.status ≠ .queued := by simp [hst]
  have htest : (s.withPoints (s.pointsOf e)).activateTest e (s.pointsOf e) = s.withPoints (s.pointsOf e) :=
    if_neg fun ⟨_, harmed, _⟩ => by simp [hst] at harmed
  rw [State.psqUpdate_of_nearest hh hn, State.armTest_of_not_arms (State.not_arms_of_ne hne), Entry.behindArming_of_ne hne, htest]

end Update

/-! ### Activation -/

/-- SEQ held: TRO is asserted, and rises with its flag (R164, R165, R171). -/
theorem State.holdSeq_eq (s : State) : s.holdSeq = State.raiseIf
    { s with csu := { s.csu with seqHeld := true, seen := { s.csu.seen with seq := true }, tro := true } } (!s.csu.tro) .troOn := rfl

/-- The start of RAMP: its timer runs where the breaker is CLOSED (R122). -/
theorem State.startStep_ramp (s : State) : s.startStep .ramp = { s with psq := { s.psq with
    step := some .ramp, timeInStep := 0, confirmTimer := none,
    rampTimer := if s.bki.state = .closed then ms s.tRamp else none } } := by
  simp only [State.startStep]
  split <;> rfl

/-- Activation: the lead time fixed, SEQ held with TRO, and RAMP begun (R120, R121, R164). -/
theorem State.activate_eq (s : State) (e : Entry) : s.activate e = State.advance stepFuel .start
    ((State.setStatus e .active { s with
      psq := { s.psq with phase := .active, tLead := some (s.tLeadNow e.kind), seqHeld := true, emergency := false,
                          step := some .ramp, timeInStep := 0, confirmTimer := none,
                          rampTimer := if s.bki.state = .closed then ms s.tRamp else none },
      csu := { s.csu with seqHeld := true, seen := { s.csu.seen with seq := true }, tro := true } }).raiseIf (!s.csu.tro) .troOn) := by
  refine congrArg (State.advance stepFuel .start) ?_
  rw [State.holdSeq_eq, State.startStep_ramp]
  cases h : s.csu.tro <;> simp [State.raiseIf, State.setStatus, h] <;> rfl

/-! ### The two timers of a passage -/

/-- OPEN begun by the ramp timer in CLOSED with aux made waits for the breaker (R122, R123). -/
theorem State.psqRampExpiry_eq {s : State} (hphase : s.psq.phase = .active) (hstep : s.psq.step = some .ramp)
    (htimer : s.psq.rampTimer.isSome = true) (hbrk : s.bki.state = .closed) (haux : s.bki.aux.acc = true) :
    s.psqRampExpiry = { s with
      psq := { s.psq with step := some .openBrk, timeInStep := 0, rampTimer := none, confirmTimer := none },
      bki := { s.bki with state := .opening, hold := false, sup := ms s.tOpenMax, ramp := none } } := by
  have hopen : s.startStep .openBrk = { s with
      psq := { s.psq with step := some .openBrk, timeInStep := 0, rampTimer := none, confirmTimer := none },
      bki := { s.bki with state := .opening, hold := false, sup := ms s.tOpenMax, ramp := none } } := by
    simp [State.startStep, State.openBySequencer, Bki.shut, hbrk, State.brkEnterOpening, haux]
    rfl
  unfold State.psqRampExpiry
  rw [if_pos ⟨hphase, hstep, htimer⟩, hopen]
  rfl

/-- The confirm timer closes the entry DONE_NO_VOLTAGE with LINE_LOSS, or aborts it (R130). -/
theorem State.confirmExpiry_eq {s : State} {e : Entry} (hphase : s.psq.phase = .active) (hstep : s.psq.step = some .confirm)
    (htimer : s.psq.confirmTimer.isSome = true) (hactive : s.teq.activeEntry = some e) : s.confirmExpiry =
      if s.lsu.confirmed = .none then (s.raise .lineLoss).closeEntry e .doneNoVoltage (some .confirm)
      else s.closeEntry e (.aborted .wrongSystem) (some .confirm) := by
  unfold State.confirmExpiry
  rw [if_pos ⟨hphase, hstep, htimer⟩]
  simp only [State.abortWith, State.closeActive, hactive, hstep]
  rfl

/-- Settles O50: the points by the entry's status, the update test by test, the offsets, and the two timers. -/
theorem pointsAndTimersOfAPassage : Obligations.PointsAndTimersOfAPassage := by
  refine ⟨?_, ?_, fun s => State.psqUpdate_of_none, ?_, ?_⟩
  · intro s e hs t points
    have ht : s.tLeadNow e.kind = t := s.tLeadNow_of_isSection hs
    refine ⟨fun hheld => ?_, fun oLead hl oRear hr => ⟨fun hst => ?_, fun tLead htl hst => ?_⟩⟩
    · rw [State.pointsOf_of_not_held s hheld, ht]
      rfl
    · rw [State.pointsOf_of_armed hst hl hr, ht]
      rfl
    · rw [State.pointsOf_of_active hst hl hr htl]
      rfl
  · intro s e hh hn p near kept status armedNow tested arms
    have hnear {x : Pos} : reached s.pe.e x = true ↔ near x := reached_iff
    have hfar {x : Pos} : reached s.pe.e x = false ↔ ¬ near x := by rw [← hnear, Bool.not_eq_true]
    have harms : s.Arms e ↔ arms := and_congr_right fun _ => and_congr hnear hfar
    refine ⟨fun hq hphase => ⟨fun hno hd => ?_, fun ha hact => ?_, fun ha hact => ?_⟩, fun hst hphase hno => ?_,
      fun hst hact hc => ?_, fun hst => ?_, ?_⟩
    · exact State.psqUpdate_of_not_arms hh hn hq hphase (mt harms.mp hno) hd
    · exact State.psqUpdate_of_arms hh hn (harms.mpr ha) (hfar.mpr hact)
    · exact State.psqUpdate_of_arms_activates hh hn (harms.mpr ha) (hnear.mpr hact)
    · exact State.psqUpdate_of_armed_waits hh hn hst hphase (hno.imp hfar.mpr hnear.mpr)
    · exact State.psqUpdate_of_armed_activates hh hn hst (hnear.mpr hact) (hfar.mpr hc)
    · exact State.psqUpdate_of_active hh hn hst
    · intro tLead ramp q c
      have ht : s.tLeadNow e.kind = tLead := s.tLeadNow_of_isSection (Teq.isSection_of_nearest hn)
      rw [State.activate_eq, ht]
      rfl
  · intro s eff
    have heff (k : SlotId) : eff k = s.effOffset (s.slots.get k) := rfl
    refine ⟨State.offsets_of_none, fun k hk => ?_, fun ⟨k, hk⟩ => ?_⟩
    · have hmem : eff k ∈ s.enabledOffsets := State.mem_enabledOffsets.mpr ⟨k, hk, heff k⟩
      obtain ⟨⟨_, hmin⟩, _, hmax⟩ := State.offsets_of_some (List.ne_nil_of_mem hmem)
      exact ⟨hmin _ hmem, hmax _ hmem⟩
    · have hmem : eff k ∈ s.enabledOffsets := State.mem_enabledOffsets.mpr ⟨k, hk, heff k⟩
      obtain ⟨⟨hlead, _⟩, hrear, _⟩ := State.offsets_of_some (List.ne_nil_of_mem hmem)
      simp only [heff]
      exact ⟨State.mem_enabledOffsets.mp hlead, State.mem_enabledOffsets.mp hrear⟩
  · intro s hrun hphase
    refine ⟨fun hstep htimer hbrk haux => ?_, fun e hstep htimer hactive => ?_⟩
    · have hexec : exec .psqRampTimerExpiry s = .next s.psqRampExpiry.handOn :=
        congrArg Host.Outcome.next ((whenRunning_of_running hrun _).trans (if_pos htimer))
      exact hexec.trans (congrArg (fun u => Host.Outcome.next (State.handOn u))
        (State.psqRampExpiry_eq hphase hstep htimer hbrk haux))
    · have hexec : exec .confirmTimerExpiry s = .next s.confirmExpiry.handOn :=
        congrArg Host.Outcome.next ((whenRunning_of_running hrun _).trans (if_pos htimer))
      rw [hexec, State.confirmExpiry_eq hphase hstep htimer hactive]
      exact ⟨fun hnone => by rw [if_pos hnone], fun hsome => by rw [if_neg hsome]⟩

end Sys2Proof.Machine
end

section
/-! PROOFS. The windows of the Line Sense Unit: the square root and the magnitude (R41), the classes (R43), the candidate, the
confirmed system and the over-voltage latch (R44, R45, R48, R49), and O28. -/

set_option Elab.async false

namespace Sys2Proof.Machine

/-! ### The square root and the magnitude -/

/-- One bit of the root halves the gap in which the root lies (R41). -/
theorem sqrtBit_bounds {n r k : Nat} (hle : r * r ≤ n) (hlt : n < (r + 2 ^ (k + 1)) * (r + 2 ^ (k + 1))) :
    sqrtBit n r k * sqrtBit n r k ≤ n ∧ n < (sqrtBit n r k + 2 ^ k) * (sqrtBit n r k + 2 ^ k) := by
  unfold sqrtBit
  split
  next hset =>
    refine ⟨hset, ?_⟩
    have hnext : r + 2 ^ k + 2 ^ k = r + 2 ^ (k + 1) := by omega
    rwa [hnext]
  next hclear => exact ⟨hle, not_le.mp hclear⟩

/-- From a root known up to the low `k` bits, the bits below `k` give the floored root (R41). -/
theorem foldl_sqrtBit_eq_sqrt {n r k : Nat} (hle : r * r ≤ n) (hlt : n < (r + 2 ^ k) * (r + 2 ^ k)) :
    (List.range k).reverse.foldl (sqrtBit n) r = Nat.sqrt n := by
  induction k generalizing r with
  | zero => exact Nat.eq_sqrt.mpr ⟨hle, hlt⟩
  | succ k ih =>
    obtain ⟨hle', hlt'⟩ := sqrtBit_bounds hle hlt
    rw [List.range_succ, List.reverse_concat, List.foldl_cons, ih hle' hlt']

theorem sqrt32_eq_sqrt {n : Nat} (h : n < 2 ^ 32) : sqrt32 n = Nat.sqrt n :=
  foldl_sqrtBit_eq_sqrt (r := 0) (k := 16) (Nat.zero_le _) (by omega)

/-- Samples of at most 40,000 V keep the mean square within the 32 bits of the root (R40, R41). -/
theorem Lsu.magnitude_eq {l : Lsu} (h : l.accSq ≤ l.accN * 1600000000) (p : Option Nat) : l.magnitude p =
    if l.accN = 0 then Config.emptyWindowMagnitude.val
    else if p.isSome then Nat.sqrt (l.accSq / l.accN) else l.accSum / l.accN := by
  have hmean : l.accSq / l.accN < 2 ^ 32 :=
    (Nat.div_le_of_le_mul h).trans_lt (by decide)
  unfold Lsu.magnitude
  cases p with
  | none => rfl
  | some x => rw [sqrt32_eq_sqrt hmean]; rfl

/-! ### The classes -/

theorem classify_of_low {m : Nat} (h : m < 500) (p : Option Nat) : classify p m = .none := if_pos h

/-- The rows of R43 for a window with a period: the two alternating systems. -/
theorem classify_some {x m : Nat} (h : 500 ≤ m) : classify (some x) m =
    if 19000 ≤ x ∧ x ≤ 21000 ∧ 17500 ≤ m ∧ m ≤ 29000 then .sys .a50
    else if 56000 ≤ x ∧ x ≤ 64000 ∧ 11000 ≤ m ∧ m ≤ 18000 then .sys .a16
    else .unknown := by
  simp [classify, periodIn, not_lt.mpr h, and_assoc]

/-- The rows of R43 for a window with no period: the two direct systems. -/
theorem classify_none {m : Nat} (h : 500 ≤ m) : classify none m =
    if 2000 ≤ m ∧ m ≤ 3900 then .sys .d30 else if 1000 ≤ m ∧ m ≤ 1950 then .sys .d15 else .unknown := by
  simp [classify, periodIn, not_lt.mpr h]

/-! ### A completed window -/

/-- The class of the window in progress, were it to end with this period (R43). -/
def Lsu.classNow (l : Lsu) (p : Option Nat) : LineClass := classify p (l.magnitude p)

/-- The windows of one class in a row once this class is counted (R44). -/
def Lsu.run (l : Lsu) (c : LineClass) : Nat := if l.cand = some c then min 3 (l.candCount + 1) else 1

/-- The over windows in a row once this window is counted (R48). -/
def Lsu.overRun (l : Lsu) (isOver : Bool) : Nat := if isOver then min 3 (l.overCount + 1) else 0

theorem Lsu.candidate_eq (l : Lsu) (c : LineClass) : l.candidate c = { l with cand := some c, candCount := l.run c } := by
  unfold Lsu.candidate Lsu.run
  split
  next h => rw [← h]
  next => rfl

theorem Lsu.confirm_of_cand {l : Lsu} {c : LineClass} (h : l.cand = some c) :
    l.confirm = { l with confirmed := if l.candCount = 3 then c else l.confirmed } := by
  unfold Lsu.confirm
  split
  next c' h' =>
    cases h.symm.trans h'
    split <;> rfl
  next h' => cases h.symm.trans h'

/-- A completed window, field by field (R42 to R45, R48, R49). -/
theorem Lsu.complete_eq (l : Lsu) (e : Option LineSystem) (p : Option Nat) : l.complete e p = { l with
    last := some ⟨p, l.magnitude p, l.classNow p⟩, windows := (l.windows + 1) % 65536,
    cand := some (l.classNow p), candCount := l.run (l.classNow p),
    confirmed := if l.run (l.classNow p) = 3 then l.classNow p else l.confirmed,
    overCount := l.overRun (overWindow e p (l.magnitude p)),
    overvolt := l.overvolt || decide (l.overRun (overWindow e p (l.magnitude p)) = 3) } := by
  simp only [Lsu.complete, Lsu.candidate_eq]
  rw [Lsu.confirm_of_cand rfl]
  rfl

theorem Lsu.complete_cand (l : Lsu) (e : Option LineSystem) (p : Option Nat) : (l.complete e p).cand = some (l.classNow p) := by
  rw [Lsu.complete_eq]

theorem Lsu.complete_candCount (l : Lsu) (e : Option LineSystem) (p : Option Nat) :
    (l.complete e p).candCount = l.run (l.classNow p) := by
  rw [Lsu.complete_eq]

theorem Lsu.complete_cls {l : Lsu} {p : Option Nat} {c : LineClass} (e : Option LineSystem)
    (h : (l.complete e p).last.map (fun w => w.cls) = some c) : l.classNow p = c := by
  rw [Lsu.complete_eq] at h
  exact Option.some.inj h

theorem Lsu.overRun_eq_three {l : Lsu} {b : Bool} : l.overRun b = 3 ↔ b = true ∧ 2 ≤ l.overCount := by
  cases b with
  | false => simp [Lsu.overRun]
  | true => simp only [Lsu.overRun, if_true, true_and]; omega

/-- A window whose class makes the run shorter than three leaves the confirmed system (R45). -/
theorem Lsu.complete_confirmed_of_short {l : Lsu} {p : Option Nat} (h : l.run (l.classNow p) ≠ 3) (e : Option LineSystem) :
    (l.complete e p).confirmed = l.confirmed := by
  rw [Lsu.complete_eq]
  exact if_neg h

/-- A run of three makes its class the confirmed system (R45). -/
theorem Lsu.complete_confirmed_of_run {l : Lsu} {p : Option Nat} (h : l.run (l.classNow p) = 3) (e : Option LineSystem) :
    (l.complete e p).confirmed = l.classNow p := by
  rw [Lsu.complete_eq]
  exact if_pos h

/-! ### Runs of one class -/

theorem Lsu.run_of_other {l : Lsu} {c : LineClass} (h : l.cand ≠ some c) : l.run c = 1 := if_neg h

theorem Lsu.run_of_same {l : Lsu} {c : LineClass} (h : l.cand = some c) : l.run c = min 3 (l.candCount + 1) := if_pos h

theorem Lsu.one_le_run (l : Lsu) (c : LineClass) : 1 ≤ l.run c := by
  unfold Lsu.run
  split <;> omega

theorem Lsu.run_le_two {l : Lsu} (h : l.candCount ≤ 1) (c : LineClass) : l.run c ≤ 2 := by
  unfold Lsu.run
  split <;> omega

/-- Settles O28: the rows of R43 for each kind of window; then the run behind each of the three windows is at least, or at most, its
place among them. -/
theorem classesAreConfirmedByThree : Obligations.ClassesAreConfirmedByThree := by
  refine ⟨fun m x => ⟨fun h => ⟨classify_of_low h _, classify_of_low h _⟩, fun h => ?_⟩, ?_⟩
  · rw [classify_some h, classify_none h]
    refine ⟨fun h1 h2 h3 h4 => if_pos ⟨h1, h2, h3, h4⟩, fun h1 h2 h3 h4 => ?_, fun h1 h2 => if_pos ⟨h1, h2⟩,
      fun h1 h2 => ?_, fun h50 h16 => ?_, fun h30 h15 => ?_⟩
    · rw [if_neg (by omega), if_pos ⟨h1, h2, h3, h4⟩]
    · rw [if_neg (by omega), if_pos ⟨h1, h2⟩]
    · rw [if_neg h50, if_neg h16]
    · rw [if_neg h30, if_neg h15]
  · intro x e1 e2 e3 p1 p2 p3 a1 a2 n2 sum2 sq2 n3 sum3 sq3 c sampled y1 y2 y3
    have hcand1 : y1.cand = some (x.classNow p1) := x.complete_cand e1 p1
    have hcount1 : y1.candCount = x.run (x.classNow p1) := x.complete_candCount e1 p1
    have hcand2 : y2.cand = some ((sampled y1 n2 sum2 sq2).classNow p2) := Lsu.complete_cand _ e2 p2
    have hcount2 : y2.candCount = (sampled y1 n2 sum2 sq2).run ((sampled y1 n2 sum2 sq2).classNow p2) :=
      Lsu.complete_candCount _ e2 p2
    refine ⟨fun hc1 hc2 hc3 => ?_, fun hcount => ?_, fun hother hc1 => ?_⟩
    · have hc1 : x.classNow p1 = c := Lsu.complete_cls e1 hc1
      have hc2 : (sampled y1 n2 sum2 sq2).classNow p2 = c := Lsu.complete_cls e2 hc2
      have hc3 : (sampled y2 n3 sum3 sq3).classNow p3 = c := Lsu.complete_cls e3 hc3
      rw [hc1] at hcand1 hcount1
      rw [hc2, Lsu.run_of_same (l := sampled y1 n2 sum2 sq2) hcand1] at hcount2
      rw [hc2] at hcand2
      have hrun1 := x.one_le_run c
      have hrun3 : (sampled y2 n3 sum3 sq3).run c = 3 := by
        rw [Lsu.run_of_same (l := sampled y2 n3 sum3 sq3) hcand2]
        simp only [sampled] at hcount2 ⊢
        omega
      exact (Lsu.complete_confirmed_of_run (hc3.symm ▸ hrun3) e3).trans hc3
    · have hshort := Lsu.run_le_two hcount (x.classNow p1)
      exact Lsu.complete_confirmed_of_short (by omega) e1
    · have hc1 : x.classNow p1 = c := Lsu.complete_cls e1 hc1
      have hrun1 : x.run (x.classNow p1) = 1 := by rw [hc1, Lsu.run_of_other hother]
      have hconf1 : y1.confirmed = x.confirmed := Lsu.complete_confirmed_of_short (by omega) e1
      have hshort := Lsu.run_le_two (l := sampled y1 n2 sum2 sq2) (hcount1.trans hrun1).le ((sampled y1 n2 sum2 sq2).classNow p2)
      exact ⟨hconf1, (Lsu.complete_confirmed_of_short (by omega) e2).trans hconf1⟩

end Sys2Proof.Machine
end

section
/-! PROOFS. What handing on does to the expected system and the over-window count (R48, R83, R128): RERAISE of a BOUNDARY writes the
one and clears the other, at most once at an event. Then a completed window handed on, and O29. -/

set_option Elab.async false

namespace Sys2Proof.Machine

/-! ### What leaves the Demand record alone -/

@[simp] theorem State.deliverPending_demand (s : State) : s.deliverPending.cs.demand = s.cs.demand := by
  simp only [State.deliverPending]
  (repeat' split) <;> simp

@[simp] theorem State.holdOrDeliver_demand (s : State) (t : Target) : (s.holdOrDeliver t).cs.demand = s.cs.demand := by
  unfold State.holdOrDeliver
  (repeat' split) <;> simp

@[simp] theorem State.evaluate_demand (s : State) : s.evaluate.cs.demand = s.cs.demand := by
  simp [State.evaluate]

@[simp] theorem State.csReact_demand (s : State) : s.csReact.cs.demand = s.cs.demand := by
  unfold State.csReact
  split <;> simp

@[simp] theorem State.csHoldOff_demand (s : State) : s.csHoldOff.cs.demand = s.cs.demand := by
  unfold State.csHoldOff
  (repeat' split) <;> simp

@[simp] theorem State.closeEntry_demand (s : State) (e : Entry) (r : CloseResult) (last : Option Step) :
    (s.closeEntry e r last).cs.demand = s.cs.demand := by
  unfold State.closeEntry
  (repeat' split) <;> simp

/-! ### The expected system and the over-window count

A passage writes the expected system at the start of RERAISE alone. Its steps only go on, and no entry becomes ACTIVE while results are
handed on, so one event holds at most one such write. -/

/-- The passage is in a step before RERAISE (R121). -/
def Psq.BeforeReraise (p : Psq) : Prop :=
  p.step = some .ramp ∨ p.step = some .openBrk ∨ p.step = some .lower ∨ p.step = some .coast

theorem Psq.not_beforeReraise_iff {p : Psq} :
    ¬ p.BeforeReraise ↔ p.step = none ∨ p.step = some .reraise ∨ p.step = some .confirm := by
  unfold Psq.BeforeReraise
  cases p.step with
  | none => simp
  | some st => cases st <;> simp

theorem Psq.BeforeReraise.of_step_eq {p q : Psq} (h : q.BeforeReraise) (hstep : q.step = p.step) : p.BeforeReraise := by
  unfold Psq.BeforeReraise at *
  rwa [hstep] at h

/-- The expected system and the count stand, and a passage beyond its steps before RERAISE does not come back to them. -/
structure State.KeepsExpected (s t : State) : Prop where
  expected : t.cs.demand.expected = s.cs.demand.expected
  overCount : t.lsu.overCount = s.lsu.overCount
  forward : t.psq.BeforeReraise → s.psq.BeforeReraise

/-- RERAISE was reached, and its write changed the expected system and cleared the count (R48, R128). -/
structure State.WritesExpected (s t : State) : Prop where
  before : s.psq.BeforeReraise
  after : ¬ t.psq.BeforeReraise
  changed : t.cs.demand.expected ≠ s.cs.demand.expected
  cleared : t.lsu.overCount = 0

/-- What an operation of handing on can do to the expected system and the count. -/
def State.ExpectedMoves (s t : State) : Prop := s.KeepsExpected t ∨ s.WritesExpected t

theorem State.KeepsExpected.refl (s : State) : s.KeepsExpected s := ⟨rfl, rfl, id⟩

theorem State.KeepsExpected.trans {s t u : State} (h : s.KeepsExpected t) (g : t.KeepsExpected u) : s.KeepsExpected u where
  expected := g.expected.trans h.expected
  overCount := g.overCount.trans h.overCount
  forward := h.forward ∘ g.forward

/-- An operation that leaves the Line Sense Unit, the Demand record and the step. -/
theorem State.KeepsExpected.of_eq {s t : State} (hlsu : t.lsu = s.lsu) (hdemand : t.cs.demand = s.cs.demand)
    (hstep : t.psq.step = s.psq.step) : s.KeepsExpected t where
  expected := by rw [hdemand]
  overCount := by rw [hlsu]
  forward h := h.of_step_eq hstep

/-- At most one of two operations in a row writes. -/
theorem State.ExpectedMoves.trans {s t u : State} (h : s.ExpectedMoves t) (g : t.ExpectedMoves u) : s.ExpectedMoves u := by
  obtain h | h := h
  · obtain g | g := g
    · exact .inl (h.trans g)
    · exact .inr ⟨h.forward g.before, g.after, h.expected ▸ g.changed, g.cleared⟩
  · obtain g | g := g
    · exact .inr ⟨h.before, mt g.forward h.after, g.expected ▸ h.changed, g.overCount.trans h.cleared⟩
    · exact absurd g.before h.after

theorem State.ExpectedMoves.refl (s : State) : s.ExpectedMoves s := .inl (.refl s)

/-- The count is cleared exactly where the expected system has changed (R48). -/
theorem State.ExpectedMoves.overCount {s t : State} (h : s.ExpectedMoves t) :
    t.lsu.overCount = if t.cs.demand.expected = s.cs.demand.expected then s.lsu.overCount else 0 := by
  obtain h | h := h
  · rw [if_pos h.expected, h.overCount]
  · rw [if_neg h.changed, h.cleared]

/-! #### Closing -/

/-- A close keeps the step, or puts the plan at its reset values (R134). -/
theorem State.closeEntry_forward (s : State) (e : Entry) (r : CloseResult) (last : Option Step) :
    (s.closeEntry e r last).psq.BeforeReraise → s.psq.BeforeReraise := by
  unfold State.closeEntry
  split_ifs
  · rw [State.csHoldOff_psq]
    exact fun h => absurd h (Psq.not_beforeReraise_iff.mpr (.inl rfl))
  · rw [State.recordClose_psq]
    exact id
  · exact id

theorem State.closeEntry_keepsExpected (s : State) (e : Entry) (r : CloseResult) (last : Option Step) :
    s.KeepsExpected (s.closeEntry e r last) where
  expected := by simp
  overCount := by simp
  forward := s.closeEntry_forward e r last

theorem State.closeActive_keepsExpected (s : State) (r : CloseResult) (last : Option Step) :
    s.KeepsExpected (s.closeActive r last) := by
  unfold State.closeActive
  split
  · exact .trans (.of_eq (by simp) (by simp) (by simp)) (State.closeEntry_keepsExpected _ _ _ _)
  · exact .refl s

theorem State.abortNoOpen_keepsExpected (s : State) : s.KeepsExpected s.abortNoOpen :=
  .trans (.of_eq (by simp) (by simp) (by simp)) (State.closeActive_keepsExpected _ _ _)

/-! #### The steps of a passage -/

/-- A step goes on from one before RERAISE, or from RERAISE to CONFIRM (R121 to R130). -/
theorem State.stepMove_go {s : State} {c : Cause} {st : Step} (h : s.stepMove c = .go st) :
    s.psq.BeforeReraise ∨ st = .confirm := by
  unfold State.stepMove at h
  unfold Psq.BeforeReraise
  cases hstep : s.psq.step with
  | none => simp [hstep] at h
  | some x =>
    cases x with
    | ramp | openBrk | lower | coast => simp
    | reraise =>
      simp only [hstep, State.reraiseMove] at h
      split_ifs at h <;> simp_all
    | confirm =>
      simp only [hstep, State.confirmMove] at h
      split at h
      · cases h
      · (repeat' split at h) <;> cases h

theorem State.startStep_step (s : State) (st : Step) : (s.startStep st).psq.step = some st := by
  unfold State.startStep
  cases st with
  | ramp => dsimp only; split <;> rfl
  | openBrk => simp
  | lower | coast | confirm => rfl
  | reraise => simp [State.releaseHolds]

/-- A write of the expected system clears the count where the value changes (R48). -/
theorem State.expectedWritten_overCount (s : State) (before : Option LineSystem) : (s.expectedWritten before).lsu.overCount =
    if s.cs.demand.expected = before then s.lsu.overCount else 0 := by
  by_cases h : before = s.cs.demand.expected
  · simp [State.expectedWritten, h]
  · simp [State.expectedWritten, h, Ne.symm h]

/-- A release that writes the expected system clears the count where the value changes (R48, R96, R128). -/
theorem State.csRelease_overCount (s : State) (next : Option LineSystem) : (s.csRelease next).lsu.overCount =
    if (s.csRelease next).cs.demand.expected = s.cs.demand.expected then s.lsu.overCount else 0 := by
  cases next with
  | none => simp [State.csRelease]
  | some x =>
    simp only [State.csRelease, State.deliverPending_lsu, State.csReact_lsu, State.deliverPending_demand, State.csReact_demand,
      State.writeDemand, State.powerWritten_lsu, State.powerWritten_cs, State.expectedWritten_cs]
    exact State.expectedWritten_overCount _ _

/-- The start of RERAISE is the one step that writes the expected system (R128). -/
theorem State.startReraise_expectedMoves {s : State} (h : s.psq.BeforeReraise) : s.ExpectedMoves (s.startStep .reraise) := by
  have hafter := Psq.not_beforeReraise_iff.mpr (.inr (.inl (s.startStep_step .reraise)))
  have hcount : (s.startStep .reraise).lsu.overCount =
      if (s.startStep .reraise).cs.demand.expected = s.cs.demand.expected then s.lsu.overCount else 0 :=
    State.csRelease_overCount _ _
  by_cases hsame : (s.startStep .reraise).cs.demand.expected = s.cs.demand.expected
  · exact .inl ⟨hsame, by rw [hcount, if_pos hsame], fun _ => h⟩
  · exact .inr ⟨h, hafter, hsame, by rw [hcount, if_neg hsame]⟩

/-- The other steps leave the Line Sense Unit and the Configuration Selector (R122 to R127, R130). -/
theorem State.startStep_of_ne {s : State} {st : Step} (h : st ≠ .reraise) :
    (s.startStep st).lsu = s.lsu ∧ (s.startStep st).cs = s.cs := by
  unfold State.startStep
  cases st with
  | ramp => dsimp only; split <;> exact ⟨rfl, rfl⟩
  | openBrk => simp
  | lower | coast | confirm => exact ⟨rfl, rfl⟩
  | reraise => exact absurd rfl h

/-- A step started where the ending of the one before it says so (R121). -/
theorem State.startStep_expectedMoves {s : State} {c : Cause} {st : Step} (h : s.stepMove c = .go st) :
    s.ExpectedMoves (s.startStep st) := by
  have hgo := State.stepMove_go h
  by_cases hst : st = .reraise
  · subst hst
    exact State.startReraise_expectedMoves (hgo.resolve_right Step.noConfusion)
  · obtain ⟨hlsu, hcs⟩ := State.startStep_of_ne (s := s) hst
    refine .inl ⟨by rw [hcs], by rw [hlsu], fun hbefore => ?_⟩
    obtain hgo | rfl := hgo
    · exact hgo
    · exact absurd hbefore (Psq.not_beforeReraise_iff.mpr (.inr (.inr (s.startStep_step .confirm))))

theorem State.advance_expectedMoves (n : Nat) (c : Cause) (s : State) : s.ExpectedMoves (State.advance n c s) := by
  induction n generalizing c s with
  | zero => exact .refl s
  | succ n ih =>
    unfold State.advance
    split
    next => exact .refl s
    next st hgo => exact (State.startStep_expectedMoves hgo).trans (ih _ _)
    next => exact .inl (s.closeActive_keepsExpected _ _)
    next => exact .inl s.abortNoOpen_keepsExpected

theorem State.psqReact_expectedMoves (s : State) : s.ExpectedMoves s.psqReact := by
  unfold State.psqReact
  split
  · exact State.advance_expectedMoves _ _ _
  · exact .refl s

theorem State.reportTotal_expectedMoves (s : State) : s.ExpectedMoves s.reportTotal := by
  have hramp : s.ExpectedMoves s.rampReport := .inl (.of_eq (by simp) (by simp) (by simp))
  simp only [State.reportTotal]
  split
  · exact hramp.trans (State.advance_expectedMoves _ _ _)
  · exact hramp

/-! #### Handing on -/

theorem State.csuReact_expectedMoves (s : State) : s.ExpectedMoves s.csuReact := by
  have hinputs : s.ExpectedMoves s.csuInputs := .inl (.of_eq (by simp) (by simp) (by simp))
  simp only [State.csuReact]
  split
  · exact hinputs
  · exact hinputs.trans (State.reportTotal_expectedMoves _)

theorem State.bkiReact_keepsExpected (s : State) : s.KeepsExpected s.bkiReact := by
  have hlock : s.KeepsExpected s.wrongTest.interlock := .of_eq (by simp) (by simp) (by simp)
  simp only [State.bkiReact]
  split
  · exact hlock.trans (State.closeActive_keepsExpected _ _ _)
  · exact hlock

theorem State.settle_expectedMoves (s : State) : s.ExpectedMoves s.settle := by
  have hcv : s.ExpectedMoves s.icuReact.csReact := .inl (.of_eq (by simp) (by simp) (by simp))
  exact (hcv.trans (State.csuReact_expectedMoves _)).trans (.inl (State.bkiReact_keepsExpected _))

theorem State.round_expectedMoves (s : State) : s.ExpectedMoves s.round := by
  have hunits : s.ExpectedMoves s.puReact := .inl (.of_eq (by simp) (by simp) (by simp))
  exact (hunits.trans (State.psqReact_expectedMoves _)).trans (State.settle_expectedMoves _)

theorem State.rounds_expectedMoves (n : Nat) (s : State) : s.ExpectedMoves (State.rounds n s) := by
  induction n generalizing s with
  | zero => exact .refl s
  | succ n ih => exact s.round_expectedMoves.trans (ih _)

theorem State.pointsTidy_keepsExpected (s : State) : s.KeepsExpected s.pointsTidy := by
  unfold State.pointsTidy
  split
  · exact .of_eq rfl rfl rfl
  · exact .refl s

theorem State.handOn_expectedMoves (s : State) : s.ExpectedMoves s.handOn :=
  (s.settle_expectedMoves.trans (State.rounds_expectedMoves _ _)).trans (.inl (State.pointsTidy_keepsExpected _))

/-- Handing on clears the over-window count where it changes the expected system, and leaves the rest of the Line Sense Unit (R48). -/
theorem State.handOn_lsu (s : State) : s.handOn.lsu = { s.lsu with
    overCount := if s.handOn.cs.demand.expected = s.cs.demand.expected then s.lsu.overCount else 0 } := by
  rw [← s.handOn_expectedMoves.overCount]
  exact s.handOn_framed.lsu

/-! ### A completed window handed on -/

@[simp] theorem State.windowComplete_lsu (s : State) (p : Option Nat) (a : Bool) :
    (s.windowComplete p a).lsu = (s.lsu.complete s.cs.demand.expected p).newWindow a := by
  simp only [State.windowComplete]
  split <;> simp

theorem State.raiseIf_fnu (s : State) (c : Bool) (f : Flag) : (s.raiseIf c f).fnu = if c then s.fnu.raise f else s.fnu := by
  unfold State.raiseIf
  split <;> rfl

/-- The flags of a completed window (R45, R49, R51). -/
theorem State.windowComplete_fnu (s : State) (p : Option Nat) (a : Bool) : (s.windowComplete p a).fnu =
    let l := s.lsu.complete s.cs.demand.expected p
    (((s.raiseIf (decide (l.confirmed ≠ s.lsu.confirmed)) .sysChange).raiseIf
      (decide (l.confirmed ≠ s.lsu.confirmed) && decide (l.confirmed = .none) && decide (s.bki.state = .closed) && !s.teq.anyActive)
      .lineLoss).raiseIf (l.overvolt && !s.lsu.overvolt) .overvolt).fnu := by
  simp only [State.windowComplete, apply_ite State.fnu, State.confirmRestart_fnu, State.raiseIf_fnu, ite_self]

/-- A change of the confirmed system in CONFIRM restarts the confirm timer (R130; log 36). -/
theorem State.windowComplete_psq (s : State) (p : Option Nat) (a : Bool) : (s.windowComplete p a).psq =
    if (s.windowComplete p a).lsu.confirmed ≠ s.lsu.confirmed ∧ s.psq.phase = .active ∧ s.psq.step = some .confirm
      then { s.psq with confirmTimer := some (s.confirmTimeout * 1000) } else s.psq := by
  rw [State.windowComplete_lsu, Lsu.newWindow]
  by_cases hchange : (s.lsu.complete s.cs.demand.expected p).confirmed = s.lsu.confirmed
  · simp [State.windowComplete, hchange]
  · by_cases hstep : s.psq.phase = .active ∧ s.psq.step = some .confirm
    · simp [State.windowComplete, State.confirmRestart, State.confirmTimeout, State.param, ms, hchange, hstep]
    · simp [State.windowComplete, State.confirmRestart, hchange, hstep]

section Flags
variable {s : State} {p : Option Nat}

theorem State.windowComplete_sysChange (h : (s.lsu.complete s.cs.demand.expected p).confirmed ≠ s.lsu.confirmed) (a : Bool) :
    FlagSet.has (s.windowComplete p a).fnu.flags .sysChange = true := by
  rw [State.windowComplete_fnu]
  refine ((State.raiseIf_kept _ _ _).trans (State.raiseIf_kept _ _ _)).flags _ ?_
  rw [decide_eq_true h]
  exact s.raiseIf_has _

theorem State.windowComplete_lineLoss (h : (s.lsu.complete s.cs.demand.expected p).confirmed ≠ s.lsu.confirmed)
    (hnone : (s.lsu.complete s.cs.demand.expected p).confirmed = .none) (hbrk : s.bki.state = .closed)
    (hidle : s.teq.anyActive = false) (a : Bool) : FlagSet.has (s.windowComplete p a).fnu.flags .lineLoss = true := by
  rw [State.windowComplete_fnu]
  refine (State.raiseIf_kept _ _ _).flags _ ?_
  rw [decide_eq_true h, decide_eq_true hnone, decide_eq_true hbrk, hidle]
  exact State.raiseIf_has _ _

theorem State.windowComplete_overvolt (h : (s.lsu.complete s.cs.demand.expected p).overvolt = true) (hclear : s.lsu.overvolt = false)
    (a : Bool) : FlagSet.has (s.windowComplete p a).fnu.flags .overvolt = true := by
  rw [State.windowComplete_fnu]
  dsimp only
  rw [h, hclear]
  exact State.raiseIf_has _ _

end Flags

theorem Lsu.complete_overvolt (l : Lsu) (e : Option LineSystem) (p : Option Nat) : (l.complete e p).overvolt = true ↔
    l.overvolt = true ∨ (overWindow e p (l.magnitude p) = true ∧ 2 ≤ l.overCount) := by
  rw [Lsu.complete_eq]
  simp [Lsu.overRun_eq_three]

/-- A completed window with all it hands on: the window of `Lsu.complete`, with the count cleared where the expected system changed. -/
theorem State.windowComplete_handOn_lsu (s : State) (p : Option Nat) (a : Bool) : (s.windowComplete p a).handOn.lsu =
    { (s.lsu.complete s.cs.demand.expected p).newWindow a with
      overCount := if (s.windowComplete p a).handOn.cs.demand.expected = s.cs.demand.expected
        then s.lsu.overRun (overWindow s.cs.demand.expected p (s.lsu.magnitude p)) else 0 } := by
  rw [State.handOn_lsu, State.windowComplete_lsu, State.windowComplete_cs, Lsu.complete_eq]
  rfl

/-! ### The crossings -/

theorem State.crossing_of_anchored {s : State} (h : 2000 ≤ s.lsu.sinceCross) (ha : s.lsu.anchored = true) : s.crossing =
    State.windowComplete (some s.lsu.counter) true { s with lsu := { s.lsu with sinceCross := 0 } } := by
  simp [State.crossing, not_lt.mpr h, ha]

/-- The crossing that ends an UNANCHORED window abandons it (R38). -/
theorem State.crossing_of_unanchored {s : State} (h : 2000 ≤ s.lsu.sinceCross) (ha : s.lsu.anchored = false) : s.crossing =
    { s with lsu := Lsu.newWindow { s.lsu with sinceCross := 0 } true } := by
  simp [State.crossing, not_lt.mpr h, ha]

theorem exec_lsZcRise {s : State} (hrun : s.inReset = false) :
    exec .lsZcRise s = .next (if s.lsu.sinceCross < 2000 then s else s.crossing.handOn) :=
  congrArg Host.Outcome.next (whenRunning_of_running hrun _)

theorem exec_periodOverflow {s : State} (hrun : s.inReset = false) :
    exec .periodOverflow s = .next (s.windowComplete none false).handOn :=
  congrArg Host.Outcome.next (whenRunning_of_running hrun _)

/-- Settles O29: a completed window is `Lsu.complete` with its flags, whatever is handed on; only the over-window count can change
behind it. -/
theorem windowsCompleteByTheRules : Obligations.WindowsCompleteByTheRules := by
  intro s hrun hsq counts done
  have hdone (p : Option Nat) (a : Bool) (n : Nat) {u t : State} (hu : u = { s with lsu := { s.lsu with sinceCross := n } })
      (ht : (u.windowComplete p a).handOn = t) : done p a t ∧ t.lsu.sinceCross = n := by
    have hlsu := u.windowComplete_handOn_lsu p a
    have hflags := (State.handOn_framed (u.windowComplete p a)).flags
    rw [ht] at hlsu hflags
    have hconf : t.lsu.confirmed = (u.lsu.complete u.cs.demand.expected p).confirmed := by rw [hlsu]; rfl
    have hvolt : t.lsu.overvolt = (u.lsu.complete u.cs.demand.expected p).overvolt := by rw [hlsu]; rfl
    have hover := u.lsu.complete_overvolt u.cs.demand.expected p
    have hm : u.lsu.magnitude p = _ := Lsu.magnitude_eq (by rw [hu]; exact hsq) p
    rw [hm, ← hvolt] at hover
    rw [Lsu.complete_eq, Lsu.classNow, hm] at hlsu
    have hsys (h : t.lsu.confirmed ≠ u.lsu.confirmed) := hflags _ (State.windowComplete_sysChange (hconf ▸ h) a)
    have hloss (h : t.lsu.confirmed ≠ u.lsu.confirmed) (hnone : t.lsu.confirmed = .none) (hbrk : u.bki.state = .closed)
      (hidle : u.teq.anyActive = false) :=
      hflags _ (State.windowComplete_lineLoss (hconf ▸ h) (hconf ▸ hnone) hbrk hidle a)
    have hlatch (h : t.lsu.overvolt = true) (hclear : u.lsu.overvolt = false) :=
      hflags _ (State.windowComplete_overvolt (hvolt ▸ h) hclear a)
    subst hu
    exact ⟨⟨congrArg Lsu.last hlsu, congrArg Lsu.windows hlsu, congrArg Lsu.cand hlsu, congrArg Lsu.candCount hlsu,
      congrArg Lsu.confirmed hlsu, congrArg Lsu.overCount hlsu, hover, hsys, fun h => hlatch (hover.mpr (.inr h)), hloss,
      congrArg Lsu.counter hlsu, congrArg Lsu.anchored hlsu, congrArg Lsu.accN hlsu, congrArg Lsu.accSum hlsu,
      congrArg Lsu.accSq hlsu⟩, congrArg Lsu.sinceCross hlsu⟩
  refine ⟨fun v => ?_, ?_, fun h => ?_, fun h ha => ?_, fun h ha => ?_, exec_periodOverflow hrun, fun h ha => ?_,
    fun p a => s.windowComplete_psq p a⟩
  · exact congrArg Host.Outcome.next (whenRunning_of_running hrun _)
  · exact ⟨_, exec_periodOverflow hrun, hdone none false s.lsu.sinceCross rfl rfl⟩
  · rw [exec_lsZcRise hrun, if_pos h]
  · rw [exec_lsZcRise hrun, if_neg (not_lt.mpr h), State.crossing_of_anchored h ha]
    exact ⟨_, rfl, hdone (some s.lsu.counter) true 0 rfl rfl⟩
  · rw [exec_lsZcRise hrun, if_neg (not_lt.mpr h), State.crossing_of_unanchored h ha]
    refine ⟨_, rfl, ?_⟩
    simp only [counts, State.handOn_lsu]
    exact ⟨rfl, rfl, rfl, rfl, rfl, rfl, rfl, rfl, rfl, rfl, rfl⟩
  · rw [exec_lsZcRise hrun, if_neg (not_lt.mpr h), State.crossing_of_anchored h ha]

end Sys2Proof.Machine
end

section
/-! PROOFS. CLEAR_FLAGS, SET_NOTICE_MASK and CLEAR_FAULT served to their replies: O58. -/

set_option Elab.async false

namespace Sys2Proof.Machine

/-! ### Bytes and numbers -/

/-- Bytes above those that are written do not show. -/
theorem toBE_add_mul (w n k : Nat) : toBE w (n + k * 256 ^ w) = toBE w n := by
  induction w generalizing k with
  | zero => rfl
  | succ w ih =>
    have hpow : n + k * 256 ^ (w + 1) = n + k * 256 * 256 ^ w := by rw [pow_succ']; ac_rfl
    have htop : (n + k * 256 * 256 ^ w) / 256 ^ w = n / 256 ^ w + k * 256 := Nat.add_mul_div_right _ _ (by positivity)
    have hbyte : BitVec.ofNat 8 (n / 256 ^ w + k * 256) = BitVec.ofNat 8 (n / 256 ^ w) :=
      BitVec.eq_of_toNat_eq (by simp)
    rw [toBE, toBE, hpow, htop, hbyte, ih]

theorem be_lt (bs : List Byte) : be bs < 256 ^ bs.length := by
  induction bs with
  | nil => simp [be]
  | cons b bs ih =>
    calc b.toNat * 256 ^ bs.length + be bs
      _ < b.toNat * 256 ^ bs.length + 256 ^ bs.length := Nat.add_lt_add_left ih _
      _ = (b.toNat + 1) * 256 ^ bs.length := (Nat.succ_mul _ _).symm
      _ ≤ 256 * 256 ^ bs.length := Nat.mul_le_mul_right _ b.isLt
      _ = 256 ^ (b :: bs).length := (pow_succ' _ _).symm

/-- A field written back gives its bytes (R198). -/
theorem toBE_be (bs : List Byte) : toBE bs.length (be bs) = bs := by
  induction bs with
  | nil => rfl
  | cons b bs ih =>
    have htop : (be bs + b.toNat * 256 ^ bs.length) / 256 ^ bs.length = b.toNat := by
      rw [Nat.add_mul_div_right _ _ (by positivity), Nat.div_eq_of_lt (be_lt bs), Nat.zero_add]
    rw [List.length_cons, be, Nat.add_comm (_ * _), toBE, htop, toBE_add_mul, ih, BitVec.ofNat_toNat, BitVec.setWidth_eq]

/-! ### The set of flags a request names -/

/-- A set with a bit above 25 is none (R179, R181). -/
theorem flagSetOf_of_le {n : Nat} (h : 67108864 ≤ n) : flagSetOf n = none := if_neg (not_lt.mpr h)

theorem flagSetOf_of_lt {n : Nat} (h : n < 67108864) : flagSetOf n = some (BitVec.ofNat 26 n) := if_pos h

/-- A set without a bit above 25 is read as it was named (R198). -/
theorem flagBytes_be {bs : List Byte} (hlen : bs.length = 4) (h : be bs < 67108864) :
    flagBytes (BitVec.ofNat 26 (be bs)) = bs := by
  have hset : (BitVec.ofNat 26 (be bs)).toNat = be bs := by
    rw [BitVec.toNat_ofNat]
    exact Nat.mod_eq_of_lt h
  rw [flagBytes, hset, ← hlen, toBE_be]

theorem State.flagsAnswer_payload (s : State) (st : Status) :
    (s.flagsAnswer st).payload = [BitVec.ofNat 8 st.code] ++ toBE 4 s.fnu.flags.toNat := by
  simp [State.flagsAnswer, Answer.payload, pack, flagBytes]

theorem State.maskAnswer_payload (s : State) (l : Link) (st : Status) :
    (s.maskAnswer l st).payload = [BitVec.ofNat 8 st.code] ++ flagBytes (s.fnu.mask.get l) := by
  simp [State.maskAnswer, Answer.payload, pack]

section Sets
variable {p : List Byte} {s : State}

theorem ownClearFlags_of_le (h : 67108864 ≤ field p 0 4) : ownClearFlags p s = (s, some (s.flagsAnswer .badValue)) := by
  rw [ownClearFlags, flagSetOf_of_le h]

theorem ownClearFlags_of_lt (h : field p 0 4 < 67108864) : ownClearFlags p s =
    let t : State := { s with fnu := { s.fnu with flags := s.fnu.flags &&& ~~~(BitVec.ofNat 26 (field p 0 4)) } }
    (t, some (t.flagsAnswer .ok)) := by
  rw [ownClearFlags, flagSetOf_of_lt h]

theorem ownSetNoticeMask_of_le (h : 67108864 ≤ field p 0 4) (l : Link) :
    ownSetNoticeMask l p s = (s, some (s.maskAnswer l .badValue)) := by
  rw [ownSetNoticeMask, flagSetOf_of_le h]

theorem ownSetNoticeMask_of_lt (h : field p 0 4 < 67108864) (l : Link) : ownSetNoticeMask l p s =
    let t : State := { s with fnu := { s.fnu with mask := s.fnu.mask.set l (BitVec.ofNat 26 (field p 0 4)) } }
    (t, some (t.maskAnswer l .ok)) := by
  rw [ownSetNoticeMask, flagSetOf_of_lt h]

end Sets

/-! ### The latches -/

theorem latchOf_eq_none {n : Nat} (h : 7 < n) : latchOf n = none := by
  obtain ⟨k, rfl⟩ := Nat.exists_eq_add_of_le' h
  rfl

theorem latchOf_heater (k : SlotId) : latchOf (4 + k.num) = some (.heater k) := by cases k <;> rfl

/-- CLEAR_FAULT finds its latch by the name in its one byte (R184, R201). -/
theorem ownClearFault_eq {b : Byte} {x : Latch} (h : latchOf b.toNat = some x) (s : State) : ownClearFault [b] s =
    if s.latchSet x = false then (s, some ⟨.ok, [.wide 1 0]⟩)
    else if s.causePersists x then (s, some (.just .stillPresent))
    else ((s.clearLatch x).handOn, some ⟨.ok, [.wide 1 1]⟩) := by
  have hfield : field [b] 0 1 = b.toNat := field_one (p := [b]) (by simp)
  rw [ownClearFault, hfield, h]

theorem ownClearFault_of_none {b : Byte} (h : latchOf b.toNat = none) (s : State) :
    ownClearFault [b] s = (s, some (.just .badValue)) := by
  have hfield : field [b] 0 1 = b.toNat := field_one (p := [b]) (by simp)
  rw [ownClearFault, hfield, h]

/-! Service of a request shows in the Link Interface alone, so the owner finds its latch as it was. -/

theorem State.beginService_latchSet (s : State) (l : Link) (x : Latch) : (s.beginService l).latchSet x = s.latchSet x := by
  cases x <;> rfl

theorem State.beginService_causePersists (s : State) (l : Link) (x : Latch) :
    (s.beginService l).causePersists x = s.causePersists x := by
  cases x <;> rfl

theorem State.beginService_clearLatch (s : State) (l : Link) (x : Latch) :
    (s.beginService l).clearLatch x = { s.clearLatch x with lif := (s.beginService l).lif } := by
  cases x <;> rfl

/-- The wrong-system condition: a confirmed system other than the expected one, under a collecting slot that is UP (R110). -/
theorem State.wrongNow_eq (s : State) : s.wrongNow =
    (decide (s.lsu.confirmed ≠ .none) && s.cs.demand.expected.any (fun y => decide (s.lsu.confirmed ≠ .sys y)) &&
      s.slots.any (fun y => decide (y.state = .up) && decide (y.role = .collect))) := by
  unfold State.wrongNow
  cases s.cs.demand.expected <;> rfl

/-- The rows of R184 for one latch: clear already, its cause still there, or cleared and handed on. -/
theorem State.clearFault_rows {s : State} {l : Link} {b : Byte} {x : Latch} (h : s.Commands l .clearFault [b])
    (hx : latchOf b.toNat = some x) :
    (s.latchSet x = false → exec (.clearFault l) s = .next (s.answered l 0x41 [0x00, 0x00])) ∧
    (s.latchSet x = true → s.causePersists x = true → exec (.clearFault l) s = .next (s.answered l 0x41 [0x0D])) ∧
    (s.latchSet x = true → s.causePersists x = false → exec (.clearFault l) s =
      .next ((State.handOn { s.clearLatch x with lif := (s.beginService l).lif }).replied l 0x41 [0x00, 0x01])) := by
  have howner := ownClearFault_eq hx (s.beginService l)
  rw [State.beginService_latchSet, State.beginService_causePersists, State.beginService_clearLatch] at howner
  refine ⟨fun hset => ?_, fun hset hcause => ?_, fun hset hcause => ?_⟩
  · rw [if_pos hset] at howner
    exact congrArg Host.Outcome.next (h.served howner)
  · rw [if_neg (by simp [hset]), if_pos hcause] at howner
    exact congrArg Host.Outcome.next (h.served howner)
  · rw [if_neg (by simp [hset]), if_neg (by simp [hcause])] at howner
    exact congrArg Host.Outcome.next (h.served howner)

/-- Settles O58: the rows of the three requests, with each latch's owner behind its name. -/
theorem flagRequestsByTheirTables : Obligations.FlagRequestsByTheirTables := by
  intro s l b0 b1 b2 b3 n x
  have hfield : field [b0, b1, b2, b3] 0 4 = n := rfl
  refine ⟨fun h => ⟨fun hn => ?_, fun hn => ?_⟩, fun h => ⟨fun hn => ?_, fun hn => ?_⟩, fun h => ?_⟩
  · refine (congrArg Host.Outcome.next (h.served (ownClearFlags_of_le hn))).trans ?_
    rw [State.flagsAnswer_payload]
    rfl
  · refine (congrArg Host.Outcome.next (h.served (ownClearFlags_of_lt hn))).trans ?_
    rw [State.flagsAnswer_payload]
    rfl
  · refine (congrArg Host.Outcome.next (h.served rfl rfl (ownSetNoticeMask_of_le (p := [b0, b1, b2, b3]) hn l))).trans ?_
    rw [State.maskAnswer_payload]
    rfl
  · refine (congrArg Host.Outcome.next (h.served rfl rfl (ownSetNoticeMask_of_lt (p := [b0, b1, b2, b3]) hn l))).trans ?_
    rw [State.maskAnswer_payload, PerLink.get_set_self, hfield, flagBytes_be rfl hn]
    rfl
  · intro row
    have hrow {y : Latch} (hy : latchOf b0.toNat = some y) : row (s.latchSet y) (s.causePersists y) (s.clearLatch y) :=
      State.clearFault_rows h hy
    refine ⟨fun hb => ?_, ?_, ?_, ?_, ?_, fun k hk => hrow (y := .heater k) (by rw [hk, latchOf_heater])⟩
    · exact congrArg Host.Outcome.next (h.served (ownClearFault_of_none (latchOf_eq_none hb) _))
    · rintro rfl
      exact hrow (y := .overvolt) rfl
    · rintro rfl
      rw [← State.wrongNow_eq]
      exact hrow (y := .wrongSystem) rfl
    · rintro rfl
      exact hrow (y := .overload) rfl
    · rintro rfl
      exact hrow (y := .brkFault) rfl

end Sys2Proof.Machine
end

section
/-! PROOFS. The laws of a slot record (R53, R54, R61, R66) under each move and each event of one unit. -/

set_option Elab.async false

namespace Sys2Proof.Machine

/-! ### The laws of one slot record -/

/-- The laws of a slot record (R53, R54, R61, R66), as `State.slotLaw` asks them of each of the four. -/
structure Slot.Lawful (x : Slot) : Prop where
  role : x.role = roleFor x.tRole x.dsc.state
  prv : x.state ≠ .raising → x.state ≠ .up → x.prv = 0
  locks : x.locks = .empty ↔ x.state ≠ .locked
  disabled : x.state = .disabled ↔ x.enabled = false
  retryCount : x.retryCount ≤ 3

/-- What the laws ask of a slot whatever state it is about to enter: enabled, without a lock reason, its role in effect that of R61
and its retry count in bounds. -/
structure Slot.Ready (x : Slot) : Prop where
  role : x.role = roleFor x.tRole x.dsc.state
  unlocked : x.locks = .empty
  enabled : x.enabled = true
  retryCount : x.retryCount ≤ 3

/-- A ready slot is lawful in every state but DISABLED and LOCKED, with the valve at 0 outside RAISING and UP. -/
theorem Slot.Ready.lawful {x : Slot} (h : x.Ready) (hd : x.state ≠ .disabled) (hl : x.state ≠ .locked)
    (hp : x.state ≠ .raising → x.state ≠ .up → x.prv = 0) : x.Lawful where
  role := h.role
  prv := hp
  locks := iff_of_true h.unlocked hl
  disabled := iff_of_false hd (by simp [h.enabled])
  retryCount := h.retryCount

theorem Slot.Lawful.enabled_of_ne {x : Slot} (h : x.Lawful) (hd : x.state ≠ .disabled) : x.enabled = true := by
  simpa using mt h.disabled.mpr hd

theorem Slot.Lawful.ready {x : Slot} (h : x.Lawful) (hd : x.state ≠ .disabled) (hl : x.state ≠ .locked) : x.Ready where
  role := h.role
  unlocked := h.locks.mpr hl
  enabled := h.enabled_of_ne hd
  retryCount := h.retryCount

/-- A slot in one of the states of a raise or a lowering, or in DOWN, is ready. -/
theorem Slot.Lawful.ready_of {x : Slot} {st : SlotState} (h : x.Lawful) (hs : x.state = st)
    (hst : st ∉ [SlotState.disabled, .locked] := by decide) : x.Ready :=
  h.ready (fun hd => hst (by simp [← hs, hd])) (fun hl => hst (by simp [← hs, hl]))

/-! ### Moves of a lawful or a ready slot -/

section Moves
variable {x : Slot} (c : PuCtx)

theorem Slot.Lawful.withDsc (h : x.Lawful) (d : Dsc) : ({ x with dsc := d }.deriveRole).Lawful := { h with role := rfl }

theorem Slot.Lawful.startTravel (h : x.Lawful) (close : Bool) : (x.startTravel close).Lawful := h.withDsc _

theorem Slot.Ready.enterUp (h : x.Ready) : (x.enterUp c).Lawful :=
  Slot.Ready.lawful { h with retryCount := Nat.zero_le 3 } SlotState.noConfusion SlotState.noConfusion fun _ hu => absurd rfl hu

theorem Slot.Ready.enterRaising (h : x.Ready) : (x.enterRaising c).Lawful := by
  simp only [Slot.enterRaising]
  split
  · exact Slot.Ready.enterUp c { h with }
  · exact Slot.Ready.lawful { h with } SlotState.noConfusion SlotState.noConfusion fun hr => absurd rfl hr

theorem Slot.enabled_of_canRaise (h : x.canRaise = true) : x.enabled = true := by
  simp_all [Slot.canRaise]

/-- The raise test asks that the slot be enabled (R63), so it keeps the laws wherever no lock reason stands. -/
theorem Slot.Lawful.tryRaise (h : x.Lawful) (hl : x.locks = .empty) : (x.tryRaise c).Lawful := by
  unfold Slot.tryRaise
  split
  next hr => exact Slot.Ready.enterRaising c ⟨h.role, hl, Slot.enabled_of_canRaise hr, h.retryCount⟩
  next => exact h

theorem Slot.Lawful.applyDown (h : x.Lawful) (hl : x.locks = .empty) : (x.applyDown c).Lawful := by
  unfold Slot.applyDown
  split
  · exact h
  · exact h
  · exact h
  · split
    · exact h.startTravel true
    · exact h.tryRaise c hl
  · split
    · exact h.tryRaise c hl
    · exact h.startTravel false

theorem Slot.Ready.enterDown (h : x.Ready) : (x.enterDown c).Lawful :=
  Slot.Lawful.applyDown c (Slot.Ready.lawful { h with } SlotState.noConfusion SlotState.noConfusion fun _ _ => rfl) h.unlocked

theorem Slot.Ready.enterRetryWait (h : x.Ready) : (x.enterRetryWait c).Lawful :=
  Slot.Ready.lawful { h with } SlotState.noConfusion SlotState.noConfusion fun _ _ => rfl

theorem Slot.Lawful.applyRetryWait (h : x.Lawful) (hs : x.state = .retryWait) : (x.applyRetryWait c).Lawful := by
  unfold Slot.applyRetryWait
  split
  · exact (h.ready_of hs).enterDown c
  · exact h

theorem Slot.Ready.arriveDown (h : x.Ready) : (x.arriveDown c).Lawful := by
  unfold Slot.arriveDown
  split
  · split
    · exact (h.enterRetryWait c).applyRetryWait c rfl
    · exact h.enterRetryWait c
  · exact h.enterDown c

theorem Slot.Ready.enterLowering (h : x.Ready) : (x.enterLowering c).Lawful := by
  simp only [Slot.enterLowering]
  split
  · exact Slot.Ready.arriveDown c { h with }
  · exact Slot.Ready.lawful { h with } SlotState.noConfusion SlotState.noConfusion fun _ _ => rfl

theorem Slot.Lawful.applyUp (h : x.Lawful) (hs : x.state = .up) : (x.applyUp c).Lawful := by
  have hlower : (x.enterLowering c).Lawful := (h.ready_of hs).enterLowering c
  unfold Slot.applyUp
  split
  · exact hlower
  · split
    · exact h
    · exact h
    · exact h
    · split
      · split
        · exact h.startTravel true
        · exact hlower
      · exact h
    · split
      · exact h
      · split
        · exact h.startTravel false
        · exact hlower

/-- No lock reason stands in a state other than LOCKED. -/
theorem Slot.Lawful.unlocked_of {st : SlotState} (h : x.Lawful) (hs : x.state = st) (hst : st ≠ .locked := by decide) :
    x.locks = .empty := h.locks.mpr (hs ▸ hst)

theorem Slot.Lawful.applyRole (h : x.Lawful) : (x.applyRole c).Lawful := by
  unfold Slot.applyRole
  split
  next hs => exact h.applyDown c (h.unlocked_of hs)
  next hs => exact h.applyUp c hs
  all_goals exact h

theorem Slot.Lawful.applyChanged (h : x.Lawful) : (x.applyChanged c).Lawful := by
  unfold Slot.applyChanged
  split
  next hs => exact h.applyDown c (h.unlocked_of hs)
  next hs => exact h.applyUp c hs
  next hs =>
    split
    · exact (h.ready_of hs).enterLowering c
    · exact h
  next hs => exact h.applyRetryWait c hs
  next => exact { h with }
  all_goals exact h

/-! ### What a unit follows: a Target, a hold, a breaker report -/

/-- A delivery derives the role in effect afresh (R61), and sets the valve in UP alone (R67). -/
theorem Slot.Lawful.deliver (h : x.Lawful) (t : RoleForce) : (x.deliver c t).Lawful := by
  have htarget : ({ x with tRole := t.role, tForce := t.force }.deriveRole).Lawful := { h with role := rfl }
  have hforce (p : Nat) (hs : x.state = .up) : ({ { x with tRole := t.role, tForce := t.force }.deriveRole with prv := p } : Slot).Lawful :=
    { htarget with prv := fun _ hu => absurd hs hu }
  simp only [Slot.deliver]
  split_ifs with _ hup hup
  · exact hforce _ hup.1
  · exact htarget
  · exact (hforce _ hup.1).applyChanged c
  · exact htarget.applyChanged c

theorem Slot.Lawful.setHold (h : x.Lawful) (v : SeqHold) : (x.setHold c v).Lawful := by
  simp only [Slot.setHold]
  split
  next hs => exact Slot.Ready.enterLowering c { h.ready_of hs with }
  next hs => exact Slot.Ready.enterLowering c { h.ready_of hs with }
  next => exact { h with }
  next hs => exact Slot.Ready.enterDown c { h.ready_of hs with }
  next => split <;> exact { h with }
  all_goals exact { h with }

theorem Slot.Lawful.releaseHold (h : x.Lawful) : (x.releaseHold c).Lawful := Slot.Lawful.applyRole c { h with }

theorem Slot.Lawful.brkReport (h : x.Lawful) : (x.brkReport c).Lawful := by
  unfold Slot.brkReport
  split
  · exact { h with }
  · exact h

/-! ### Events of one slot -/

theorem Slot.Lawful.after (h : x.Lawful) (n : Nat) : (x.after n).Lawful := { h with }

/-- The filtered inputs stand in no law. -/
theorem Slot.Lawful.withInputs (h : x.Lawful) (down contact add dsf : Filter) :
    ({ x with down := down, contact := contact, add := add, dsf := dsf } : Slot).Lawful := { h with }

/-- Entry to LOCKED from an enabled slot, or a further reason there: some reason stands, and the valve is at 0. -/
theorem Slot.lawful_of_locked (hrole : x.role = roleFor x.tRole x.dsc.state) (hs : x.state = .locked) (hl : x.locks ≠ .empty)
    (he : x.enabled = true) (hp : x.prv = 0) (hr : x.retryCount ≤ 3) : x.Lawful where
  role := hrole
  prv := fun _ _ => hp
  locks := iff_of_false hl (fun hn => hn hs)
  disabled := iff_of_false (by simp [hs]) (by simp [he])
  retryCount := hr

theorem Slot.Lawful.downMade (h : x.Lawful) : (x.downMade c).1.Lawful := by
  unfold Slot.downMade
  split
  next hs => exact (h.ready_of hs).arriveDown c
  next hs =>
    exact Slot.lawful_of_locked h.role rfl (by simp [Locks.empty]) (h.ready_of hs).enabled (h.prv (by simp [hs]) (by simp [hs]))
      h.retryCount
  next => exact { h with }
  all_goals exact h

theorem Slot.Lawful.downOpened (h : x.Lawful) : (x.downOpened c).Lawful := by
  unfold Slot.downOpened
  split
  next hs => exact (h.ready_of hs).enterLowering c
  next hs => exact Slot.Ready.enterLowering c { h.ready_of hs with }
  next =>
    split
    · exact h
    · exact { h with }
  all_goals exact h

theorem Slot.Lawful.contactMade (h : x.Lawful) : (x.contactMade c).Lawful := by
  unfold Slot.contactMade
  split
  next hs => exact Slot.Lawful.applyUp c ((h.ready_of hs).enterUp c) rfl
  next =>
    split
    · exact { h with }
    · exact h
  all_goals exact h

theorem Slot.Lawful.contactLost (h : x.Lawful) : x.contactLost.Lawful := by
  unfold Slot.contactLost
  split
  · exact { h with }
  · exact h

theorem Slot.Lawful.contactLossExpiry (h : x.Lawful) : (x.contactLossExpiry c).Lawful := by
  unfold Slot.contactLossExpiry
  split
  next hs => exact (h.ready_of hs.1).enterRaising c
  next => exact h

theorem Slot.Lawful.raiseExpiry (h : x.Lawful) : (x.raiseExpiry c).1.Lawful := by
  unfold Slot.raiseExpiry
  split
  next hs =>
    have hready := h.ready_of hs.1
    split
    next hlt => exact Slot.Ready.enterLowering c { hready with retryCount := hlt.le }
    next => exact Slot.lawful_of_locked h.role rfl (by simp [Locks.empty]) hready.enabled rfl le_rfl
  next => exact h

theorem Slot.Lawful.lowerExpiry (h : x.Lawful) : x.lowerExpiry.1.Lawful := by
  have hlock {st : SlotState} (hs : x.state = st) (hd : st ≠ .disabled) : x.enabled = true := h.enabled_of_ne (hs ▸ hd)
  unfold Slot.lowerExpiry
  split
  · split
    next hs => exact Slot.lawful_of_locked h.role rfl (by simp [Locks.empty]) (hlock hs (by decide)) rfl h.retryCount
    next hs => exact Slot.lawful_of_locked h.role rfl (by simp [Locks.empty]) (hlock hs (by decide)) rfl h.retryCount
    next hs =>
      exact Slot.lawful_of_locked h.role hs (by simp [Locks.empty]) (hlock hs (by decide)) (h.prv (by simp [hs]) (by simp [hs]))
        h.retryCount
    all_goals exact h
  · exact h

theorem Slot.Lawful.retryExpiry (h : x.Lawful) : (x.retryExpiry c).Lawful := by
  unfold Slot.retryExpiry Slot.retryTest
  split
  next hs =>
    have hready := h.ready_of hs.1
    split
    · exact hready.enterRaising c
    · split
      · exact hready.enterDown c
      · exact { h with }
  next => exact h

theorem Slot.Ready.drop (h : x.Ready) : (x.drop c).1.Lawful := by
  have hdropped : ({ x with
      state := .dropped, prv := 0, dmp := true, raise := none, contactLoss := none,
      lower := if x.state = .lowering then x.lower else ms c.lowerTimeout, retryPending := false } : Slot).Lawful :=
    Slot.Ready.lawful { h with } SlotState.noConfusion SlotState.noConfusion fun _ _ => rfl
  simp only [Slot.drop]
  split
  · exact hdropped.downMade c
  · exact hdropped

theorem Slot.Lawful.autodropTrip (h : x.Lawful) : (x.autodropTrip c).1.Lawful := by
  unfold Slot.autodropTrip
  split
  next hs => exact (h.ready_of hs).drop c
  next hs => exact (h.ready_of hs).drop c
  next hs => exact (h.ready_of hs).drop c
  next hs =>
    split
    · exact h
    · exact Slot.lawful_of_locked h.role hs (by simp [Locks.empty]) (h.enabled_of_ne (by simp [hs]))
        (h.prv (by simp [hs]) (by simp [hs])) h.retryCount
  all_goals exact h

theorem Slot.Lawful.autodropRelease (h : x.Lawful) : (x.autodropRelease c).Lawful := by
  unfold Slot.autodropRelease
  split
  next hs => exact h.tryRaise c (h.unlocked_of hs)
  next hs =>
    split
    · exact h.tryRaise c (h.unlocked_of hs)
    · exact h
  all_goals exact h

theorem Slot.Lawful.failDsc (h : x.Lawful) : (x.failDsc c).1.Lawful := by
  simp only [Slot.failDsc]
  split
  next he =>
    split
    next hs =>
      exact Slot.lawful_of_locked rfl hs (by simp [Locks.empty]) he (h.prv (by simp [hs]) (by simp [hs])) h.retryCount
    next => exact Slot.lawful_of_locked rfl rfl (by simp [Locks.empty]) he rfl h.retryCount
  next => exact h.withDsc _

theorem Slot.Lawful.rederiveDsc (h : x.Lawful) : x.rederiveDsc.Lawful := by
  unfold Slot.rederiveDsc
  split
  · exact h.withDsc _
  · exact h

theorem Slot.Lawful.dsfMade (h : x.Lawful) : (x.dsfMade c).1.Lawful := by
  unfold Slot.dsfMade
  split
  · exact (h.withDsc _).applyRole c
  · exact h.failDsc c
  all_goals exact h

theorem Slot.Lawful.dsfReleased (h : x.Lawful) : (x.dsfReleased c).1.Lawful := by
  unfold Slot.dsfReleased
  split
  · exact (h.withDsc _).applyRole c
  · exact h.failDsc c
  all_goals exact h

theorem Slot.Lawful.travelExpiry (h : x.Lawful) : (x.travelExpiry c).1.Lawful := by
  unfold Slot.travelExpiry
  split
  · exact h.failDsc c
  · exact h

/-! ### The requests that configure and unlock -/

/-- The record with an accepted SET_SLOT written, before its state answers to it (R57). -/
def Slot.withConfig (en : Bool) (offset : Nat) (mask : BitVec 4) (x : Slot) : Slot :=
  { x with enabled := en, offset := offset, mask := mask, retryCount := 0, contactLosses := 0 }

theorem Slot.configure_down_on (hs : x.state = .down) (offset : Nat) (mask : BitVec 4) :
    x.configure c true offset mask = (x.withConfig true offset mask).applyDown c := by
  simp only [Slot.configure, hs, Slot.withConfig]

theorem Slot.configure_down_off (hs : x.state = .down) (offset : Nat) (mask : BitVec 4) :
    x.configure c false offset mask = Slot.rederiveDsc { (if x.dsc.state = .closed then (x.withConfig false offset mask).startTravel false
      else x.withConfig false offset mask) with state := .disabled } := by
  simp only [Slot.configure, hs, Slot.withConfig]

theorem Slot.configure_disabled_on (hs : x.state = .disabled) (offset : Nat) (mask : BitVec 4) :
    x.configure c true offset mask = if x.down.acc then (x.withConfig true offset mask).enterDown c
      else (x.withConfig true offset mask).enterLowering c := by
  simp only [Slot.configure, hs, Slot.withConfig]

theorem Slot.configure_disabled_off (hs : x.state = .disabled) (offset : Nat) (mask : BitVec 4) :
    x.configure c false offset mask = (x.withConfig false offset mask).rederiveDsc := by
  simp only [Slot.configure, hs, Slot.withConfig]

/-- A configuration acts in DOWN and DISABLED alone (R56), where the state follows `enabled` (R57). -/
theorem Slot.Lawful.configure (h : x.Lawful) (hs : x.state = .disabled ∨ x.state = .down) (en : Bool) (offset : Nat) (mask : BitVec 4) :
    (x.configure c en offset mask).Lawful := by
  have hl : x.locks = .empty := by rcases hs with hs | hs <;> exact h.unlocked_of hs
  have hp : x.prv = 0 := by rcases hs with hs | hs <;> exact h.prv (by simp [hs]) (by simp [hs])
  have hon : (x.withConfig true offset mask).Ready := ⟨h.role, hl, rfl, Nat.zero_le 3⟩
  rcases hs with hs | hs <;> cases en
  · rw [Slot.configure_disabled_off c hs]
    exact Slot.Lawful.rederiveDsc { h with disabled := iff_of_true hs rfl, retryCount := Nat.zero_le 3 }
  · rw [Slot.configure_disabled_on c hs]
    split
    · exact hon.enterDown c
    · exact hon.enterLowering c
  · rw [Slot.configure_down_off c hs]
    refine Slot.Lawful.rederiveDsc ?_
    split
    · exact ⟨rfl, fun _ _ => hp, iff_of_true hl SlotState.noConfusion, iff_of_true rfl rfl, Nat.zero_le 3⟩
    · exact ⟨h.role, fun _ _ => hp, iff_of_true hl SlotState.noConfusion, iff_of_true rfl rfl, Nat.zero_le 3⟩
  · rw [Slot.configure_down_on c hs]
    exact Slot.Lawful.applyDown c (hon.lawful (by simp [Slot.withConfig, hs]) (by simp [Slot.withConfig, hs]) fun _ _ => hp) hl

/-- UNLOCK_SLOT empties the lock reasons as the slot leaves LOCKED (R58). -/
theorem Slot.Lawful.unlock (h : x.Lawful) (hs : x.state = .locked) : (x.unlock c).Lawful := by
  have hdown : ({ x with
      state := .down, locks := .empty, retryCount := 0, retryPending := false, dmp := false, lower := none } : Slot).Lawful :=
    ⟨h.role, fun _ _ => h.prv (by simp [hs]) (by simp [hs]), iff_of_true rfl SlotState.noConfusion,
      iff_of_false SlotState.noConfusion (by simp [h.enabled_of_ne (x := x) (by simp [hs])]), Nat.zero_le 3⟩
  refine Slot.Lawful.applyDown c hdown.rederiveDsc ?_
  unfold Slot.rederiveDsc
  split <;> rfl

end Moves
end Sys2Proof.Machine
end

section
/-! PROOFS. What every operation and every command does to the laws of the slot records (R53, R54, R61, R66), and O41. -/

set_option Elab.async false

namespace Sys2Proof.Machine

/-! ### The four records -/

/-- All four slot records are lawful. -/
def AllLawful (p : PerSlot Slot) : Prop := ∀ k, (p.get k).Lawful

theorem State.slotLaw_iff {s : State} : s.slotLaw ↔ AllLawful s.slots :=
  forall_congr' fun _ =>
    ⟨fun ⟨hr, hp, hl, hd, hc⟩ => ⟨hr, hp, hl, hd, hc⟩, fun ⟨hr, hp, hl, hd, hc⟩ => ⟨hr, hp, hl, hd, hc⟩⟩

theorem allLawful_set {p : PerSlot Slot} {k : SlotId} {x : Slot} (hp : AllLawful p) (hx : x.Lawful) : AllLawful (p.set k x) := by
  intro j
  by_cases hj : j = k
  · subst hj
    simpa using hx
  · rw [PerSlot.get_set_ne p k j x hj]
    exact hp j

theorem allLawful_map {p : PerSlot Slot} {f : Slot → Slot} (hp : AllLawful p) (hf : ∀ x : Slot, x.Lawful → (f x).Lawful) :
    AllLawful (p.map f) := by
  intro k
  rw [PerSlot.get_map]
  exact hf _ (hp k)

/-! ### Operations that give the units a Target or a hold -/

section Operations
variable {s : State} (h : AllLawful s.slots)
include h

theorem State.deliver_lawful (t : Target) : AllLawful (s.deliver t).slots := by
  intro k
  simpa using (h k).deliver s.puCtx (t.slots.get k)

theorem State.holdOrDeliver_lawful (t : Target) : AllLawful (s.holdOrDeliver t).slots := by
  unfold State.holdOrDeliver
  split_ifs
  · exact h
  · exact h
  · exact State.deliver_lawful h t

theorem State.evaluate_lawful : AllLawful s.evaluate.slots := by
  simp only [State.evaluate]
  exact State.holdOrDeliver_lawful (by simpa using h) _

theorem State.csReact_lawful : AllLawful s.csReact.slots := by
  unfold State.csReact
  split
  · exact h
  · exact State.evaluate_lawful h

theorem State.deliverPending_lawful : AllLawful s.deliverPending.slots := by
  simp only [State.deliverPending]
  split
  · exact h
  · split
    · exact h
    · exact State.deliver_lawful (s := { s with cs := { s.cs with pend := none } }) h _

theorem State.csHoldOff_lawful : AllLawful s.csHoldOff.slots := by
  unfold State.csHoldOff
  split_ifs
  · exact h
  · exact State.deliverPending_lawful (s := { s with cs := { s.cs with hold := false } }) h
  · exact h

theorem State.csRelease_lawful (next : Option LineSystem) : AllLawful (s.csRelease next).slots := by
  unfold State.csRelease
  split
  · exact State.deliverPending_lawful h
  · exact State.deliverPending_lawful (State.csReact_lawful (by simpa using h))

theorem State.setHolds_lawful (v : SeqHold) : AllLawful (s.setHolds v).slots :=
  allLawful_map h fun _ hx => hx.setHold s.puCtx v

theorem State.releaseHolds_lawful : AllLawful s.releaseHolds.slots := allLawful_map h fun _ hx => hx.releaseHold s.puCtx

theorem State.puReact_lawful : AllLawful s.puReact.slots := allLawful_map h fun _ hx => hx.brkReport s.puCtx

/-! ### Closes and the steps of a passage -/

theorem State.planClosed_lawful : AllLawful s.planClosed.slots := by
  have hseq : AllLawful (if s.psq.seqHeld then s.releaseSeq else s).slots := by split <;> simpa using h
  have hholds {u : State} (hu : AllLawful u.slots) : AllLawful (if u.psq.slotHold = .none then u else u.releaseHolds).slots := by
    split
    · exact hu
    · exact State.releaseHolds_lawful hu
  exact hholds hseq

theorem State.closeEntry_lawful (e : Entry) (r : CloseResult) (last : Option Step) : AllLawful (s.closeEntry e r last).slots := by
  have hclose : AllLawful (s.recordClose e r last).slots := by simpa using h
  unfold State.closeEntry
  split_ifs
  · exact State.csHoldOff_lawful (State.planClosed_lawful hclose)
  · exact hclose
  · exact h

theorem State.closeActive_lawful (r : CloseResult) (last : Option Step) : AllLawful (s.closeActive r last).slots := by
  unfold State.closeActive
  split
  · exact State.closeEntry_lawful (by simpa using h) _ _ _
  · exact h

theorem State.abortNoOpen_lawful : AllLawful s.abortNoOpen.slots := State.closeActive_lawful (State.setHolds_lawful h _) _ _

theorem State.startStep_lawful (st : Step) : AllLawful (s.startStep st).slots := by
  have hreraise {u : State} (n : Option LineSystem) (hu : AllLawful u.slots) : AllLawful (u.csRelease n).releaseHolds.slots :=
    State.releaseHolds_lawful (State.csRelease_lawful hu n)
  cases st with
  | ramp => simp only [State.startStep]; split <;> exact h
  | openBrk => simpa [State.startStep] using h
  | lower => exact State.setHolds_lawful (s := { s with psq := _ }) h _
  | coast => exact h
  | reraise => exact hreraise (u := { s with psq := _ }) _ h
  | confirm => exact h

end Operations

theorem State.advance_lawful (n : Nat) (c : Cause) {s : State} (h : AllLawful s.slots) : AllLawful (State.advance n c s).slots := by
  induction n generalizing c s with
  | zero => exact h
  | succ n ih =>
    unfold State.advance
    split
    · exact h
    · exact ih _ (State.startStep_lawful h _)
    · exact State.closeActive_lawful h _ _
    · exact State.abortNoOpen_lawful h

section HandOn
variable {s : State} (h : AllLawful s.slots)
include h

theorem State.psqReact_lawful : AllLawful s.psqReact.slots := by
  unfold State.psqReact
  split
  · exact State.advance_lawful _ _ h
  · exact h

theorem State.reportTotal_lawful : AllLawful s.reportTotal.slots := by
  have hramp : AllLawful s.rampReport.slots := by simpa using h
  simp only [State.reportTotal]
  split
  · exact State.advance_lawful _ _ hramp
  · exact hramp

theorem State.csuReact_lawful : AllLawful s.csuReact.slots := by
  have hin : AllLawful s.csuInputs.slots := by simpa using h
  simp only [State.csuReact]
  split
  · exact hin
  · exact State.reportTotal_lawful hin

theorem State.bkiReact_lawful : AllLawful s.bkiReact.slots := by
  have hlock : AllLawful s.wrongTest.interlock.slots := by simpa using h
  simp only [State.bkiReact]
  split
  · exact State.closeActive_lawful hlock _ _
  · exact hlock

theorem State.settle_lawful : AllLawful s.settle.slots :=
  State.bkiReact_lawful (State.csuReact_lawful (State.csReact_lawful (by simpa using h)))

end HandOn

theorem State.rounds_lawful (n : Nat) {s : State} (h : AllLawful s.slots) : AllLawful (State.rounds n s).slots := by
  induction n generalizing s with
  | zero => exact h
  | succ n ih => exact ih (State.settle_lawful (State.psqReact_lawful (State.puReact_lawful h)))

theorem State.handOn_lawful {s : State} (h : AllLawful s.slots) : AllLawful s.handOn.slots := by
  unfold State.handOn
  rw [State.pointsTidy_slots]
  exact State.rounds_lawful _ (State.settle_lawful h)

theorem State.slotEvent_lawful {s : State} (h : AllLawful s.slots) (k : SlotId) {r : Slot × List Flag} (hr : r.1.Lawful) :
    AllLawful (s.slotEvent k r).slots :=
  State.handOn_lawful (by simpa using allLawful_set h hr)

/-! ### The estimate update -/

theorem State.foldl_lawful {α : Type} {f : State → α → State}
    (hf : ∀ (u : State) (a : α), AllLawful u.slots → AllLawful (f u a).slots) (as : List α) {s : State} (h : AllLawful s.slots) :
    AllLawful (as.foldl f s).slots := by
  induction as generalizing s with
  | nil => exact h
  | cons a as ih => exact ih (hf s a h)

section Update
variable {s : State} (h : AllLawful s.slots)
include h

theorem State.deadlineTests_lawful (deadline : Pos) : AllLawful (s.deadlineTests deadline).slots := by
  simp only [State.deadlineTests]
  split
  · have hopen (em : Bool) : AllLawful (if s.bki.state = .opened then s
        else { s with psq := { s.psq with emergency := em } }.openNow).slots := by split <;> simpa using h
    split
    · exact State.closeActive_lawful (State.setHolds_lawful (hopen _) _) _ _
    · exact hopen _
  · exact h

theorem State.activate_lawful (e : Entry) : AllLawful (s.activate e).slots :=
  State.advance_lawful _ _ (State.startStep_lawful (by simpa using h) _)

theorem State.armTest_lawful (e : Entry) (p : Points) : AllLawful (s.armTest e p).slots := by
  unfold State.armTest
  split <;> simpa using h

theorem State.activateTest_lawful (e : Entry) (p : Points) : AllLawful (s.activateTest e p).slots := by
  unfold State.activateTest
  split
  · exact State.activate_lawful h _
  · exact h

theorem State.positionTests_lawful : AllLawful s.positionTests.slots := by
  unfold State.positionTests
  split
  · exact State.advance_lawful _ _ h
  · exact h

theorem State.skipPassed_lawful (e : Entry) : AllLawful (s.skipPassed e).slots := by
  unfold State.skipPassed
  split
  · exact State.closeEntry_lawful h _ _ _
  · exact h

theorem State.zoneTest_lawful (e : Entry) : AllLawful (s.zoneTest e).slots := by
  unfold State.zoneTest
  split_ifs
  · exact h
  · exact State.closeEntry_lawful h _ _ _
  · exact State.closeEntry_lawful h _ _ _
  · exact h
  · exact h

theorem State.closeReversed_lawful (e : Entry) : AllLawful (s.closeReversed e).slots := by
  unfold State.closeReversed
  split <;> exact State.closeEntry_lawful h _ _ _

theorem State.psqUpdate_lawful : AllLawful s.psqUpdate.slots := by
  by_cases hrest : s.teq.halted = true ∨ s.teq.nearest = none
  · rwa [State.psqUpdate_of_none hrest]
  · obtain ⟨hh, e, hn⟩ : s.teq.halted = false ∧ ∃ e, s.teq.nearest = some e := by
      simpa [Option.ne_none_iff_exists'] using hrest
    rw [State.psqUpdate_of_nearest hh hn]
    have hpoints : AllLawful (s.withPoints (s.pointsOf e)).slots := h
    exact State.positionTests_lawful (State.deadlineTests_lawful (State.activateTest_lawful (State.armTest_lawful hpoints _ _) _ _) _)

theorem State.estimateUpdate_lawful : AllLawful s.estimateUpdate.slots :=
  State.handOn_lawful (State.foldl_lawful (fun _ a hu => State.zoneTest_lawful hu a) _
    (State.foldl_lawful (fun _ a hu => State.skipPassed_lawful hu a) _ (State.psqUpdate_lawful h)))

theorem State.closeAllReversed_lawful : AllLawful s.closeAllReversed.slots :=
  State.foldl_lawful (fun _ a hu => State.closeReversed_lawful hu a) _ h

/-! ### Operations of the commands -/

theorem State.holderHandOn_lawful (before : Option Link) : AllLawful (s.holderHandOn before).slots := by
  unfold State.holderHandOn
  split
  · exact h
  · exact State.handOn_lawful h

theorem State.receive_lawful (l : Link) (b : Byte) : AllLawful (s.receive l b).slots := by
  simp only [State.receive, State.frameComplete]
  (repeat' split) <;> simp [State.holderHandOn_lawful, h]

theorem State.gateEnded_lawful : AllLawful s.gateEnded.slots := by
  unfold State.gateEnded
  split <;> simp [State.handOn_lawful, h]

theorem State.rawLevel_lawful (i : RawInput) : AllLawful (s.rawLevel i).slots := by
  have hset (k : SlotId) (d ct a f : Filter) :
      AllLawful (s.slots.set k { s.slots.get k with down := d, contact := ct, add := a, dsf := f }) :=
    allLawful_set h ((h k).withInputs d ct a f)
  cases i with
  | dn k b => exact hset k _ _ _ _
  | ct k b => exact hset k _ _ _ _
  | add k b => exact hset k _ _ _ _
  | dsf k b => exact hset k _ _ _ _
  | aux b => exact h
  | sel lvl => exact h

theorem State.report_lawful (pos : Pos) (v u : Nat) : AllLawful (s.report pos v u).slots :=
  State.estimateUpdate_lawful (s := ((s.raiseIf (s.pe.jumps pos) .posJump).setPe (s.reportedPe pos v u))) (by simpa using h)

theorem State.psqRampExpiry_lawful : AllLawful s.psqRampExpiry.slots := by
  unfold State.psqRampExpiry
  split
  · exact State.advance_lawful _ _ (State.startStep_lawful h _)
  · exact h

theorem State.confirmExpiry_lawful : AllLawful s.confirmExpiry.slots := by
  unfold State.confirmExpiry
  split
  · split <;> exact State.closeActive_lawful h _ _
  · exact h

end Update

/-! ### Owners -/

theorem State.powerIfSilent_slots (s : State) : s.powerIfSilent.slots = s.slots := by
  unfold State.powerIfSilent
  split <;> simp

theorem State.clearLatch_slots (s : State) (x : Latch) : (s.clearLatch x).slots = s.slots := by
  cases x <;> rfl

/-- A SET_SLOT that is not refused finds the slot DOWN or DISABLED (R56). -/
theorem State.state_of_not_setSlotBusy {s : State} {x : Slot} {en : Bool} (hb : ¬ s.setSlotBusy x en = true) :
    x.state = .disabled ∨ x.state = .down := by
  by_contra hn
  rw [not_or] at hn
  exact hb (by simp [State.setSlotBusy, hn])

section Owners
variable (p : List Byte) {s : State} (h : AllLawful s.slots)
include h

theorem ownReportPosition_lawful : AllLawful (ownReportPosition p s).1.slots := by
  simp only [ownReportPosition]
  exact State.report_lawful h _ _ _

theorem ownReverse_lawful : AllLawful (ownReverse p s).1.slots := by
  unfold ownReverse
  split
  · dsimp only
    exact State.handOn_lawful (State.closeAllReversed_lawful (s := { s with pe := s.pe.reversed }) h)
  · exact h

theorem ownPostEvent_lawful : AllLawful (ownPostEvent p s).1.slots := by
  unfold ownPostEvent
  split
  · dsimp only
    exact State.handOn_lawful h
  · exact h
  · exact h

theorem ownCancelEvent_lawful : AllLawful (ownCancelEvent p s).1.slots := by
  unfold ownCancelEvent
  split
  · exact h
  · split
    · exact h
    · dsimp only
      exact State.handOn_lawful (State.closeEntry_lawful h _ _ _)

theorem ownResumeQueue_lawful : AllLawful (ownResumeQueue p s).1.slots := by
  unfold ownResumeQueue
  split
  · dsimp only
    exact State.handOn_lawful (s := { s with teq := _ }) h
  · exact h

theorem ownSetSlot_lawful : AllLawful (ownSetSlot p s).1.slots := by
  unfold ownSetSlot
  split
  next k en _ _ =>
    split_ifs with hbad hbusy
    · exact h
    · exact h
    · dsimp only
      exact State.handOn_lawful (State.evaluate_lawful
          (allLawful_set h ((h k).configure s.puCtx (State.state_of_not_setSlotBusy hbusy) en _ _)))
  next => exact h
  next => exact h

theorem ownUnlockSlot_lawful : AllLawful (ownUnlockSlot p s).1.slots := by
  unfold ownUnlockSlot
  split
  next => exact h
  next k _ =>
    split_ifs with hs hdown
    · exact h
    · exact h
    · dsimp only
      exact State.handOn_lawful (State.evaluate_lawful (allLawful_set h ((h k).unlock s.puCtx (not_not.mp hs))))

theorem ownSetDemand_lawful : AllLawful (ownSetDemand p s).1.slots := by
  unfold ownSetDemand
  split <;> simp [State.handOn_lawful, h]

theorem ownWriteRule_lawful : AllLawful (ownWriteRule p s).1.slots := by
  simp only [ownWriteRule]
  (repeat' split) <;> simp [State.handOn_lawful, State.evaluate_lawful, h]

theorem ownClearTro_lawful : AllLawful (ownClearTro p s).1.slots := by
  unfold ownClearTro
  split <;> simp [h]

theorem ownReadCurrent_lawful (l : Link) : AllLawful (ownReadCurrent l p s).1.slots := by
  unfold ownReadCurrent
  split <;> exact h

theorem ownClearFlags_lawful : AllLawful (ownClearFlags p s).1.slots := by
  unfold ownClearFlags
  split <;> exact h

theorem ownClearFault_lawful : AllLawful (ownClearFault p s).1.slots := by
  unfold ownClearFault
  (repeat' split) <;> simp [State.handOn_lawful, State.clearLatch_slots, h]

theorem ownSetNoticeMask_lawful (l : Link) : AllLawful (ownSetNoticeMask l p s).1.slots := by
  unfold ownSetNoticeMask
  split <;> exact h

theorem ownTakeCommand_lawful (l : Link) : AllLawful (ownTakeCommand l p s).1.slots := by
  simp only [ownTakeCommand]
  (repeat' split) <;> simp [State.holderHandOn_lawful, h]

theorem ownSetParam_lawful : AllLawful (ownSetParam p s).1.slots := by
  simp only [ownSetParam]
  (repeat' split) <;> simp [State.storeParam, State.handOn_lawful, h]

end Owners

/-! ### Every command -/

theorem whenRunning_lawful {f : State → State} (hf : ∀ u : State, AllLawful u.slots → AllLawful (f u).slots) {s : State}
    (h : AllLawful s.slots) : AllLawful (whenRunning f s).slots := by
  unfold whenRunning
  split
  · exact h
  · exact hf s h

/-- Serving a request keeps the laws of the slots where its owner does. -/
theorem execServe_lawful {owner : List Byte → State → State × Option Answer} {l : Link} {r : Req}
    (howner : ∀ p {u : State}, AllLawful u.slots → AllLawful (owner p u).1.slots) {s : State} (h : AllLawful s.slots) :
    AllLawful (whenRunning (fun u => u.serve l r owner) s).slots :=
  whenRunning_lawful (fun _ hu => State.serve_keeps (P := fun u => AllLawful u.slots) (fun _ _ hu => hu) (fun p _ hu => howner p hu) hu) h

/-- An accepted level or an expiry of one unit keeps the laws of the slots where the unit's own event does. -/
theorem execSlotInput_lawful {k : SlotId} {sel : Slot → Filter} {b : Bool} {r : PuCtx → Filter → Slot → Slot × List Flag}
    (hr : ∀ c f {x : Slot}, x.Lawful → (r c f x).1.Lawful) {s : State} (h : AllLawful s.slots) :
    AllLawful (whenRunning (fun u =>
      match (sel (u.slots.get k)).accept b with
      | none => u
      | some f => u.slotEvent k (r u.puCtx f (u.slots.get k))) s).slots := by
  refine whenRunning_lawful (fun u hu => ?_) h
  split
  · exact hu
  · exact State.slotEvent_lawful hu k (hr _ _ (hu k))

theorem execSlotTimer_lawful {k : SlotId} {sel : Slot → Timer} {r : PuCtx → Slot → Slot × List Flag}
    (hr : ∀ c {x : Slot}, x.Lawful → (r c x).1.Lawful) {s : State} (h : AllLawful s.slots) :
    AllLawful (whenRunning (fun u =>
      if (sel (u.slots.get k)).isSome then u.slotEvent k (r u.puCtx (u.slots.get k)) else u) s).slots := by
  refine whenRunning_lawful (fun u hu => ?_) h
  split
  · exact State.slotEvent_lawful hu k (hr _ (hu k))
  · exact hu

theorem State.resetWith_lawful (pins : Pins) (pending : List Instr) : AllLawful (State.resetWith pins pending).slots :=
  State.slotLaw_iff.mp (State.resetWith_slotLaw pins pending)

theorem State.frameEnd_lawful {s : State} (h : AllLawful s.slots) (l : Link) : AllLawful (s.frameEnd l).slots := by
  unfold State.frameEnd
  split
  · exact h
  · simpa using h
  · split
    · exact State.resetWith_lawful _ _
    · simpa using h

/-- Every command keeps the laws of the slots. -/
theorem exec_lawful {c : Instr} {s t : State} (h : AllLawful s.slots) (he : exec c s = .next t) : AllLawful t.slots := by
  cases c with
  | powerOn pins => cases he; exact State.resetWith_lawful pins s.pending
  | rstNLow => cases he; exact State.resetWith_lawful s.pins s.pending
  | rstNRise =>
    cases he
    split
    · exact State.resetWith_lawful _ _
    · exact h
  | inputRawChange i =>
    cases he
    split
    · exact State.resetWith_lawful (s.rawLevel i).pins (s.rawLevel i).pending
    · exact State.rawLevel_lawful h i
  | frameSent l => cases he; exact whenRunning_lawful (fun _ hu => State.frameEnd_lawful hu l) h
  -- requests
  | readPosition | readQueue | readClosed | readLine | readSlot | readRule | readTarget | readBreaker | readPassage
  | readIce | getFlags | getStatus | readParam | resetPart => cases he; exact execServe_lawful (fun _ _ hu => hu) h
  | reportPosition => cases he; exact execServe_lawful ownReportPosition_lawful h
  | reverse => cases he; exact execServe_lawful ownReverse_lawful h
  | postEvent => cases he; exact execServe_lawful ownPostEvent_lawful h
  | cancelEvent => cases he; exact execServe_lawful ownCancelEvent_lawful h
  | resumeQueue => cases he; exact execServe_lawful ownResumeQueue_lawful h
  | setSlot => cases he; exact execServe_lawful ownSetSlot_lawful h
  | unlockSlot => cases he; exact execServe_lawful ownUnlockSlot_lawful h
  | setDemand => cases he; exact execServe_lawful ownSetDemand_lawful h
  | writeRule => cases he; exact execServe_lawful ownWriteRule_lawful h
  | clearTro => cases he; exact execServe_lawful ownClearTro_lawful h
  | readCurrent l => cases he; exact execServe_lawful (fun p _ hu => ownReadCurrent_lawful p hu l) h
  | clearFlags => cases he; exact execServe_lawful ownClearFlags_lawful h
  | clearFault => cases he; exact execServe_lawful ownClearFault_lawful h
  | setNoticeMask l => cases he; exact execServe_lawful (fun p _ hu => ownSetNoticeMask_lawful p hu l) h
  | takeCommand l => cases he; exact execServe_lawful (fun p _ hu => ownTakeCommand_lawful p hu l) h
  | setParam => cases he; exact execServe_lawful ownSetParam_lawful h
  -- events of one unit
  | downSwitchMade k =>
    cases he
    exact execSlotInput_lawful (r := fun c f x => Slot.downMade c { x with down := f })
      (fun c f x hx => (hx.withInputs f _ _ _).downMade c) h
  | downSwitchOpen k =>
    cases he
    exact execSlotInput_lawful (r := fun c f x => (Slot.downOpened c { x with down := f }, []))
      (fun c f x hx => (hx.withInputs f _ _ _).downOpened c) h
  | contactMade k =>
    cases he
    exact execSlotInput_lawful (r := fun c f x => (Slot.contactMade c { x with contact := f }, []))
      (fun c f x hx => (hx.withInputs _ f _ _).contactMade c) h
  | contactLost k =>
    cases he
    exact execSlotInput_lawful (r := fun _ f x => (Slot.contactLost { x with contact := f }, []))
      (fun _ f x hx => (hx.withInputs _ f _ _).contactLost) h
  | autodropTrip k =>
    cases he
    exact execSlotInput_lawful (r := fun c f x => Slot.autodropTrip c { x with add := f })
      (fun c f x hx => (hx.withInputs _ _ f _).autodropTrip c) h
  | autodropRelease k =>
    cases he
    exact execSlotInput_lawful (r := fun c f x => (Slot.autodropRelease c { x with add := f }, []))
      (fun c f x hx => (hx.withInputs _ _ f _).autodropRelease c) h
  | dsfMade k =>
    cases he
    exact execSlotInput_lawful (r := fun c f x => Slot.dsfMade c { x with dsf := f })
      (fun c f x hx => (hx.withInputs _ _ _ f).dsfMade c) h
  | dsfReleased k =>
    cases he
    exact execSlotInput_lawful (r := fun c f x => Slot.dsfReleased c { x with dsf := f })
      (fun c f x hx => (hx.withInputs _ _ _ f).dsfReleased c) h
  | raiseTimerExpiry k => cases he; exact execSlotTimer_lawful (fun c _ hx => hx.raiseExpiry c) h
  | lowerTimerExpiry k => cases he; exact execSlotTimer_lawful (r := fun _ => Slot.lowerExpiry) (fun _ _ hx => hx.lowerExpiry) h
  | retryTimerExpiry k =>
    cases he; exact execSlotTimer_lawful (r := fun c x => (x.retryExpiry c, [])) (fun c _ hx => hx.retryExpiry c) h
  | contactLossTimerExpiry k =>
    cases he; exact execSlotTimer_lawful (r := fun c x => (x.contactLossExpiry c, [])) (fun c _ hx => hx.contactLossExpiry c) h
  | travelTimerExpiry k => cases he; exact execSlotTimer_lawful (sel := fun x => x.dsc.travel) (fun c _ hx => hx.travelExpiry c) h
  -- the links
  | frameReceived | byteReceived =>
    cases he; exact whenRunning_lawful (fun u hu => by (repeat' split) <;> simp [State.receive_lawful, hu]) h
  | commandChangeEffect | selAcceptedChange | silenceTimerExpiry =>
    cases he
    refine whenRunning_lawful (fun u hu => ?_) h
    (repeat' split) <;> simp [State.holderHandOn_lawful, State.handOn_lawful, State.powerIfSilent_slots, hu]
  -- the estimate, and the timers of a passage
  | positionRefresh =>
    cases he
    refine whenRunning_lawful (fun u hu => ?_) h
    split
    · exact hu
    · exact State.estimateUpdate_lawful (by simpa using hu)
  | psqRampTimerExpiry | confirmTimerExpiry =>
    cases he
    refine whenRunning_lawful (fun u hu => ?_) h
    split <;> simp [State.handOn_lawful, State.psqRampExpiry_lawful, State.confirmExpiry_lawful, hu]
  -- gates of the Ice Unit, and a sample of the currents
  | gateEnd | scanCompletion =>
    cases he; exact whenRunning_lawful (fun u hu => by (repeat' split) <;> simp [State.gateEnded_lawful, hu]) h
  | csuSample amps =>
    cases he
    exact whenRunning_lawful (fun u hu => State.handOn_lawful (State.reportTotal_lawful (by simpa using hu))) h
  | overloadTimerExpiry =>
    cases he
    refine whenRunning_lawful (fun u hu => ?_) h
    split
    · split
      · exact hu
      · exact State.handOn_lawful (s := State.raise _ _) hu
    · exact hu
  -- an event of another block, and its hand-over
  | _ => cases he; exact whenRunning_lawful (fun u hu => by (repeat' split) <;> simp [State.handOn_lawful, hu]) h

theorem State.elapse_lawful (n : Nat) {s : State} (h : AllLawful s.slots) : AllLawful (s.elapse n).slots := by
  unfold State.elapse
  split
  · exact h
  · exact allLawful_map h fun _ hx => hx.after n

/-- Settles O41: an idle step runs the clocks of a record, which stand in no law, and every command keeps the laws. -/
theorem slotLawsKept : Obligations.SlotLawsKept := by
  intro s t hl h
  rw [State.slotLaw_iff] at hl ⊢
  unfold step at h
  split at h
  next =>
    cases h
    exact State.elapse_lawful 1 hl
  next c rest _ => exact exec_lawful (s := { s with pending := rest }) hl h

end Sys2Proof.Machine
end

section
/-! PROOFS. Each move of one unit as an equation (R62 to R78), and O39. -/

set_option Elab.async false

namespace Sys2Proof.Machine

/-! ### Roles and travels -/

/-- A FAILED disconnector leaves no role but STOW in effect (R61). -/
theorem roleFor_failed (r : Role) : roleFor r .failed = .stow := by cases r <;> rfl

theorem Role.needsClosed_eq (r : Role) : r.needsClosed = decide (r = .collect) := by cases r <;> rfl

section Moves
variable {x : Slot} (c : PuCtx)

/-- A travel starts: the command, the 1,500 ms, and STOW in effect meanwhile (R61, R73). -/
theorem Slot.startTravel_eq (x : Slot) (close : Bool) : x.startTravel close = { x with
    dsc := ⟨if close then .closing else .opening, close, some 1500000⟩, role := .stow } := by
  have hrole : roleFor x.tRole (if close then .closing else .opening) = .stow := by cases close <;> cases x.tRole <;> rfl
  unfold Slot.startTravel Slot.deriveRole
  rw [hrole]
  rfl

theorem Slot.travelling_iff : x.travelling = true ↔ x.dsc.state = .closing ∨ x.dsc.state = .opening := by
  simp [Slot.travelling]

theorem Slot.otherNeed_iff : x.otherNeed = true ↔ x.dsc.cmd ≠ decide (x.tRole = .collect) := by
  simp only [Slot.otherNeed, Role.needsClosed_eq, decide_eq_true_eq]
  exact ne_comm

/-! ### Raising -/

theorem Slot.canRaise_iff : x.canRaise = true ↔ (x.enabled = true ∧ x.tRole ≠ .stow ∧ x.role = x.tRole ∧ x.hold = .none ∧
    x.add.acc = false) ∧ x.travelling = false := by
  simp only [Slot.canRaise, Bool.and_eq_true, Bool.not_eq_true', decide_eq_true_eq]
  tauto

theorem Slot.enterRaising_of_open (h : x.contact.acc = false) : x.enterRaising c = { x with
    state := .raising, prv := c.approach, dmp := false, raise := ms c.raiseTimeout, retry := none, contactLoss := none } := by
  simp [Slot.enterRaising, h]

theorem Slot.enterRaising_of_made (h : x.contact.acc = true) : x.enterRaising c = { x with
    state := .up, prv := c.force x.tForce, dmp := false, raise := none, retry := none, contactLoss := none, retryCount := 0,
    retryPending := false } := by
  simp [Slot.enterRaising, Slot.enterUp, h]

theorem Slot.tryRaise_of_canRaise (h : x.canRaise = true) : x.tryRaise c = x.enterRaising c := if_pos h

theorem Slot.tryRaise_of_not (h : ¬ x.canRaise = true) : x.tryRaise c = x := if_neg h

/-! ### A role applied -/

theorem Slot.applyDown_of_travel (h : x.dsc.state = .closing ∨ x.dsc.state = .opening) : x.applyDown c = x := by
  rcases h with h | h <;> simp [Slot.applyDown, h]

/-- The disconnector is where the target role has it: the raise test is made (R63, R76). -/
theorem Slot.applyDown_in_place (h : (x.dsc.state = .opened ∧ x.tRole ≠ .collect) ∨ (x.dsc.state = .closed ∧ x.tRole = .collect)) :
    x.applyDown c = x.tryRaise c := by
  rcases h with ⟨hd, hr⟩ | ⟨hd, hr⟩ <;> simp [Slot.applyDown, hd, hr]

theorem Slot.applyDown_opened_collect (hd : x.dsc.state = .opened) (hr : x.tRole = .collect) :
    x.applyDown c = x.startTravel true := by simp [Slot.applyDown, hd, hr]

theorem Slot.applyDown_closed_other (hd : x.dsc.state = .closed) (hr : x.tRole ≠ .collect) :
    x.applyDown c = x.startTravel false := by simp [Slot.applyDown, hd, hr]

theorem Slot.applyUp_of_stow (h : x.tRole = .stow) : x.applyUp c = x.enterLowering c := if_pos h

/-- The disconnector is where the target role has it: UP stays (R77). -/
theorem Slot.applyUp_in_place (h : (x.tRole = .collect ∧ x.dsc.state = .closed) ∨ (x.tRole = .sweep ∧ x.dsc.state = .opened)) :
    x.applyUp c = x := by
  rcases h with ⟨hr, hd⟩ | ⟨hr, hd⟩ <;> simp [Slot.applyUp, hd, hr]

theorem Slot.applyUp_of_other (h : (x.tRole = .collect ∧ x.dsc.state = .opened) ∨ (x.tRole = .sweep ∧ x.dsc.state = .closed)) :
    x.applyUp c = if c.brkOpen then x.startTravel (decide (x.tRole = .collect)) else x.enterLowering c := by
  rcases h with ⟨hr, hd⟩ | ⟨hr, hd⟩ <;> simp [Slot.applyUp, hd, hr]

/-! ### Lowering and its end -/

theorem Slot.enterLowering_of_open (h : x.down.acc = false) : x.enterLowering c = { x with
    state := .lowering, prv := 0, dmp := decide (x.hold = .fast), raise := none, retry := none, contactLoss := none,
    lower := ms c.lowerTimeout, roleDue := false } := by
  simp [Slot.enterLowering, h]

theorem Slot.enterLowering_of_made (h : x.down.acc = true) : x.enterLowering c = Slot.arriveDown c { x with
    state := .lowering, prv := 0, dmp := decide (x.hold = .fast), raise := none, retry := none, contactLoss := none,
    lower := ms c.lowerTimeout, roleDue := false } := by
  simp [Slot.enterLowering, h]

/-- The end of a LOWERING waits for a retry: the raise that failed may be tried again, and no role was delivered since that needs
another disconnector position (R65, R78; log 15). -/
def Slot.AwaitsRetry (x : Slot) : Prop :=
  x.retryPending = true ∧ x.tRole ≠ .stow ∧ x.hold = .none ∧ (x.roleDue = false ∨ x.dsc.cmd = decide (x.tRole = .collect))

theorem Slot.applyRetryWait_eq (x : Slot) : x.applyRetryWait c =
    if x.tRole = .stow ∨ x.dsc.cmd ≠ decide (x.tRole = .collect) then x.enterDown c else x := by
  simp only [Slot.applyRetryWait, Slot.otherNeed_iff]

theorem Slot.arriveDown_of_awaitsRetry (h : x.AwaitsRetry) : x.arriveDown c = x.enterRetryWait c := by
  obtain ⟨hp, hr, hh, hdue⟩ := h
  have hwait : (x.enterRetryWait c).applyRetryWait c = x.enterRetryWait c ∨ x.roleDue = false := by
    refine hdue.symm.imp_left fun hcmd => ?_
    rw [Slot.applyRetryWait_eq]
    exact if_neg fun h => h.elim hr fun hn => hn hcmd
  rcases hwait with hw | hw <;> simp [Slot.arriveDown, hp, hr, hh, hw]

/-- What RETRY_WAIT sets, DOWN sets again. -/
theorem Slot.enterDown_enterRetryWait (x : Slot) : (x.enterRetryWait c).enterDown c = x.enterDown c := rfl

theorem Slot.arriveDown_of_not (h : ¬ x.AwaitsRetry) : x.arriveDown c = x.enterDown c := by
  unfold Slot.arriveDown
  split
  next hp =>
    have hdue : x.roleDue = true ∧ x.dsc.cmd ≠ decide (x.tRole = .collect) := by
      simpa [Slot.AwaitsRetry, hp] using h
    rw [if_pos hdue.1, Slot.applyRetryWait_eq, if_pos (.inr hdue.2), Slot.enterDown_enterRetryWait]
  next => rfl

/-! ### Deliveries -/

/-- The record with a delivery written: its target role and force, the role in effect, and the setpoint in UP at a new force (R60, R61,
R67). -/
def Slot.delivered (t : RoleForce) (x : Slot) : Slot :=
  { x with tRole := t.role, tForce := t.force, role := roleFor t.role x.dsc.state,
           prv := if x.state = .up ∧ t.force ≠ x.tForce then c.force t.force else x.prv }

theorem Slot.deliver_eq (t : RoleForce) (x : Slot) : x.deliver c t =
    if t.role = x.tRole then x.delivered c t else (x.delivered c t).applyChanged c := by
  simp only [Slot.deliver, Slot.delivered, Slot.deriveRole]
  split_ifs <;> rfl

/-! A changed role acts by the state that the record has (R76 to R78). -/

theorem Slot.applyChanged_of_down (hs : x.state = .down) : x.applyChanged c = x.applyDown c := by simp only [Slot.applyChanged, hs]

theorem Slot.applyChanged_of_up (hs : x.state = .up) : x.applyChanged c = x.applyUp c := by simp only [Slot.applyChanged, hs]

theorem Slot.applyChanged_of_raising (hs : x.state = .raising) :
    x.applyChanged c = if x.tRole = .stow then x.enterLowering c else x := by simp only [Slot.applyChanged, hs]

theorem Slot.applyChanged_of_retryWait (hs : x.state = .retryWait) :
    x.applyChanged c = if x.tRole = .stow ∨ x.dsc.cmd ≠ decide (x.tRole = .collect) then x.enterDown c else x := by
  simp only [Slot.applyChanged, hs, Slot.applyRetryWait_eq]

theorem Slot.applyChanged_of_lowering (hs : x.state = .lowering) : x.applyChanged c = { x with roleDue := true } := by
  simp only [Slot.applyChanged, hs]

/-- DISABLED, DROPPED and LOCKED take note of a role alone. -/
theorem Slot.applyChanged_of_idle (hs : x.state ∈ [SlotState.disabled, .dropped, .locked]) : x.applyChanged c = x := by
  simp only [List.mem_cons, List.not_mem_nil, or_false] at hs
  rcases hs with hs | hs | hs <;> simp only [Slot.applyChanged, hs]

/-! ### Holds -/

section Hold
variable (v : SeqHold)

theorem Slot.setHold_of_raised (hs : x.state = .raising ∨ x.state = .up) : x.setHold c v = Slot.enterLowering c { x with hold := v } := by
  rcases hs with hs | hs <;> simp only [Slot.setHold, hs]

theorem Slot.setHold_of_lowering (hs : x.state = .lowering) :
    x.setHold c v = { x with hold := v, dmp := x.dmp || decide (v = .fast), retryPending := false } := by
  simp only [Slot.setHold, hs]

theorem Slot.setHold_of_retryWait (hs : x.state = .retryWait) : x.setHold c v = Slot.enterDown c { x with hold := v } := by
  simp only [Slot.setHold, hs]

theorem Slot.setHold_of_locked (hs : x.state = .locked) : x.setHold c v =
    if x.housed then { x with hold := v } else { x with hold := v, dmp := x.dmp || decide (v = .fast) } := by
  simp only [Slot.setHold, hs]

theorem Slot.setHold_of_idle (hs : x.state ∈ [SlotState.dropped, .down, .disabled]) : x.setHold c v = { x with hold := v } := by
  simp only [List.mem_cons, List.not_mem_nil, or_false] at hs
  rcases hs with hs | hs | hs <;> simp only [Slot.setHold, hs]

end Hold

theorem Slot.housed_iff : x.housed = true ↔ x.down.acc = true ∧ x.prv = 0 := by simp [Slot.housed]

theorem Slot.applyRole_of_down (hs : x.state = .down) : x.applyRole c = x.applyDown c := by simp only [Slot.applyRole, hs]

theorem Slot.applyRole_of_up (hs : x.state = .up) : x.applyRole c = x.applyUp c := by simp only [Slot.applyRole, hs]

theorem Slot.applyRole_of_other (hd : x.state ≠ .down) (hu : x.state ≠ .up) : x.applyRole c = x := by
  unfold Slot.applyRole
  split
  next hs => exact absurd hs hd
  next hs => exact absurd hs hu
  all_goals rfl

end Moves

/-- Settles O39: the tables of a role applied, of a delivery and of a hold, each a rule of the moves above. -/
theorem rolesAreAppliedByTheTables : Obligations.RolesAreAppliedByTheTables := by
  intro c x travel raises raising up
  refine ⟨Slot.applyDown_of_travel c, fun hd hr => ?_, fun hd hr => ?_, fun hd hr => ?_, fun h => ?_, Slot.applyUp_of_stow c,
    fun hr hd => Slot.applyUp_in_place c (.inl ⟨hr, hd⟩), fun hr hd => Slot.applyUp_in_place c (.inr ⟨hr, hd⟩), fun h => ?_,
    Slot.enterLowering_of_open c, ?_⟩
  · rw [Slot.applyDown_in_place c (.inl ⟨hd, by simp [hr]⟩), Slot.tryRaise_of_not c (by simp [Slot.canRaise_iff, hr])]
  · rw [Slot.applyDown_opened_collect c hd hr, Slot.startTravel_eq]
  · rw [Slot.applyDown_closed_other c hd hr, Slot.startTravel_eq]
  · have hplace : (x.dsc.state = .opened ∧ x.tRole ≠ .collect) ∨ (x.dsc.state = .closed ∧ x.tRole = .collect) :=
      h.imp_left fun ⟨hd, hr⟩ => ⟨hd, by simp [hr]⟩
    have hstill : x.travelling = false := by rcases h with ⟨hd, _⟩ | ⟨hd, _⟩ <;> simp [Slot.travelling, hd]
    have hraise : x.canRaise = true ↔ raises := by simp [Slot.canRaise_iff, hstill, raises]
    rw [Slot.applyDown_in_place c hplace]
    refine ⟨fun hr hc => ?_, fun hr hc => ?_, fun hr => Slot.tryRaise_of_not c (mt hraise.mp hr)⟩
    · rw [Slot.tryRaise_of_canRaise c (hraise.mpr hr), Slot.enterRaising_of_open c hc]
      rfl
    · rw [Slot.tryRaise_of_canRaise c (hraise.mpr hr), Slot.enterRaising_of_made c hc]
  · rw [Slot.applyUp_of_other c h]
    simp only [Slot.startTravel_eq, travel]
  · intro toDown
    refine ⟨fun t => ?_, fun v hv => ?_, ?_⟩
    · intro y otherNeed
      have hy : x.delivered c t = y := rfl
      rw [Slot.deliver_eq, hy]
      refine ⟨fun hr => if_pos hr, fun hr => ?_⟩
      rw [if_neg hr]
      exact ⟨Slot.applyChanged_of_down c (x := y), Slot.applyChanged_of_up c (x := y), Slot.applyChanged_of_raising c (x := y),
        Slot.applyChanged_of_retryWait c (x := y), Slot.applyChanged_of_lowering c (x := y), Slot.applyChanged_of_idle c (x := y)⟩
    · intro y fast
      refine ⟨Slot.setHold_of_raised c v, Slot.setHold_of_lowering c v, Slot.setHold_of_retryWait c v, fun hs hh => ?_,
        fun hs hd hp => ?_, Slot.setHold_of_idle c v⟩
      · rw [Slot.setHold_of_locked c v hs, if_neg (mt Slot.housed_iff.mp hh)]
      · rw [Slot.setHold_of_locked c v hs, if_pos (Slot.housed_iff.mpr ⟨hd, hp⟩)]
    · intro y
      exact ⟨Slot.applyRole_of_down c (x := y), Slot.applyRole_of_up c (x := y), Slot.applyRole_of_other c (x := y)⟩

end Sys2Proof.Machine
end

section
/-! PROOFS. The events of one unit: its filtered inputs and its timers (R63 to R75): O35, O36, O37 and O38. -/

set_option Elab.async false

namespace Sys2Proof.Machine

/-! ### An event and its hand-over -/

theorem State.puCtx_force (s : State) (f : Force) : s.puCtx.force f = s.forceKpa f := by cases f <;> rfl

theorem State.slotEvent_eq_slotNow (s : State) (k : SlotId) (z : Slot) (fs : List Flag) :
    s.slotEvent k (z, fs) = (s.slotNow k z fs).handOn := rfl

section Events
variable {s : State} {k : SlotId} {z : Slot} {fs : List Flag} (hrun : s.inReset = false)
include hrun

/-- A level that its filter has waited for is accepted, and the unit's answer to it is handed on (R55, R79). -/
theorem slotInput_of_due {sel : Slot → Filter} {b : Bool} (hdue : (sel (s.slots.get k)).due b)
    {r : State → Filter → Slot × List Flag} (hr : r s (.at b) = (z, fs)) :
    whenRunning (fun u =>
      match (sel (u.slots.get k)).accept b with
      | none => u
      | some f => u.slotEvent k (r u f)) s = (s.slotNow k z fs).handOn := by
  simp only [whenRunning_of_running hrun, Filter.accept_of_due hdue, hr, State.slotEvent_eq_slotNow]

/-- A timer that runs is due when its expiry comes, and the unit's answer is handed on (R79; log 3). -/
theorem slotTimer_of_running {sel : Slot → Timer} (hdue : (sel (s.slots.get k)).isSome = true) {r : State → Slot × List Flag}
    (hr : r s = (z, fs)) :
    whenRunning (fun u => if (sel (u.slots.get k)).isSome then u.slotEvent k (r u) else u) s = (s.slotNow k z fs).handOn := by
  simp only [whenRunning_of_running hrun, hdue, if_true, hr, State.slotEvent_eq_slotNow]

theorem exec_downSwitchMade (hdue : (s.slots.get k).down.due true)
    (hr : Slot.downMade s.puCtx { s.slots.get k with down := .at true } = (z, fs)) :
    exec (.downSwitchMade k) s = .next (s.slotNow k z fs).handOn :=
  congrArg Host.Outcome.next (slotInput_of_due hrun (sel := Slot.down) hdue
    (r := fun u f => Slot.downMade u.puCtx { u.slots.get k with down := f }) hr)

theorem exec_downSwitchOpen (hdue : (s.slots.get k).down.due false)
    (hr : Slot.downOpened s.puCtx { s.slots.get k with down := .at false } = z) :
    exec (.downSwitchOpen k) s = .next (s.slotNow k z []).handOn :=
  congrArg Host.Outcome.next (slotInput_of_due hrun (sel := Slot.down) hdue
    (r := fun u f => (Slot.downOpened u.puCtx { u.slots.get k with down := f }, [])) (congrArg (·, []) hr))

theorem exec_contactMade (hdue : (s.slots.get k).contact.due true)
    (hr : Slot.contactMade s.puCtx { s.slots.get k with contact := .at true } = z) :
    exec (.contactMade k) s = .next (s.slotNow k z []).handOn :=
  congrArg Host.Outcome.next (slotInput_of_due hrun (sel := Slot.contact) hdue
    (r := fun u f => (Slot.contactMade u.puCtx { u.slots.get k with contact := f }, [])) (congrArg (·, []) hr))

theorem exec_contactLost (hdue : (s.slots.get k).contact.due false)
    (hr : Slot.contactLost { s.slots.get k with contact := .at false } = z) :
    exec (.contactLost k) s = .next (s.slotNow k z []).handOn :=
  congrArg Host.Outcome.next (slotInput_of_due hrun (sel := Slot.contact) hdue
    (r := fun u f => (Slot.contactLost { u.slots.get k with contact := f }, [])) (congrArg (·, []) hr))

theorem exec_autodropTrip (hdue : (s.slots.get k).add.due true)
    (hr : Slot.autodropTrip s.puCtx { s.slots.get k with add := .at true } = (z, fs)) :
    exec (.autodropTrip k) s = .next (s.slotNow k z fs).handOn :=
  congrArg Host.Outcome.next (slotInput_of_due hrun (sel := Slot.add) hdue
    (r := fun u f => Slot.autodropTrip u.puCtx { u.slots.get k with add := f }) hr)

theorem exec_autodropRelease (hdue : (s.slots.get k).add.due false)
    (hr : Slot.autodropRelease s.puCtx { s.slots.get k with add := .at false } = z) :
    exec (.autodropRelease k) s = .next (s.slotNow k z []).handOn :=
  congrArg Host.Outcome.next (slotInput_of_due hrun (sel := Slot.add) hdue
    (r := fun u f => (Slot.autodropRelease u.puCtx { u.slots.get k with add := f }, [])) (congrArg (·, []) hr))

theorem exec_dsfMade (hdue : (s.slots.get k).dsf.due true)
    (hr : Slot.dsfMade s.puCtx { s.slots.get k with dsf := .at true } = (z, fs)) :
    exec (.dsfMade k) s = .next (s.slotNow k z fs).handOn :=
  congrArg Host.Outcome.next (slotInput_of_due hrun (sel := Slot.dsf) hdue
    (r := fun u f => Slot.dsfMade u.puCtx { u.slots.get k with dsf := f }) hr)

theorem exec_dsfReleased (hdue : (s.slots.get k).dsf.due false)
    (hr : Slot.dsfReleased s.puCtx { s.slots.get k with dsf := .at false } = (z, fs)) :
    exec (.dsfReleased k) s = .next (s.slotNow k z fs).handOn :=
  congrArg Host.Outcome.next (slotInput_of_due hrun (sel := Slot.dsf) hdue
    (r := fun u f => Slot.dsfReleased u.puCtx { u.slots.get k with dsf := f }) hr)

theorem exec_raiseTimerExpiry (hdue : (s.slots.get k).raise.isSome = true) (hr : (s.slots.get k).raiseExpiry s.puCtx = (z, fs)) :
    exec (.raiseTimerExpiry k) s = .next (s.slotNow k z fs).handOn :=
  congrArg Host.Outcome.next (slotTimer_of_running hrun (sel := Slot.raise) hdue
    (r := fun u => (u.slots.get k).raiseExpiry u.puCtx) hr)

theorem exec_lowerTimerExpiry (hdue : (s.slots.get k).lower.isSome = true) (hr : (s.slots.get k).lowerExpiry = (z, fs)) :
    exec (.lowerTimerExpiry k) s = .next (s.slotNow k z fs).handOn :=
  congrArg Host.Outcome.next (slotTimer_of_running hrun (sel := Slot.lower) hdue (r := fun u => (u.slots.get k).lowerExpiry) hr)

theorem exec_retryTimerExpiry (hdue : (s.slots.get k).retry.isSome = true) (hr : (s.slots.get k).retryExpiry s.puCtx = z) :
    exec (.retryTimerExpiry k) s = .next (s.slotNow k z []).handOn :=
  congrArg Host.Outcome.next (slotTimer_of_running hrun (sel := Slot.retry) hdue
    (r := fun u => ((u.slots.get k).retryExpiry u.puCtx, [])) (congrArg (·, []) hr))

theorem exec_contactLossTimerExpiry (hdue : (s.slots.get k).contactLoss.isSome = true)
    (hr : (s.slots.get k).contactLossExpiry s.puCtx = z) :
    exec (.contactLossTimerExpiry k) s = .next (s.slotNow k z []).handOn :=
  congrArg Host.Outcome.next (slotTimer_of_running hrun (sel := Slot.contactLoss) hdue
    (r := fun u => ((u.slots.get k).contactLossExpiry u.puCtx, [])) (congrArg (·, []) hr))

theorem exec_travelTimerExpiry (hdue : (s.slots.get k).dsc.travel.isSome = true) (hr : (s.slots.get k).travelExpiry s.puCtx = (z, fs)) :
    exec (.travelTimerExpiry k) s = .next (s.slotNow k z fs).handOn :=
  congrArg Host.Outcome.next (slotTimer_of_running hrun (sel := fun x => x.dsc.travel) hdue
    (r := fun u => (u.slots.get k).travelExpiry u.puCtx) hr)

end Events

/-! ### The down switch -/

section Slot
variable {x : Slot} (c : PuCtx)

theorem Slot.downMade_of_lowering (hs : x.state = .lowering) : x.downMade c = (x.arriveDown c, []) := by
  simp only [Slot.downMade, hs]

theorem Slot.downMade_of_dropped (hs : x.state = .dropped) : x.downMade c =
    ({ x with state := .locked, dmp := false, lower := none, locks := { x.locks with autodrop := true } }, [.slotLocked]) := by
  simp only [Slot.downMade, hs]

theorem Slot.downMade_of_locked (hs : x.state = .locked) : x.downMade c = ({ x with lower := none, dmp := x.locks.stuckUp }, []) := by
  simp only [Slot.downMade, hs]

theorem Slot.downMade_of_other (hs : x.state ∉ [SlotState.lowering, .dropped, .locked]) : x.downMade c = (x, []) := by
  cases h : x.state <;> simp_all [Slot.downMade]

theorem Slot.downOpened_of_down (hs : x.state = .down) : x.downOpened c = x.enterLowering c := by simp only [Slot.downOpened, hs]

theorem Slot.downOpened_of_retryWait (hs : x.state = .retryWait) :
    x.downOpened c = Slot.enterLowering c { x with retryPending := true } := by simp only [Slot.downOpened, hs]

theorem Slot.downOpened_of_locked (hs : x.state = .locked) :
    x.downOpened c = if x.locks.stuckUp then x else { x with lower := ms c.lowerTimeout } := by simp only [Slot.downOpened, hs]

theorem Slot.downOpened_of_other (hs : x.state ∉ [SlotState.down, .retryWait, .locked]) : x.downOpened c = x := by
  cases h : x.state <;> simp_all [Slot.downOpened]

end Slot

/-- Settles O35: the table of the down switch by the state of the slot, and the end of a LOWERING by what it awaits. -/
theorem downSwitchEvents : Obligations.DownSwitchEvents := by
  intro s k hrun x lowerMs
  refine ⟨fun hdue => ?_, fun hdue => ?_⟩
  · intro y retry
    refine ⟨fun hs hretry => ?_, fun hs hretry => ?_, fun hs => ?_, fun hs => ?_, fun hs => ?_⟩
    · refine exec_downSwitchMade hrun hdue ((Slot.downMade_of_lowering _ (x := y) hs).trans ?_)
      rw [Slot.arriveDown_of_awaitsRetry _ (x := y) hretry]
      rfl
    · refine exec_downSwitchMade hrun hdue ((Slot.downMade_of_lowering _ (x := y) hs).trans ?_)
      rw [Slot.arriveDown_of_not _ (x := y) hretry]
      rfl
    · exact exec_downSwitchMade hrun hdue (Slot.downMade_of_dropped _ (x := y) hs)
    · exact exec_downSwitchMade hrun hdue (Slot.downMade_of_locked _ (x := y) hs)
    · exact exec_downSwitchMade hrun hdue (Slot.downMade_of_other _ (x := y) hs)
  · intro y falling
    refine ⟨fun hs => ?_, fun hs => ?_, fun hs => ?_, fun hs => ?_⟩
    · exact exec_downSwitchOpen hrun hdue ((Slot.downOpened_of_down _ (x := y) hs).trans (Slot.enterLowering_of_open _ rfl))
    · exact exec_downSwitchOpen hrun hdue ((Slot.downOpened_of_retryWait _ (x := y) hs).trans (Slot.enterLowering_of_open _ rfl))
    · exact exec_downSwitchOpen hrun hdue (Slot.downOpened_of_locked _ (x := y) hs)
    · exact exec_downSwitchOpen hrun hdue (Slot.downOpened_of_other _ (x := y) hs)

/-! ### The contact switch and the auto-drop line -/

section Slot
variable {x : Slot} (c : PuCtx)

theorem Slot.contactMade_of_raising (hs : x.state = .raising) : x.contactMade c = (x.enterUp c).applyUp c := by
  simp only [Slot.contactMade, hs]

theorem Slot.contactMade_of_loss (hs : x.state = .up) (hl : x.contactLoss.isSome = true) :
    x.contactMade c = { x with contactLoss := none, contactLosses := min 65535 (x.contactLosses + 1) } := by
  simp only [Slot.contactMade, hs, hl, if_true]

theorem Slot.contactMade_of_other (hr : x.state ≠ .raising) (hu : ¬ (x.state = .up ∧ x.contactLoss.isSome = true)) :
    x.contactMade c = x := by
  unfold Slot.contactMade
  split
  next hs => exact absurd hs hr
  next hs => exact if_neg fun hl => hu ⟨hs, hl⟩
  all_goals rfl

theorem Slot.contactLost_eq (x : Slot) : x.contactLost = { x with
    contactLoss := if x.state = .up then some 1000000 else x.contactLoss } := by
  unfold Slot.contactLost
  split <;> rfl

/-- A trip in RAISING, UP and LOWERING drops the unit (R71). -/
theorem Slot.autodropTrip_of_raised (hs : x.state ∈ [SlotState.raising, .up, .lowering]) : x.autodropTrip c = x.drop c := by
  simp only [List.mem_cons, List.not_mem_nil, or_false] at hs
  rcases hs with hs | hs | hs <;> simp only [Slot.autodropTrip, hs]

theorem Slot.drop_of_open (hd : x.down.acc = false) : x.drop c = ({ x with
    state := .dropped, prv := 0, dmp := true, raise := none, contactLoss := none,
    lower := if x.state = .lowering then x.lower else ms c.lowerTimeout, retryPending := false }, [.autodrop]) := by
  simp [Slot.drop, hd]

/-- Dropped onto a made down switch, the unit locks at once (R71; log 12). -/
theorem Slot.drop_of_made (hd : x.down.acc = true) : x.drop c = ({ x with
    state := .locked, prv := 0, dmp := false, raise := none, contactLoss := none, lower := none, retryPending := false,
    locks := { x.locks with autodrop := true } }, [.autodrop, .slotLocked]) := by
  simp [Slot.drop, Slot.downMade, hd]

theorem Slot.autodropTrip_of_locked (hs : x.state = .locked) (hh : x.housed = false) : x.autodropTrip c =
    ({ x with locks := { x.locks with autodrop := true }, dmp := true }, [.autodrop]) := by
  simp [Slot.autodropTrip, hs, hh]

theorem Slot.autodropTrip_of_idle
    (h : x.state ∈ [SlotState.disabled, .down, .dropped, .retryWait] ∨ (x.state = .locked ∧ x.housed = true)) :
    x.autodropTrip c = (x, []) := by
  cases hs : x.state <;> simp_all [Slot.autodropTrip]

/-- DOWN makes the raise test at a release, and RETRY_WAIT does once its retry timer has expired (R63, R65). -/
theorem Slot.autodropRelease_of_waiting (h : x.state = .down ∨ (x.state = .retryWait ∧ x.retry = none)) :
    x.autodropRelease c = x.tryRaise c := by
  rcases h with hs | ⟨hs, hr⟩ <;> simp [Slot.autodropRelease, *]

theorem Slot.autodropRelease_of_other (hd : x.state ≠ .down) (hw : ¬ (x.state = .retryWait ∧ x.retry = none)) :
    x.autodropRelease c = x := by
  unfold Slot.autodropRelease
  split
  next hs => exact absurd hs hd
  next hs => exact if_neg fun hr => hw ⟨hs, Option.isNone_iff_eq_none.mp hr⟩
  all_goals rfl

end Slot

/-- Settles O36: the tables of the contact switch and of the auto-drop line by the state of the slot. -/
theorem contactAndAutodropEvents : Obligations.ContactAndAutodropEvents := by
  intro s k hrun x
  refine ⟨fun hdue => ?_, fun hdue => exec_contactLost hrun hdue (Slot.contactLost_eq _), fun hdue => ?_, fun hdue => ?_⟩
  · intro y
    refine ⟨fun hs => ?_, fun hs hl => ?_, fun hr hu => ?_⟩
    · refine exec_contactMade hrun hdue ((Slot.contactMade_of_raising _ (x := y) hs).trans ?_)
      rw [Slot.enterUp, State.puCtx_force]
    · exact exec_contactMade hrun hdue (Slot.contactMade_of_loss _ (x := y) hs hl)
    · exact exec_contactMade hrun hdue (Slot.contactMade_of_other _ (x := y) hr hu)
  · intro y
    refine ⟨fun hs hd => ?_, fun hs hd => ?_, fun hs hh => ?_, fun h => ?_⟩
    · exact exec_autodropTrip hrun hdue ((Slot.autodropTrip_of_raised _ (x := y) hs).trans (Slot.drop_of_open _ (x := y) hd))
    · exact exec_autodropTrip hrun hdue ((Slot.autodropTrip_of_raised _ (x := y) hs).trans (Slot.drop_of_made _ (x := y) hd))
    · exact exec_autodropTrip hrun hdue (Slot.autodropTrip_of_locked _ (x := y) hs hh)
    · exact exec_autodropTrip hrun hdue (Slot.autodropTrip_of_idle _ (x := y) h)
  · intro y
    refine ⟨fun h => ?_, fun hd hw => ?_⟩
    · exact exec_autodropRelease hrun hdue (Slot.autodropRelease_of_waiting _ (x := y) h)
    · exact exec_autodropRelease hrun hdue (Slot.autodropRelease_of_other _ (x := y) hd hw)

/-! ### The disconnector -/

section Slot
variable {x : Slot} (c : PuCtx)

/-- The record with its disconnector FAILED: the command released where R75 allows, STOW in effect (R61, R75). -/
def Slot.withFailedDsc (x : Slot) : Slot :=
  { x with dsc := ⟨.failed, x.dsc.cmd && !(decide (x.state = .down) || decide (x.state = .disabled) || c.brkOpen), none⟩,
           role := .stow }

theorem Slot.failDsc_of_not_enabled (he : x.enabled = false) : x.failDsc c = (x.withFailedDsc c, []) := by
  simp [Slot.failDsc, Slot.withFailedDsc, Slot.deriveRole, roleFor_failed, he]

theorem Slot.failDsc_of_locked (he : x.enabled = true) (hs : x.state = .locked) :
    x.failDsc c = ({ x.withFailedDsc c with locks := { x.locks with dscFail := true } }, []) := by
  simp [Slot.failDsc, Slot.withFailedDsc, Slot.deriveRole, roleFor_failed, he, hs]

theorem Slot.failDsc_of_not_locked (he : x.enabled = true) (hs : x.state ≠ .locked) : x.failDsc c = ({ x.withFailedDsc c with
    state := .locked, locks := { x.locks with dscFail := true }, prv := 0, dmp := x.dmp && !x.down.acc, raise := none,
    retry := none, contactLoss := none, lower := if x.down.acc then none else ms c.lowerTimeout }, [.slotLocked]) := by
  simp [Slot.failDsc, Slot.withFailedDsc, Slot.deriveRole, roleFor_failed, he, hs]

theorem Slot.dsfMade_of_closing (hd : x.dsc.state = .closing) :
    x.dsfMade c = (Slot.applyRole c (Slot.deriveRole { x with dsc := ⟨.closed, x.dsc.cmd, none⟩ }), []) := by
  simp only [Slot.dsfMade, hd]

theorem Slot.dsfMade_of_opened (hd : x.dsc.state = .opened) : x.dsfMade c = x.failDsc c := by simp only [Slot.dsfMade, hd]

theorem Slot.dsfMade_of_other (hd : x.dsc.state ∈ [DscState.closed, .opening, .failed]) : x.dsfMade c = (x, []) := by
  simp only [List.mem_cons, List.not_mem_nil, or_false] at hd
  rcases hd with hd | hd | hd <;> simp only [Slot.dsfMade, hd]

theorem Slot.dsfReleased_of_opening (hd : x.dsc.state = .opening) :
    x.dsfReleased c = (Slot.applyRole c (Slot.deriveRole { x with dsc := ⟨.opened, x.dsc.cmd, none⟩ }), []) := by
  simp only [Slot.dsfReleased, hd]

theorem Slot.dsfReleased_of_closed (hd : x.dsc.state = .closed) : x.dsfReleased c = x.failDsc c := by simp only [Slot.dsfReleased, hd]

theorem Slot.dsfReleased_of_other (hd : x.dsc.state ∈ [DscState.opened, .closing, .failed]) : x.dsfReleased c = (x, []) := by
  simp only [List.mem_cons, List.not_mem_nil, or_false] at hd
  rcases hd with hd | hd | hd <;> simp only [Slot.dsfReleased, hd]

theorem Slot.travelExpiry_of_travel (hd : x.dsc.state = .closing ∨ x.dsc.state = .opening) (ht : x.dsc.travel.isSome = true) :
    x.travelExpiry c = x.failDsc c := if_pos ⟨Slot.travelling_iff.mpr hd, ht⟩

end Slot

/-- Settles O37: a confirmation, a change in a confirmed state and an expiry, with the entry to FAILED said once for all three. -/
theorem disconnectorEvents : Obligations.DisconnectorEvents := by
  intro s k hrun x failed lockedFrom fails
  have hfails {i : Instr} (f : Filter) (hexec : ∀ {z fs}, Slot.failDsc s.puCtx { x with dsf := f } = (z, fs) →
      exec i s = .next (s.slotNow k z fs).handOn) : fails i { x with dsf := f } :=
    ⟨fun he => hexec (Slot.failDsc_of_not_enabled _ (x := { x with dsf := f }) he),
      fun he hs => hexec (Slot.failDsc_of_locked _ (x := { x with dsf := f }) he hs),
      fun he hs => hexec (Slot.failDsc_of_not_locked _ (x := { x with dsf := f }) he hs)⟩
  refine ⟨fun hdue => ?_, fun hdue => ?_, fun ht hd => ?_⟩
  · intro y
    refine ⟨fun hd => ?_, fun hd => ?_, fun hd => ?_⟩
    · exact exec_dsfMade hrun hdue (Slot.dsfMade_of_closing _ (x := y) hd)
    · exact hfails _ fun h => exec_dsfMade hrun hdue ((Slot.dsfMade_of_opened _ (x := y) hd).trans h)
    · exact exec_dsfMade hrun hdue (Slot.dsfMade_of_other _ (x := y) hd)
  · intro y
    refine ⟨fun hd => ?_, fun hd => ?_, fun hd => ?_⟩
    · exact exec_dsfReleased hrun hdue (Slot.dsfReleased_of_opening _ (x := y) hd)
    · exact hfails _ fun h => exec_dsfReleased hrun hdue ((Slot.dsfReleased_of_closed _ (x := y) hd).trans h)
    · exact exec_dsfReleased hrun hdue (Slot.dsfReleased_of_other _ (x := y) hd)
  · exact hfails x.dsf fun h => exec_travelTimerExpiry hrun ht ((Slot.travelExpiry_of_travel _ hd ht).trans h)

/-! ### The slot timers -/

section Slot
variable {x : Slot} (c : PuCtx)

theorem Slot.raiseExpiry_of_retry (hs : x.state = .raising) (ht : x.raise.isSome = true) (hn : x.retryCount < 2) :
    x.raiseExpiry c = (Slot.enterLowering c { x with retryCount := x.retryCount + 1, retryPending := true }, [.raiseFail]) := by
  have hn : x.retryCount + 1 < 3 := by omega
  simp [Slot.raiseExpiry, hs, ht, hn]

theorem Slot.raiseExpiry_of_third (hs : x.state = .raising) (ht : x.raise.isSome = true) (hn : 2 ≤ x.retryCount) :
    x.raiseExpiry c = ({ x with
      state := .locked, retryCount := 3, locks := { x.locks with raiseFail := true }, prv := 0, dmp := false, raise := none,
      lower := if x.down.acc then none else ms c.lowerTimeout }, [.raiseFail, .slotLocked]) := by
  have hn : ¬ x.retryCount + 1 < 3 := by omega
  simp [Slot.raiseExpiry, hs, ht, hn]

theorem Slot.lowerExpiry_of_lowering (hs : x.state = .lowering) (ht : x.lower.isSome = true) : x.lowerExpiry = ({ x with
    state := .locked, locks := { x.locks with stuckUp := true }, prv := 0, dmp := true, retryPending := false, lower := none },
      [.slotLocked, .stuckUp]) := by
  simp [Slot.lowerExpiry, hs, ht]

theorem Slot.lowerExpiry_of_dropped (hs : x.state = .dropped) (ht : x.lower.isSome = true) : x.lowerExpiry = ({ x with
    state := .locked, locks := { x.locks with autodrop := true, stuckUp := true }, prv := 0, dmp := true, lower := none },
      [.slotLocked, .stuckUp]) := by
  simp [Slot.lowerExpiry, hs, ht]

theorem Slot.lowerExpiry_of_locked (hs : x.state = .locked) (ht : x.lower.isSome = true) : x.lowerExpiry = ({ x with
    locks := { x.locks with stuckUp := true }, dmp := true, lower := none }, [.stuckUp]) := by
  simp [Slot.lowerExpiry, hs, ht]

theorem Slot.retryExpiry_of_retryWait (hs : x.state = .retryWait) (ht : x.retry.isSome = true) : x.retryExpiry c =
    if x.canRaise then x.enterRaising c
    else if x.role ≠ x.tRole ∨ x.travelling then x.enterDown c
    else { x with retry := none } := if_pos ⟨hs, ht⟩

theorem Slot.contactLossExpiry_of_up (hs : x.state = .up) (ht : x.contactLoss.isSome = true) :
    x.contactLossExpiry c = x.enterRaising c := if_pos ⟨hs, ht⟩

end Slot

/-- Settles O38: the four timers by the state in which each runs; a failed raise over a made down switch ends its LOWERING at
once. -/
theorem slotTimerEvents : Obligations.SlotTimerEvents := by
  intro s k hrun x lowerMs
  refine ⟨fun ht hs => ⟨fun hn hd => ?_, fun hn hd => ?_, fun hn => ?_⟩, fun ht => ⟨fun hs => ?_, fun hs => ?_, fun hs => ?_⟩,
    fun ht hs => ⟨fun hr => ?_, fun hr hmove => ?_, fun hr hrole hclosing hopening => ?_⟩, fun ht hs hc => ?_⟩
  · have hfail := Slot.raiseExpiry_of_retry s.puCtx hs ht hn
    rw [Slot.enterLowering_of_open _ (by exact hd)] at hfail
    exact exec_raiseTimerExpiry hrun ht hfail
  · have hfail := Slot.raiseExpiry_of_retry s.puCtx hs ht hn
    rw [Slot.enterLowering_of_made _ (by exact hd)] at hfail
    refine ⟨fun hr hh => ?_, fun h => ?_⟩
    · rw [Slot.arriveDown_of_awaitsRetry _ (by exact ⟨rfl, hr, hh, .inl rfl⟩)] at hfail
      exact exec_raiseTimerExpiry hrun ht hfail
    · rw [Slot.arriveDown_of_not _ (by exact fun ⟨_, hr, hh, _⟩ => h.elim hr fun hn => hn hh)] at hfail
      exact exec_raiseTimerExpiry hrun ht hfail
  · exact exec_raiseTimerExpiry hrun ht (Slot.raiseExpiry_of_third _ hs ht hn)
  · exact exec_lowerTimerExpiry hrun ht (Slot.lowerExpiry_of_lowering hs ht)
  · exact exec_lowerTimerExpiry hrun ht (Slot.lowerExpiry_of_dropped hs ht)
  · exact exec_lowerTimerExpiry hrun ht (Slot.lowerExpiry_of_locked hs ht)
  · refine exec_retryTimerExpiry hrun ht ((Slot.retryExpiry_of_retryWait _ hs ht).trans ?_)
    rw [if_pos hr]
  · refine exec_retryTimerExpiry hrun ht ((Slot.retryExpiry_of_retryWait _ hs ht).trans ?_)
    rw [if_neg (by simp [hr]), if_pos (hmove.imp_right Slot.travelling_iff.mpr)]
  · refine exec_retryTimerExpiry hrun ht ((Slot.retryExpiry_of_retryWait _ hs ht).trans ?_)
    have hstay : ¬ (x.role ≠ x.tRole ∨ x.travelling = true) := by simp [Slot.travelling_iff, hrole, hclosing, hopening]
    rw [if_neg (by simp [hr]), if_neg hstay]
  · refine exec_contactLossTimerExpiry hrun ht ((Slot.contactLossExpiry_of_up _ hs ht).trans ?_)
    rw [Slot.enterRaising_of_open _ hc]
    rfl

end Sys2Proof.Machine
end

section
/-! PROOFS. The readouts of a slot, a rule and the Target, the raw levels, and the requests of a slot: O31, O34 and O40. -/

set_option Elab.async false

namespace Sys2Proof.Machine

/-! ### Codes and the bits they take -/

@[simp] theorem SlotState.code_mod (x : SlotState) : x.code % 8 = x.code := by cases x <;> rfl

@[simp] theorem Role.code_mod (x : Role) : x.code % 4 = x.code := by cases x <;> rfl

@[simp] theorem Force.code_mod (x : Force) : x.code % 4 = x.code := by cases x <;> rfl

@[simp] theorem SeqHold.code_mod (x : SeqHold) : x.code % 4 = x.code := by cases x <;> rfl

@[simp] theorem DscState.code_mod (x : DscState) : x.code % 8 = x.code := by cases x <;> rfl

@[simp] theorem IceDemand.code_mod (x : IceDemand) : x.code % 8 = x.code := by cases x <;> rfl

@[simp] theorem EvalKind.code_mod (x : EvalKind) : x.code % 4 = x.code := by cases x <;> rfl

@[simp] theorem expectedCode_mod (x : Option LineSystem) : expectedCode x % 8 = expectedCode x := by
  rcases x with - | x
  · rfl
  · cases x <;> rfl

/-- A set of slots takes four bits (R198). -/
@[simp] theorem PerSlot.bits_mod (p : PerSlot Bool) : p.bits % 16 = p.bits := by
  have h0 := p.ps0.toNat_lt
  have h1 := p.ps1.toNat_lt
  have h2 := p.ps2.toNat_lt
  have h3 := p.ps3.toNat_lt
  unfold PerSlot.bits
  omega

@[simp] theorem mask_mod (m : BitVec 4) : m.toNat % 16 = m.toNat := Nat.mod_eq_of_lt m.isLt

/-- A set of lock reasons takes four bits (R59, R198; log 39). -/
theorem lockBits_mod (a b c d : Bool) :
    (a.toNat + 2 * b.toNat + 4 * c.toNat + 8 * d.toNat) % 16 = a.toNat + 2 * b.toNat + 4 * c.toNat + 8 * d.toNat := by
  have ha := a.toNat_lt
  have hb := b.toNat_lt
  have hc := c.toNat_lt
  have hd := d.toNat_lt
  omega

/-! ### The slot that a request names -/

theorem slotField_of_num {b : Byte} {k : SlotId} (h : b.toNat = k.num) (bs : List Byte) : slotField (b :: bs) = some k := by
  have hfield : field (b :: bs) 0 1 = k.num := (field_one (by simp)).trans h
  rw [slotField, hfield]
  cases k <;> rfl

theorem slotField_of_lt {b : Byte} (h : 3 < b.toNat) (bs : List Byte) : slotField (b :: bs) = none := by
  have hfield : field (b :: bs) 0 1 = b.toNat := field_one (by simp)
  rw [slotField, hfield]
  match hn : b.toNat, h with
  | _ + 4, _ => rfl

/-! ### The readouts -/

/-- The items of R59, packed. -/
theorem slotItems_payload (s : State) (x : Slot) : Answer.payload ⟨.ok, s.slotItems x⟩ =
    [0x00, byte x.enabled.toNat] ++ toBE 2 x.offset ++ [byte x.mask.toNat] ++ toBE 2 (s.effOffset x) ++
      [byte (x.state.code + 8 * x.tRole.code + 32 * x.tForce.code), byte (x.role.code + 4 * x.hold.code), byte x.retryCount,
       byte (x.retryPending.toNat + at2 x.locks.raiseFail 1 + at2 x.locks.autodrop 2 + at2 x.locks.stuckUp 3 +
         at2 x.locks.dscFail 4)] ++ toBE 2 x.contactLosses ++
      [byte (x.down.acc.toNat + at2 x.contact.acc 1 + at2 x.add.acc 2 + at2 x.dsf.acc 3 + at2 x.housed 4)] ++ toBE 2 x.prv ++
      [byte (x.dmp.toNat + 2 * x.dsc.state.code + at2 x.dsc.cmd 4)] := by
  simp only [State.slotItems, Answer.payload, List.cons_append, List.nil_append]
  simp only [Status.code, Item.bool, pack, zero_add, Nat.one_le_ofNat, ↓reduceIte, one_ne_zero, pow_one, toNat_mod_two, pow_zero,
    mul_one, toBE, Nat.div_one, Nat.reduceLeDiff, OfNat.ofNat_ne_zero, Nat.reducePow, mask_mod, BitVec.ofNat_toNat, Nat.reduceAdd,
    SlotState.code_mod, Role.code_mod, Force.code_mod, SeqHold.code_mod, lockBits_mod, DscState.code_mod, List.cons_append,
    List.nil_append, BitVec.ofNat_eq_ofNat, List.cons.injEq, and_true, true_and]
  simp only [at2]
  refine ⟨?_, ?_, ?_, ?_, ?_⟩ <;> exact congrArg byte (by ring)

/-- The items of R87: the index and the record. -/
theorem ruleAnswer_payload {b : Byte} (hb : b.toNat ≤ 47) (s : State) : (ruleAnswer [b] s).payload =
    [0x00, b] ++ ruleBytes (s.cs.rules.getD b.toNat .empty) := by
  have hfield : field [b] 0 1 = b.toNat := field_one (p := [b]) (by simp)
  simp only [ruleAnswer, hfield, if_neg (not_lt.mpr hb), Cs.rule]
  simp [Answer.payload, pack, Status.code, toBE]

/-- The bytes of the last evaluation behind three bits of a byte (R93, R98). -/
theorem pack_evalItems (a : Nat) (e : Option EvalRec) (n : Nat) : pack 3 a (evalItems e ++ [.wide 2 n]) =
    let r := e.getD ⟨none, .target, .all false⟩
    [byte (a + at2 e.isSome 3 + at2 r.index.isSome 4), byte (r.index.getD 0), byte (r.kind.code + 4 * r.changed.bits)] ++ toBE 2 n := by
  rcases e with - | ⟨- | i, kind, changed⟩
  · simp [evalItems, optWide, pack, toBE, at2, EvalKind.code, PerSlot.bits, PerSlot.all]
  · simp [evalItems, optWide, pack, toBE, at2, Nat.mul_comm]
  · simp [evalItems, optWide, pack, toBE, at2, Nat.mul_comm]

/-- The items of R98, packed. -/
theorem targetAnswer_payload (p : List Byte) (s : State) : (targetAnswer p s).payload =
    let v := s.cs.cv
    let d := s.cs.demand
    let r := s.cs.lastEval.getD ⟨none, .target, .all false⟩
    [0x00] ++ targetBytes s.cs.current ++ [byte s.cs.pend.isSome.toNat] ++ ((s.cs.pend.map targetBytes).getD noTargetBytes) ++
      [byte (s.cs.hold.toNat + 2 * expectedCode v.sys + 16 * (v.speed % 4) + 64 * (v.ice % 4)),
       byte (v.amb % 4 + at2 v.demand 2 + 8 * v.avail.bits + at2 v.zone 7),
       byte (v.lead.code + at2 d.collect 1 + at2 d.power 2 + 8 * d.ice.code),
       byte (expectedCode d.expected + at2 s.cs.lastEval.isSome 3 + at2 r.index.isSome 4), byte (r.index.getD 0),
       byte (r.kind.code + 4 * r.changed.bits)] ++ toBE 2 s.cs.evals := by
  have heval := pack_evalItems (expectedCode s.cs.demand.expected) s.cs.lastEval s.cs.evals
  simp only [targetAnswer, CondVec.items, Demand.items, Answer.payload, List.cons_append, List.nil_append, List.append_assoc]
  simp only [Status.code, pack, ↓reduceIte, Item.bool, zero_add, Nat.one_le_ofNat, one_ne_zero, pow_one, toNat_mod_two, pow_zero,
    mul_one, Nat.reduceAdd, Nat.reduceLeDiff, Std.le_refl, Nat.reducePow, expectedCode_mod, PerSlot.bits_mod, LeadEnd.code_mod,
    IceDemand.code_mod, heval, List.cons_append, List.nil_append, BitVec.ofNat_eq_ofNat, List.cons.injEq,
    List.append_cancel_left_eq, and_true, true_and]

  simp only [at2]
  refine ⟨?_, ?_, ?_⟩ <;> exact congrArg byte (by ring)

/-- Settles O31: the three requests only read, and their answers pack as given. -/
theorem slotRuleAndTargetReplyBytes : Obligations.SlotRuleAndTargetReplyBytes := by
  intro s l b
  refine ⟨fun h => ⟨fun hb => ?_, fun k hk => ?_⟩, fun h => ⟨fun hb => ?_, fun hb => ?_⟩, fun h => ?_⟩
  all_goals refine (congrArg Host.Outcome.next (h.served (owner := readOnly _) rfl rfl rfl)).trans ?_
  · simp only [slotAnswer, slotField_of_lt hb]
    rfl
  · simp only [slotAnswer, slotField_of_num hk, slotItems_payload]
    rfl
  · have hfield : field [b] 0 1 = b.toNat := field_one (p := [b]) (by simp)
    simp only [ruleAnswer, hfield, if_pos hb]
    rfl
  · rw [ruleAnswer_payload hb]
    rfl
  · rw [targetAnswer_payload]
    rfl

/-! ### The raw levels -/

/-- Settles O34: each input is fed at the filter time of its group, and an unchanged SEL level leaves the part as it is. -/
theorem rawLevelStartsTheWait : Obligations.RawLevelStartsTheWait := by
  intro s k b lvl hrun wait filterMs slot
  have hexec (i : RawInput) : exec (.inputRawChange i) s = .next (s.rawLevel i) :=
    congrArg Host.Outcome.next (if_neg (by simp [hrun]))
  refine ⟨hexec _, hexec _, hexec _, hexec _, hexec _, ?_⟩
  rw [hexec]
  by_cases hl : s.lif.sel.raw = lvl
  · simp only [State.rawLevel, SelFilter.feed, if_pos hl]
  · simp only [State.rawLevel, SelFilter.feed, if_neg hl]
    rfl

/-! ### SET_SLOT -/

theorem State.slotStateItem_of_some {p : List Byte} {k : SlotId} (hk : slotField p = some k) (s : State) :
    s.slotStateItem p = .small 3 (s.slots.get k).state.code := by
  simp only [State.slotStateItem, hk]

/-- The reply of a SET_SLOT for one of the four slots: the status and the slot's state (R56). -/
theorem slotStateItem_payload (st : Status) (x : SlotState) : Answer.payload ⟨st, [.small 3 x.code]⟩ = [byte st.code, byte x.code] := by
  simp [Answer.payload, pack]

theorem noSlotItem_payload (st : Status) (v : BitVec 3) : Answer.payload ⟨st, [.small 3 v.toNat]⟩ = [byte st.code, byte v.toNat] := by
  simp [Answer.payload, pack, Nat.mod_eq_of_lt v.isLt]

theorem boolOf_of_lt {n : Nat} (h : 1 < n) : boolOf n = none := by
  match n, h with
  | _ + 2, _ => rfl

/-- A byte of at most 1 is a two-valued field. -/
theorem byte_le_one {b : Byte} (h : b.toNat ≤ 1) : b = 0 ∨ b = 1 := by
  rcases Nat.le_one_iff_eq_zero_or_eq_one.mp h with h | h
  · exact .inl (BitVec.eq_of_toNat_eq h)
  · exact .inr (BitVec.eq_of_toNat_eq h)

section SetSlot
variable {p : List Byte} {k : SlotId} {en : Bool} {s : State}

/-- A slot above 3 is BAD_VALUE, with the free value of log 9 for its state (R56). -/
theorem ownSetSlot_of_no_slot (hk : slotField p = none) : ownSetSlot p s =
    (s, some ⟨.badValue, [.small 3 (Config.noSlotState (BitVec.ofNat 8 (field p 0 1))).toNat]⟩) := by
  simp only [ownSetSlot, State.slotStateItem, hk]

theorem ownSetSlot_of_bad (hk : slotField p = some k) (h : boolOf (field p 1 1) = none ∨ 40000 < field p 2 2 ∨ 15 < field p 4 1) :
    ownSetSlot p s = (s, some ⟨.badValue, [.small 3 (s.slots.get k).state.code]⟩) := by
  simp only [ownSetSlot, State.slotStateItem_of_some hk, hk]
  split
  next hen => exact if_pos (h.resolve_left (by simp [hen]))
  all_goals rfl

variable (hk : slotField p = some k) (hen : boolOf (field p 1 1) = some en) (hoff : field p 2 2 ≤ 40000) (hmask : field p 4 1 ≤ 15)
include hk hen hoff hmask

theorem ownSetSlot_of_busy (hb : s.setSlotBusy (s.slots.get k) en = true) :
    ownSetSlot p s = (s, some ⟨.busy, [.small 3 (s.slots.get k).state.code]⟩) := by
  have hok : ¬ (40000 < field p 2 2 ∨ 15 < field p 4 1) := by omega
  simp only [ownSetSlot, State.slotStateItem_of_some hk, hk, hen, if_neg hok, if_pos hb]

theorem ownSetSlot_of_not_busy (hb : ¬ s.setSlotBusy (s.slots.get k) en = true) : ownSetSlot p s =
    let t := (s.updSlot k (Slot.configure s.puCtx en (field p 2 2) (BitVec.ofNat 4 (field p 4 1)))).evaluate.handOn
    (t, some ⟨.ok, [.small 3 (t.slots.get k).state.code]⟩) := by
  have hok : ¬ (40000 < field p 2 2 ∨ 15 < field p 4 1) := by omega
  simp only [ownSetSlot, State.slotStateItem_of_some hk, hk, hen, if_neg hok, if_neg hb]

end SetSlot

theorem Teq.anyHeld_iff {q : Teq} : q.anyHeld = true ↔
    ∃ e ∈ q.entries, e.kind.isSection = true ∧ (e.status = .armed ∨ e.status = .active) := by
  simp [Teq.anyHeld, Entry.held]

theorem State.setSlotBusy_iff {s : State} {x : Slot} {en : Bool} : s.setSlotBusy x en = true ↔
    (x.state ≠ .disabled ∧ x.state ≠ .down) ∨
      (∃ e ∈ s.teq.entries, e.kind.isSection = true ∧ (e.status = .armed ∨ e.status = .active)) ∨
      (x.state = .down ∧ en = false ∧ (x.dsc.state = .closing ∨ x.dsc.state = .opening)) := by
  rw [← Teq.anyHeld_iff, ← Slot.travelling_iff]
  simp [State.setSlotBusy, or_assoc, and_assoc]

/-- What an accepted SET_SLOT makes of the record, by its state and by `enabled` (R57). -/
theorem Slot.configure_eq (c : PuCtx) {x : Slot} (hs : x.state = .disabled ∨ x.state = .down) (en : Bool) (offset : Nat)
    (mask : BitVec 4) : x.configure c en offset mask =
    let y := x.withConfig en offset mask
    if x.state = .down then
      (if en = true then y.applyDown c
        else Slot.rederiveDsc { (if x.dsc.state = .closed then y.startTravel false else y) with state := .disabled })
    else (if en = false then y.rederiveDsc else if x.down.acc then y.enterDown c else y.enterLowering c) := by
  rcases hs with hs | hs <;> cases en
  · simp [Slot.configure_disabled_off c hs, hs]
  · simp [Slot.configure_disabled_on c hs, hs]
  · simp [Slot.configure_down_off c hs, hs]
  · simp [Slot.configure_down_on c hs, hs]

/-! ### UNLOCK_SLOT -/

section Unlock
variable {p : List Byte} {k : SlotId} {s : State}

theorem ownUnlockSlot_of_no_slot (hk : slotField p = none) : ownUnlockSlot p s = (s, some (.just .badValue)) := by
  simp only [ownUnlockSlot, hk]

theorem ownUnlockSlot_of_not_locked (hk : slotField p = some k) (hs : (s.slots.get k).state ≠ .locked) :
    ownUnlockSlot p s = (s, some ⟨.ok, [.wide 1 0]⟩) := by
  simp only [ownUnlockSlot, hk, if_pos hs]

theorem ownUnlockSlot_of_not_down (hk : slotField p = some k) (hs : (s.slots.get k).state = .locked)
    (hd : (s.slots.get k).down.acc = false) : ownUnlockSlot p s = (s, some (.just .stillPresent)) := by
  simp only [ownUnlockSlot, hk, if_neg (not_not.mpr hs), if_pos hd]

theorem ownUnlockSlot_of_down (hk : slotField p = some k) (hs : (s.slots.get k).state = .locked)
    (hd : (s.slots.get k).down.acc = true) :
    ownUnlockSlot p s = ((s.updSlot k (Slot.unlock s.puCtx)).evaluate.handOn, some ⟨.ok, [.wide 1 1]⟩) := by
  have hup : ¬ (s.slots.get k).down.acc = false := by simp [hd]
  simp only [ownUnlockSlot, hk, if_neg (not_not.mpr hs), if_neg hup]

end Unlock

/-- Settles O40: the rows of the two requests, with the configuration of R57 by the slot's state and by `enabled`. -/
theorem slotRequestsByTheirTables : Obligations.SlotRequestsByTheirTables := by
  intro s l k b en o1 o2 m x c offset here
  have hen : field [b, en, o1, o2, m] 1 1 = en.toNat := field_one (p := [b, en, o1, o2, m]) (by simp)
  have hmask : field [b, en, o1, o2, m] 4 1 = m.toNat := field_one (p := [b, en, o1, o2, m]) (by simp)
  have hoff : field [b, en, o1, o2, m] 2 2 = offset := rfl
  refine ⟨fun h => ⟨fun hb => ?_, fun hk hbad => ?_, fun hk hle hoffle hmle => ?_⟩,
    fun h => ⟨fun hb => ?_, fun hk hs => ?_, fun hk hs hd => ?_, fun hk hs hd => ?_⟩⟩
  · have hb' : field [b, en, o1, o2, m] 0 1 = b.toNat := field_one (p := [b, en, o1, o2, m]) (by simp)
    refine (congrArg Host.Outcome.next (h.served (ownSetSlot_of_no_slot (slotField_of_lt hb _)))).trans ?_
    rw [noSlotItem_payload, hb', BitVec.ofNat_toNat, BitVec.setWidth_eq]
    rfl
  · have hfault : boolOf (field [b, en, o1, o2, m] 1 1) = none ∨ 40000 < field [b, en, o1, o2, m] 2 2 ∨
        15 < field [b, en, o1, o2, m] 4 1 := by
      rw [hen, hmask, hoff]
      exact hbad.imp_left boolOf_of_lt
    refine (congrArg Host.Outcome.next (h.served (ownSetSlot_of_bad (slotField_of_num hk _) hfault))).trans ?_
    rw [slotStateItem_payload]
    rfl
  · intro busy y z t
    have hle' : boolOf (field [b, en, o1, o2, m] 1 1) = some (decide (en = 1)) := by
      rw [hen]
      rcases byte_le_one hle with rfl | rfl <;> rfl
    have hmle' : field [b, en, o1, o2, m] 4 1 ≤ 15 := hmask.trans_le hmle
    have hoff0 : decide (en = 1) = false ↔ en = 0 := by rcases byte_le_one hle with rfl | rfl <;> decide
    have hbusy : (s.beginService l).setSlotBusy x (decide (en = 1)) = true ↔ busy := by
      rw [State.setSlotBusy_iff, hoff0]
      rfl
    refine ⟨fun hb => ?_, fun hb => ?_⟩
    · refine (congrArg Host.Outcome.next (h.served
        (ownSetSlot_of_busy (slotField_of_num hk _) hle' hoffle hmle' (hbusy.mpr hb)))).trans ?_
      rw [slotStateItem_payload]
      rfl
    · have hz : x.configure c (decide (en = 1)) offset (BitVec.ofNat 4 m.toNat) = z := by
        rw [Slot.configure_eq c (State.state_of_not_setSlotBusy (mt hbusy.mp hb))]
        simp only [decide_eq_true_eq, hoff0]
        rfl
      refine (congrArg Host.Outcome.next (h.served
        (ownSetSlot_of_not_busy (slotField_of_num hk _) hle' hoffle hmle' (mt hbusy.mp hb)))).trans ?_
      rw [slotStateItem_payload, hmask]
      simp only [t, ← hz]
      rfl
  · exact congrArg Host.Outcome.next (h.served (ownUnlockSlot_of_no_slot (slotField_of_lt hb _)))
  · exact congrArg Host.Outcome.next (h.served (ownUnlockSlot_of_not_locked (slotField_of_num hk _) hs))
  · exact congrArg Host.Outcome.next (h.served (ownUnlockSlot_of_not_down (slotField_of_num hk _) hs hd))
  · intro y t
    exact congrArg Host.Outcome.next (h.served (ownUnlockSlot_of_down (slotField_of_num hk _) hs hd))

end Sys2Proof.Machine
end

section
/-! PROOFS. The evaluation of the rule table and its result (R88 to R95): O45 and O46. -/

set_option Elab.async false

namespace Sys2Proof.Machine

/-! ### Chains -/

/-- A chain matches when its first member does and the rest do from the mask that it leaves (R88, R89). -/
theorem chainMatches_cons (cv : CondVec) (m : Nat) (r : Rule) (rs : List Rule) :
    chainMatches cv m (r :: rs) = ((r.take cv m).1 && chainMatches cv (r.take cv m).2 rs) := by
  cases h : r.field <;> simp [chainMatches, Rule.take, h]

/-- A chain that an evaluation takes: its members match from the mask 0xFF on, and its last carries an action (R88, R89). -/
def chainTaken (cv : CondVec) (c : Nat × List Rule) : Bool :=
  chainMatches cv 0xFF c.2 && c.2.getLast?.any (fun r => decide (r.action ≠ .absent))

/-- What a chain answers: the index and the action of its last member (R88). -/
def chainAnswer (c : Nat × List Rule) : Nat × Action := (c.1, (c.2.getLast?.map (fun r => r.action)).getD .absent)

/-- The running chain stands for the members taken so far: `alive` and `mask` say how a rest must match behind them (R88, R89). -/
theorem evalFrom_eq_find {cv : CondVec} {mask : Nat} {alive : Bool} {taken : List Rule} (i : Nat) (rules : List Rule)
    (h : ∀ rest, chainMatches cv 0xFF (taken ++ rest) = (alive && chainMatches cv mask rest)) :
    evalFrom cv i 0xFF mask alive rules = ((chainsFrom i taken rules).find? (chainTaken cv)).map chainAnswer := by
  induction rules generalizing i mask alive taken with
  | nil => rfl
  | cons r rs ih =>
    have hfresh := ih (mask := 0xFF) (alive := true) (taken := []) (i + 1) fun _ => rfl
    have htaken : chainTaken cv (i, taken ++ [r]) = (alive && (r.take cv mask).1 && decide (r.action ≠ .absent)) := by
      rw [chainTaken, h, chainMatches_cons]
      simp [chainMatches, Bool.and_assoc]
    cases hc : r.chained with
    | true =>
      simp only [evalFrom, chainsFrom, hc, if_true]
      refine ih (i + 1) fun rest => ?_
      rw [List.append_assoc, List.singleton_append, h, chainMatches_cons]
      cases alive <;> simp
    | false =>
      simp only [evalFrom, chainsFrom, hc, Bool.false_eq_true, if_false, List.find?_cons, htaken, hfresh]
      cases alive && (r.take cv mask).1 && decide (r.action ≠ .absent) <;> simp [chainAnswer]

theorem evalTable_eq_find (cv : CondVec) (rules : List Rule) :
    evalTable cv rules = ((chainsFrom 0 [] rules).find? (chainTaken cv)).map chainAnswer :=
  evalFrom_eq_find 0 rules fun _ => rfl

/-- Settles O45: by induction on the table, the running chain kept as its members taken so far. -/
theorem evaluationTakesFirstMatch : Obligations.EvaluationTakesFirstMatch := evalTable_eq_find

/-- What a table answers carries an action (R88). -/
theorem evalTable_action {cv : CondVec} {rules : List Rule} {i : Nat} {a : Action} (h : evalTable cv rules = some (i, a)) :
    a ≠ .absent := by
  rw [evalTable_eq_find, Option.map_eq_some_iff] at h
  obtain ⟨c, hfind, hc⟩ := h
  have htaken := List.find?_some hfind
  simp only [chainTaken, Bool.and_eq_true] at htaken
  obtain ⟨_, hany⟩ := htaken
  obtain ⟨r, hlast, hr⟩ := (Option.any_eq_true _ _).mp hany
  have ha : r.action = a := by simpa [chainAnswer, hlast] using congrArg Prod.snd hc
  rw [← ha]
  exact of_decide_eq_true hr

/-- A table answers nothing, a Target or REFUSE (R85, R88). -/
theorem evalTable_cases (cv : CondVec) (rules : List Rule) : evalTable cv rules = none ∨
    (∃ i t, evalTable cv rules = some (i, .target t)) ∨ ∃ i, evalTable cv rules = some (i, .refuse) := by
  rcases h : evalTable cv rules with - | ⟨i, - | t | -⟩
  · exact .inl rfl
  · exact absurd rfl (evalTable_action h)
  · exact .inr (.inl ⟨i, t, rfl⟩)
  · exact .inr (.inr ⟨i, rfl⟩)

/-! ### The post-checks -/

/-- A slot of a result that the post-checks change (R92). -/
def PostBad (sys : Option LineSystem) (avail : Bool) (mask : BitVec 4) (x : RoleForce) : Prop :=
  (x.role ≠ .stow ∧ avail = false) ∨ (x.role = .collect ∧ ∃ y, sys = some y ∧ mask.getLsbD (y.code - 1) = false)

section PostCheck
variable {sys : Option LineSystem} {avail : Bool} {mask : BitVec 4} {x : RoleForce}

theorem sysAllowed_eq_false_iff : sysAllowed sys mask = false ↔ ∃ y, sys = some y ∧ mask.getLsbD (y.code - 1) = false := by
  cases sys <;> simp [sysAllowed, LineSystem.maskBit]

theorem postCheck_of_bad (h : PostBad sys avail mask x) : postCheck sys avail mask x = { x with role := .stow } := by
  unfold postCheck
  split
  · rfl
  next hno => exact if_pos ((h.resolve_left hno).imp_right sysAllowed_eq_false_iff.mpr)

theorem postCheck_of_not_bad (h : ¬ PostBad sys avail mask x) : postCheck sys avail mask x = x := by
  obtain ⟨havail, hmask⟩ := not_or.mp h
  exact (if_neg havail).trans (if_neg (mt (And.imp_right sysAllowed_eq_false_iff.mp) hmask))

theorem PostBad.role_ne_stow (h : PostBad sys avail mask x) : x.role ≠ .stow := by
  obtain ⟨hrole, _⟩ | ⟨hrole, _⟩ := h
  · exact hrole
  · simp [hrole]

/-- The check shows: a slot that is changed had a role to lose (R92). -/
theorem postCheck_ne_iff : postCheck sys avail mask x ≠ x ↔ PostBad sys avail mask x := by
  refine ⟨fun hne => by_contra fun h => hne (postCheck_of_not_bad h), fun h heq => h.role_ne_stow ?_⟩
  rw [← heq, postCheck_of_bad h]

@[simp] theorem postCheck_force : (postCheck sys avail mask x).force = x.force := by
  by_cases h : PostBad sys avail mask x
  · rw [postCheck_of_bad h]
  · rw [postCheck_of_not_bad h]

end PostCheck

/-! ### One evaluation -/

theorem PerSlot.any_iff {α : Type} {p : PerSlot α} {f : α → Bool} : p.any f = true ↔ ∃ k, f (p.get k) = true := by
  simp only [PerSlot.any, Bool.or_eq_true, or_assoc]
  constructor
  · rintro (h | h | h | h)
    · exact ⟨.ps0, h⟩
    · exact ⟨.ps1, h⟩
    · exact ⟨.ps2, h⟩
    · exact ⟨.ps3, h⟩
  · rintro ⟨k, h⟩
    cases k with
    | ps0 => exact .inl h
    | ps1 => exact .inr (.inl h)
    | ps2 => exact .inr (.inr (.inl h))
    | ps3 => exact .inr (.inr (.inr h))

section Evaluate
variable (s : State)

/-- The result of an evaluation now, before the post-checks: its index, its kind and the Target (R90, R91). -/
def State.resultNow : Option Nat × EvalKind × Target := Cs.evalResult { s.cs with cv := s.cvNow }

/-- The post-checks change the slot's part of the result (R92). -/
def State.BadNow (k : SlotId) : Prop :=
  PostBad s.cs.demand.expected (s.slots.get k).avail (s.slots.get k).mask (s.resultNow.2.2.slots.get k)

/-- The result of an evaluation now, after the post-checks (R92). -/
def State.checkedNow : Target := State.postChecked { s with cs := { s.cs with cv := s.cvNow } } s.resultNow.2.2

/-- The slots that the post-checks change now (R92, R93). -/
def State.changedNow : PerSlot Bool :=
  .of fun k => decide (s.checkedNow.slots.get k ≠ s.resultNow.2.2.slots.get k)

/-- The Configuration Selector with the evaluation counted and recorded, before its result is held or delivered (R93). -/
def State.recordedNow : Cs :=
  { s.cs with cv := s.cvNow, lastEval := some ⟨s.resultNow.1, s.resultNow.2.1, s.changedNow⟩, evals := (s.cs.evals + 1) % 65536 }

/-- The state in which the result is held or delivered: counted, recorded and its flags raised (R92, R93). -/
def State.evaluated : State :=
  (State.raiseIf { s with cs := s.recordedNow } (decide (s.resultNow.2.1 = .dflt)) .noRule).raiseIf (s.changedNow.any id) .ruleConflict

theorem State.evaluate_eq : s.evaluate = s.evaluated.holdOrDeliver s.checkedNow := rfl

theorem State.checkedNow_get (k : SlotId) : s.checkedNow.slots.get k =
    postCheck s.cs.demand.expected (s.slots.get k).avail (s.slots.get k).mask (s.resultNow.2.2.slots.get k) := by
  simp [State.checkedNow, State.postChecked, State.cvNow]

theorem State.changedNow_iff (k : SlotId) : s.changedNow.get k = true ↔ s.BadNow k := by
  rw [State.changedNow, PerSlot.get_of, decide_eq_true_iff, State.checkedNow_get]
  exact postCheck_ne_iff

/-- A result is held, or becomes the current Target (R94, R95). -/
theorem State.holdOrDeliver_cs (t : Target) : (s.holdOrDeliver t).cs =
    if s.cs.hold = true then { s.cs with pend := some t } else { s.cs with current := t } := by
  unfold State.holdOrDeliver
  split
  · rfl
  · split
    next h => rw [h]
    next => rfl

/-- The units take a result that is not held and differs (R94). -/
theorem State.holdOrDeliver_slots (t : Target) : (s.holdOrDeliver t).slots =
    if s.cs.hold = true ∨ t = s.cs.current then s.slots
    else .of (fun k => (s.slots.get k).deliver s.puCtx (t.slots.get k)) := by
  by_cases hhold : s.cs.hold = true
  · simp [State.holdOrDeliver, hhold]
  · by_cases ht : t = s.cs.current <;> simp [State.holdOrDeliver, hhold, ht]

theorem State.evaluated_cs : s.evaluated.cs = s.recordedNow := by simp [State.evaluated]

theorem State.evaluate_cs : s.evaluate.cs = if s.cs.hold = true then { s.recordedNow with pend := some s.checkedNow }
    else { s.recordedNow with current := s.checkedNow } := by
  rw [State.evaluate_eq, State.holdOrDeliver_cs, State.evaluated_cs]
  rfl

/-- An evaluation writes the record, and the current or the Pending Target (R93 to R95). -/
theorem State.evaluate_cs_recorded : s.evaluate.cs =
    { s.recordedNow with current := s.evaluate.cs.current, pend := s.evaluate.cs.pend } := by
  rw [State.evaluate_cs]
  split <;> rfl

theorem State.evaluate_slots : s.evaluate.slots = if s.cs.hold = true ∨ s.checkedNow = s.cs.current then s.slots
    else .of (fun k => (s.slots.get k).deliver s.puCtx (s.checkedNow.slots.get k)) := by
  have hctx : s.evaluated.puCtx = s.puCtx := State.puCtx_congr (by simp [State.evaluated]) (by simp [State.evaluated])
  have hslots : s.evaluated.slots = s.slots := by simp [State.evaluated]
  rw [State.evaluate_eq, State.holdOrDeliver_slots, State.evaluated_cs, hctx, hslots]
  rfl

/-- An evaluation without a match raises NO_RULE (R91). -/
theorem State.evaluate_noRule {s : State} (h : s.resultNow.2.1 = .dflt) : FlagSet.has s.evaluate.fnu.flags .noRule = true := by
  rw [State.evaluate_eq]
  refine (State.holdOrDeliver_kept _ _).flags _ ((State.raiseIf_kept _ _ _).flags _ ?_)
  rw [decide_eq_true h]
  exact State.raiseIf_has _ _

/-- An evaluation that changes a slot raises RULE_CONFLICT (R92). -/
theorem State.evaluate_ruleConflict {s : State} {k : SlotId} (h : s.BadNow k) :
    FlagSet.has s.evaluate.fnu.flags .ruleConflict = true := by
  rw [State.evaluate_eq]
  refine (State.holdOrDeliver_kept _ _).flags _ ?_
  rw [State.evaluated, PerSlot.any_iff.mpr ⟨k, (s.changedNow_iff k).mpr h⟩]
  exact State.raiseIf_has _ _

/-! The result is the match's Target, the latest for REFUSE, or the default, with its index and kind (R90, R91). -/

variable {s : State} {i : Nat} {t : Target}

theorem State.resultNow_of_none (h : evalTable s.cvNow s.cs.rules = none) : s.resultNow = (none, .dflt, .stowAll) := by
  simp only [State.resultNow, Cs.evalResult, h]

theorem State.resultNow_of_target (h : evalTable s.cvNow s.cs.rules = some (i, .target t)) : s.resultNow = (some i, .target, t) := by
  simp only [State.resultNow, Cs.evalResult, h]

theorem State.resultNow_of_refuse (h : evalTable s.cvNow s.cs.rules = some (i, .refuse)) :
    s.resultNow = (some i, .refuse, s.cs.latest) := by
  simp only [State.resultNow, Cs.evalResult, h]
  rfl

end Evaluate

/-- Settles O46: the result by what the table answers, the post-checks slot by slot, and the record, held or delivered. -/
theorem evaluationResultIsDelivered : Obligations.EvaluationResultIsDelivered := by
  intro s cv m latest result bad
  have hnow : s.resultNow.1 = m.map (fun x => x.1) ∧ s.resultNow.2.2 = result ∧ (m = none → s.resultNow.2.1 = .dflt) ∧
      s.resultNow.2.1 = match m with
        | some (_, .target _) => .target
        | some (_, .refuse) => .refuse
        | some (_, .absent) => .dflt
        | none => .dflt := by
    obtain hm | ⟨i, t, hm⟩ | ⟨i, hm⟩ : m = none ∨ (∃ i t, m = some (i, .target t)) ∨ ∃ i, m = some (i, .refuse) :=
      evalTable_cases _ _
    · simp only [State.resultNow_of_none hm, result, hm]
      exact ⟨rfl, rfl, fun _ => trivial, trivial⟩
    · simp only [State.resultNow_of_target hm, result, hm]
      exact ⟨rfl, trivial, nofun, trivial⟩
    · simp only [State.resultNow_of_refuse hm, result, hm]
      exact ⟨rfl, rfl, nofun, trivial⟩
  obtain ⟨hindex, hresult, hnone, hkind⟩ := hnow
  have hbad (k : SlotId) : s.BadNow k ↔ bad k := by rw [State.BadNow, hresult]; rfl
  have hget := s.checkedNow_get
  rw [hresult] at hget
  have hrecord := s.evaluate_cs_recorded
  refine ⟨s.checkedNow, by rw [← hresult]; rfl, fun k => ⟨by rw [hget, postCheck_force], fun h => ?_, fun h => ?_⟩,
    congrArg Cs.cv hrecord, congrArg Cs.evals hrecord, (congrArg Cs.rules hrecord :), (congrArg Cs.demand hrecord :),
    (congrArg Cs.hold hrecord :),
    ⟨⟨s.resultNow.1, s.resultNow.2.1, s.changedNow⟩, congrArg Cs.lastEval hrecord, hindex,
      fun k => (s.changedNow_iff k).trans (hbad k), hkind⟩,
    fun h => State.evaluate_noRule (hnone h), fun ⟨k, h⟩ => State.evaluate_ruleConflict ((hbad k).mpr h), fun hold => ?_,
    fun hold => ?_, by simp, by simp, by simp, by simp, by simp, by simp, by simp, by simp⟩
  · rw [hget, postCheck_of_bad h]
  · rw [hget, postCheck_of_not_bad h]
  · rw [State.evaluate_cs, State.evaluate_slots, if_pos hold, if_pos (.inl hold)]
    exact ⟨rfl, rfl, rfl⟩
  · have hoff : ¬ s.cs.hold = true := by simp [hold]
    rw [State.evaluate_cs, State.evaluate_slots, if_neg hoff]
    exact ⟨rfl, rfl, fun heq => if_pos (.inr heq), fun hne => if_neg (by simp [hold, hne])⟩

end Sys2Proof.Machine
end

section
/-! PROOFS. A rule and its record (R85, R86, R202), and WRITE_RULE: O43 and O44. -/

set_option Elab.async false

namespace Sys2Proof.Machine

/-! ### Codes and their values -/

theorem byte_toNat (b : Byte) : byte b.toNat = b := by rw [byte, BitVec.ofNat_toNat, BitVec.setWidth_eq]

theorem toNat_byte {n : Nat} (h : n < 256) : (byte n).toNat = n := Nat.mod_eq_of_lt h

theorem RuleField.ofCode_code (x : RuleField) : RuleField.ofCode x.code = some x := by cases x <;> rfl

theorem RuleOp.ofCode_code (x : RuleOp) : RuleOp.ofCode x.code = some x := by cases x <;> rfl

theorem RuleField.ofCode_of_lt {n : Nat} (h : 9 < n) : RuleField.ofCode n = Option.none := by
  match n, h with
  | _ + 10, _ => rfl

theorem RuleOp.ofCode_of_lt {n : Nat} (h : 3 < n) : RuleOp.ofCode n = none := by
  match n, h with
  | _ + 4, _ => rfl

theorem RuleField.exists_code {n : Nat} (h : n ≤ 9) : ∃ x : RuleField, x.code = n := by
  have hall : ∀ i ≤ 9, (RuleField.ofCode i).any (fun x => x.code == i) = true := by decide
  obtain ⟨x, _, hx⟩ := (Option.any_eq_true _ _).mp (hall n h)
  exact ⟨x, eq_of_beq hx⟩

theorem RuleOp.exists_code {n : Nat} (h : n ≤ 3) : ∃ x : RuleOp, x.code = n := by
  have hall : ∀ i ≤ 3, (RuleOp.ofCode i).any (fun x => x.code == i) = true := by decide
  obtain ⟨x, _, hx⟩ := (Option.any_eq_true _ _).mp (hall n h)
  exact ⟨x, eq_of_beq hx⟩

theorem RuleField.code_eq_zero {x : RuleField} : x.code = 0 ↔ x = .none := by cases x <;> simp [RuleField.code]

theorem RuleField.code_eq_nine {x : RuleField} : x.code = 9 ↔ x = .mask := by cases x <;> simp [RuleField.code]

/-! ### The slot bytes of a Target -/

/-- The byte of a role and a force (R202). -/
def RoleForce.code (x : RoleForce) : Nat := x.role.code + 4 * x.force.code

theorem roleForceOf_code (x : RoleForce) : roleForceOf x.code = some x := by
  obtain ⟨r, f⟩ := x
  cases r <;> cases f <;> rfl

theorem RoleForce.code_lt (x : RoleForce) : x.code < 256 := by
  obtain ⟨r, f⟩ := x
  cases r <;> cases f <;> decide

/-- A slot byte that carries no role or no force (R86). -/
def BadSlotByte (b : Byte) : Prop := 16 ≤ b.toNat ∨ b.toNat % 4 = 3 ∨ b.toNat / 4 = 3

theorem roleForceOf_of_bad {b : Byte} (h : BadSlotByte b) : roleForceOf b.toNat = none := by
  obtain h | h := h
  · exact if_neg (by omega)
  · have hall : ∀ n < 16, n % 4 = 3 ∨ n / 4 = 3 → roleForceOf n = none := by decide
    by_cases hlt : b.toNat < 16
    · exact hall _ hlt h
    · exact if_neg hlt

theorem roleForceOf_of_not_bad {b : Byte} (h : ¬ BadSlotByte b) : ∃ x, roleForceOf b.toNat = some x ∧ byte x.code = b := by
  simp only [BadSlotByte, not_or, not_le] at h
  obtain ⟨hlt, hrole, hforce⟩ := h
  have hall : ∀ n < 16, n % 4 ≠ 3 → n / 4 ≠ 3 → (roleForceOf n).any (fun x => x.code == n) = true := by decide
  obtain ⟨x, hx, hcode⟩ := (Option.any_eq_true _ _).mp (hall _ hlt hrole hforce)
  refine ⟨x, hx, ?_⟩
  rw [eq_of_beq hcode, byte_toNat]

/-! ### The bytes of a Target -/

theorem targetBytes_mk (w x y z : RoleForce) (n : Nat) :
    targetBytes ⟨⟨w, x, y, z⟩, n⟩ = [byte w.code, byte x.code, byte y.code, byte z.code, byte n] := rfl

section Target
variable {b0 b1 b2 b3 prof : Byte}

/-- The five bytes of a Target, slot by slot (R86, R202). -/
theorem targetOf_eq : targetOf [b0, b1, b2, b3, prof] =
    (roleForceOf b0.toNat).bind fun w => (roleForceOf b1.toNat).bind fun x => (roleForceOf b2.toNat).bind fun y =>
      (roleForceOf b3.toNat).bind fun z => if prof.toNat ≤ 3 then some ⟨⟨w, x, y, z⟩, prof.toNat⟩ else none := by
  have h0 : field [b0, b1, b2, b3, prof] 0 1 = b0.toNat := field_one (p := [b0, b1, b2, b3, prof]) (by simp)
  have h1 : field [b0, b1, b2, b3, prof] 1 1 = b1.toNat := field_one (p := [b0, b1, b2, b3, prof]) (by simp)
  have h2 : field [b0, b1, b2, b3, prof] 2 1 = b2.toNat := field_one (p := [b0, b1, b2, b3, prof]) (by simp)
  have h3 : field [b0, b1, b2, b3, prof] 3 1 = b3.toNat := field_one (p := [b0, b1, b2, b3, prof]) (by simp)
  have h4 : field [b0, b1, b2, b3, prof] 4 1 = prof.toNat := field_one (p := [b0, b1, b2, b3, prof]) (by simp)
  unfold targetOf
  rw [h0, h1, h2, h3, h4]
  cases roleForceOf b0.toNat <;> cases roleForceOf b1.toNat <;> cases roleForceOf b2.toNat <;> cases roleForceOf b3.toNat <;> rfl

/-- The Target bytes carry no Target (R86). -/
def BadTarget (b0 b1 b2 b3 prof : Byte) : Prop :=
  BadSlotByte b0 ∨ BadSlotByte b1 ∨ BadSlotByte b2 ∨ BadSlotByte b3 ∨ 3 < prof.toNat

theorem targetOf_of_bad (h : BadTarget b0 b1 b2 b3 prof) : targetOf [b0, b1, b2, b3, prof] = none := by
  rw [targetOf_eq]
  obtain h | h | h | h | h := h
  · simp [roleForceOf_of_bad h]
  · simp [roleForceOf_of_bad h]
  · simp [roleForceOf_of_bad h]
  · simp [roleForceOf_of_bad h]
  · simp [not_le.mpr h]

theorem targetOf_of_not_bad (h : ¬ BadTarget b0 b1 b2 b3 prof) :
    ∃ t, targetOf [b0, b1, b2, b3, prof] = some t ∧ targetBytes t = [b0, b1, b2, b3, prof] ∧ t.profile ≤ 3 := by
  simp only [BadTarget, not_or, not_lt] at h
  obtain ⟨h0, h1, h2, h3, hprof⟩ := h
  obtain ⟨w, hw, hw'⟩ := roleForceOf_of_not_bad h0
  obtain ⟨x, hx, hx'⟩ := roleForceOf_of_not_bad h1
  obtain ⟨y, hy, hy'⟩ := roleForceOf_of_not_bad h2
  obtain ⟨z, hz, hz'⟩ := roleForceOf_of_not_bad h3
  refine ⟨⟨⟨w, x, y, z⟩, prof.toNat⟩, by simp [targetOf_eq, hw, hx, hy, hz, hprof], ?_, hprof⟩
  rw [targetBytes_mk, hw', hx', hy', hz', byte_toNat]

/-- A Target reads back from its bytes (R202). -/
theorem targetOf_targetBytes {t : Target} (h : t.profile ≤ 3) : targetOf (targetBytes t) = some t := by
  obtain ⟨⟨w, x, y, z⟩, n⟩ := t
  have hle : n ≤ 3 := h
  have hprof : (byte n).toNat = n := toNat_byte (by omega)
  rw [targetBytes_mk, targetOf_eq]
  simp only [toNat_byte (RoleForce.code_lt _), hprof, roleForceOf_code, Option.bind_some, if_pos hle]

end Target

/-! ### The record of a rule -/

/-- What WRITE_RULE stores for a field, an op, a value and the AND bit, with the action's code and Target bytes (R86; log 22). -/
def ruleWith (i : Nat) (fld : RuleField) (op : RuleOp) (v : Byte) (chained : Bool) (code : Nat) (p : List Byte) : Option Rule :=
  if fld = .none then some .empty
  else if fld = .mask ∧ chained = false then none
  else if chained then if i = 47 ∨ (code = 1 ∧ (targetOf p).isNone) then none else some ⟨fld, op, v, true, .absent⟩
  else (actionOf code p).bind fun act => if act = .absent then none else some ⟨fld, op, v, false, act⟩

/-- A record read byte by byte (R85, R202). -/
theorem ruleOf_eq (i : Nat) (f o v a c : Byte) (p : List Byte) : ruleOf i (f :: o :: v :: a :: c :: p) =
    (RuleField.ofCode f.toNat).bind fun fld => (RuleOp.ofCode o.toNat).bind fun op =>
      ruleWith i fld op v (decide (a.toNat % 2 = 1)) c.toNat p := by
  have h0 : field (f :: o :: v :: a :: c :: p) 0 1 = f.toNat := field_one (by simp)
  have h1 : field (f :: o :: v :: a :: c :: p) 1 1 = o.toNat := field_one (by simp)
  have h2 : field (f :: o :: v :: a :: c :: p) 2 1 = v.toNat := field_one (by simp)
  have h3 : field (f :: o :: v :: a :: c :: p) 3 1 = a.toNat := field_one (by simp)
  have h4 : field (f :: o :: v :: a :: c :: p) 4 1 = c.toNat := field_one (by simp)
  unfold ruleOf ruleWith
  rw [h0, h1, h2, h3, h4, BitVec.ofNat_toNat, BitVec.setWidth_eq, List.drop_succ_cons, List.drop_succ_cons, List.drop_succ_cons,
    List.drop_succ_cons, List.drop_succ_cons, List.drop_zero]
  cases RuleField.ofCode f.toNat with
  | none => rfl
  | some fld =>
    cases RuleOp.ofCode o.toNat with
    | none => rfl
    | some op =>
      simp only [Option.bind_some]
      cases actionOf c.toNat p with
      | none => rfl
      | some act => cases act <;> rfl

section With
variable {i : Nat} {fld : RuleField} (op : RuleOp) (v : Byte) {ch : Bool} {code : Nat}

/-! The rows of R86: the empty rule, a MASK rule that ends its chain, a chained rule, and a rule that ends its chain. -/

theorem ruleWith_none (p : List Byte) : ruleWith i .none op v ch code p = some .empty := rfl

theorem ruleWith_mask (p : List Byte) : ruleWith i .mask op v false code p = none := rfl

theorem ruleWith_chained (hf : fld ≠ .none) (p : List Byte) : ruleWith i fld op v true code p =
    if i = 47 ∨ (code = 1 ∧ (targetOf p).isNone) then none else some ⟨fld, op, v, true, .absent⟩ := by
  simp [ruleWith, hf]

theorem ruleWith_ending (hf : fld ≠ .none) (hm : fld ≠ .mask) (p : List Byte) : ruleWith i fld op v false code p =
    (actionOf code p).bind fun act => if act = .absent then none else some ⟨fld, op, v, false, act⟩ := by
  simp [ruleWith, hf, hm]

end With

/-! ### Reading a rule back -/

theorem RuleField.code_lt (x : RuleField) : x.code < 256 := by cases x <;> decide

theorem RuleOp.code_lt (x : RuleOp) : x.code < 256 := by cases x <;> decide

theorem Action.code_lt (x : Action) : x.code < 256 := by cases x <;> simp [Action.code]

/-- A rule's record gives back its fields (R85, R202). -/
theorem ruleOf_ruleBytes (i : Nat) (r : Rule) : ruleOf i (ruleBytes r) =
    ruleWith i r.field r.op r.value r.chained r.action.code r.action.bytes := by
  have hchained : decide ((byte r.chained.toNat).toNat % 2 = 1) = r.chained := by cases r.chained <;> rfl
  change ruleOf i (byte r.field.code :: byte r.op.code :: r.value :: byte r.chained.toNat :: byte r.action.code :: r.action.bytes) = _
  rw [ruleOf_eq, toNat_byte r.field.code_lt, toNat_byte r.op.code_lt, toNat_byte r.action.code_lt, hchained,
    RuleField.ofCode_code, RuleOp.ofCode_code]
  rfl

/-- The action that ends a chain reads back (R86, R202). -/
theorem actionOf_bytes {a : Action} (h : ∀ t, a = .target t → t.profile ≤ 3) : actionOf a.code a.bytes = some a := by
  cases a with
  | absent | refuse => rfl
  | target t => exact congrArg (Option.map Action.target) (targetOf_targetBytes (h t rfl))

/-- Settles O44: the three shapes of a storable rule, each read back by its row of R86. -/
theorem rulesReadBackAsWritten : Obligations.RulesReadBackAsWritten := by
  intro i r h
  rw [ruleOf_ruleBytes]
  obtain ⟨fld, op, v, ch, act⟩ := r
  obtain h | ⟨hf, hch, hact, hi⟩ | ⟨hf, hm, hch, hact, hprof⟩ := h
  · rw [h]
    exact ruleWith_none _ _ _
  · dsimp only at hf hch hact
    subst hch hact
    rw [ruleWith_chained _ _ hf, if_neg]
    simp [hi, Action.code]
  · dsimp only at hf hm hch hact hprof
    subst hch
    rw [ruleWith_ending _ _ hf hm, actionOf_bytes hprof, Option.bind_some, if_neg hact]

/-! ### WRITE_RULE -/

section Write
variable {i : Nat} {f o a c b0 b1 b2 b3 prof : Byte}

/-- The record of a rule is refused at an index up to 47 (R86; log 22). -/
def BadRule (i : Nat) (f o a c b0 b1 b2 b3 prof : Byte) : Prop :=
  9 < f.toNat ∨ 3 < o.toNat ∨ (f.toNat = 9 ∧ ¬ a.toNat % 2 = 1) ∨
    (f.toNat ≠ 0 ∧ ((a.toNat % 2 = 1 ∧ i = 47) ∨ (¬ a.toNat % 2 = 1 ∧ (c.toNat = 0 ∨ 2 < c.toNat)) ∨
      (c.toNat = 1 ∧ BadTarget b0 b1 b2 b3 prof)))

theorem actionOf_of_bad {p : List Byte} {n : Nat} (h : 2 < n ∨ (n = 1 ∧ targetOf p = none)) : actionOf n p = none := by
  obtain h | ⟨rfl, h⟩ := h
  · match n, h with
    | _ + 3, _ => rfl
  · exact congrArg (Option.map Action.target) h

theorem actionOf_of_not_bad (hc : c.toNat = 1 ∨ c.toNat = 2) (ht : c.toNat = 1 → ¬ BadTarget b0 b1 b2 b3 prof) :
    ∃ act, actionOf c.toNat [b0, b1, b2, b3, prof] = some act ∧ act ≠ .absent ∧ act.code = c.toNat ∧
      (c.toNat = 1 → act.bytes = [b0, b1, b2, b3, prof]) ∧ ∀ t, act = .target t → t.profile ≤ 3 := by
  obtain hc | hc := hc
  · obtain ⟨t, htarget, hbytes, hprof⟩ := targetOf_of_not_bad (ht hc)
    refine ⟨.target t, ?_, Action.noConfusion, hc.symm, fun _ => hbytes, fun _ h => by cases h; exact hprof⟩
    rw [hc]
    exact congrArg (Option.map Action.target) htarget
  · rw [hc]
    exact ⟨.refuse, rfl, Action.noConfusion, rfl, nofun, fun _ h => Action.noConfusion h⟩

/-- The refusals of R86 behind the codes of the field and the op (log 22). -/
theorem ruleWith_of_bad {fld : RuleField} (op : RuleOp) (v : Byte) {ch : Bool} {n : Nat} {p : List Byte}
    (h : (fld = .mask ∧ ch = false) ∨ (fld ≠ .none ∧
      ((ch = true ∧ i = 47) ∨ (ch = false ∧ (n = 0 ∨ 2 < n)) ∨ (n = 1 ∧ targetOf p = none)))) :
    ruleWith i fld op v ch n p = none := by
  obtain ⟨rfl, rfl⟩ | ⟨hf, h⟩ := h
  · exact ruleWith_mask _ _ _
  cases ch with
  | true =>
    rw [ruleWith_chained _ _ hf, if_pos]
    simpa using h
  | false =>
    by_cases hm : fld = .mask
    · rw [hm, ruleWith_mask]
    rw [ruleWith_ending _ _ hf hm]
    obtain ⟨hch, _⟩ | ⟨_, rfl | hn⟩ | hn := h
    · cases hch
    · rfl
    · rw [actionOf_of_bad (.inl hn), Option.bind_none]
    · rw [actionOf_of_bad (.inr hn), Option.bind_none]

theorem ruleOf_of_bad (v : Byte) (h : BadRule i f o a c b0 b1 b2 b3 prof) :
    ruleOf i [f, o, v, a, c, b0, b1, b2, b3, prof] = none := by
  rw [ruleOf_eq]
  obtain hf | hf := lt_or_ge 9 f.toNat
  · rw [RuleField.ofCode_of_lt hf, Option.bind_none]
  obtain ho | ho := lt_or_ge 3 o.toNat
  · simp [RuleOp.ofCode_of_lt ho]
  obtain ⟨fld, hfld⟩ := RuleField.exists_code hf
  obtain ⟨op, hop⟩ := RuleOp.exists_code ho
  rw [← hfld, ← hop, RuleField.ofCode_code, RuleOp.ofCode_code, Option.bind_some, Option.bind_some]
  refine ruleWith_of_bad op v ?_
  rw [BadRule, ← hfld, Ne, RuleField.code_eq_zero, RuleField.code_eq_nine] at h
  rw [decide_eq_true_iff, decide_eq_false_iff_not]
  obtain h | h | h | ⟨hne, h⟩ := h
  · omega
  · omega
  · exact .inl h
  · exact .inr ⟨hne, h.imp_right (.imp_right (.imp_right targetOf_of_bad))⟩

/-- What a WRITE_RULE stores that R86 does not refuse, field by field (R85; log 22). -/
theorem ruleOf_of_not_bad (v : Byte) (h : ¬ BadRule i f o a c b0 b1 b2 b3 prof) :
    ∃ r, ruleOf i [f, o, v, a, c, b0, b1, b2, b3, prof] = some r ∧ r.storable i ∧ (f = 0 → r = .empty) ∧
      (f ≠ 0 → r.field.code = f.toNat ∧ r.op.code = o.toNat ∧ r.value = v ∧ (r.chained = true ↔ a.toNat % 2 = 1) ∧
        (a.toNat % 2 = 1 → r.action = .absent) ∧ (¬ a.toNat % 2 = 1 → r.action.code = c.toNat) ∧
        (¬ a.toNat % 2 = 1 → c = 1 → r.action.bytes = [b0, b1, b2, b3, prof])) := by
  simp only [BadRule, not_or, not_lt, not_and] at h
  obtain ⟨hf, ho, hmask, hrest⟩ := h
  obtain ⟨fld, hfld⟩ := RuleField.exists_code hf
  obtain ⟨op, hop⟩ := RuleOp.exists_code ho
  have hzero : f = 0 ↔ fld = .none := by
    rw [← RuleField.code_eq_zero, hfld]
    exact (BitVec.toNat_eq (y := 0))
  rw [ruleOf_eq, ← hfld, ← hop, RuleField.ofCode_code, RuleOp.ofCode_code, Option.bind_some, Option.bind_some, Ne, hzero]
  by_cases hnone : fld = .none
  · subst hnone
    exact ⟨.empty, rfl, .inl rfl, fun _ => rfl, fun hne => absurd rfl hne⟩
  obtain ⟨hlast, hcode, htarget⟩ := hrest (by rwa [← hfld, Ne, RuleField.code_eq_zero])
  by_cases hch : a.toNat % 2 = 1
  · refine ⟨⟨fld, op, v, true, .absent⟩, ?_, .inr (.inl ⟨hnone, rfl, rfl, hlast hch⟩), fun h => absurd h hnone, fun _ =>
      ⟨rfl, rfl, rfl, iff_of_true rfl hch, fun _ => rfl, absurd hch, absurd hch⟩⟩
    rw [decide_eq_true hch, ruleWith_chained _ _ hnone, if_neg]
    rintro (hi | ⟨hc, ht⟩)
    · exact hlast hch hi
    · obtain ⟨t, ht', _⟩ := targetOf_of_not_bad (htarget hc)
      simp [ht'] at ht
  · have hm : fld ≠ .mask := fun hm => hmask (by rw [← hfld, hm]; rfl) hch
    obtain ⟨act, hact, hpresent, hactcode, hbytes, hprof⟩ := actionOf_of_not_bad (c := c) (by have := hcode hch; omega) htarget
    refine ⟨⟨fld, op, v, false, act⟩, ?_, .inr (.inr ⟨hnone, hm, rfl, hpresent, hprof⟩), fun h => absurd h hnone, fun _ =>
      ⟨rfl, rfl, rfl, iff_of_false Bool.false_ne_true hch, fun h => absurd h hch, fun _ => hactcode,
        fun _ hc => hbytes (by rw [hc]; rfl)⟩⟩
    rw [decide_eq_false hch, ruleWith_ending _ _ hnone hm, hact, Option.bind_some, if_neg hpresent]

end Write

theorem ownWriteRule_of_none {i : Byte} {p : List Byte} (h : 47 < i.toNat ∨ ruleOf i.toNat p = none) (s : State) :
    ownWriteRule (i :: p) s = (s, some (.just .badValue)) := by
  have hfield : field (i :: p) 0 1 = i.toNat := field_one (by simp)
  simp only [ownWriteRule, hfield, List.drop_succ_cons, List.drop_zero]
  split
  · rfl
  next hi => rw [h.resolve_left hi]

theorem ownWriteRule_of_some {i : Byte} {p : List Byte} {r : Rule} (hi : i.toNat ≤ 47) (h : ruleOf i.toNat p = some r) (s : State) :
    ownWriteRule (i :: p) s = ((State.evaluate { s with cs := { s.cs with rules := s.cs.rules.set i.toNat r } }).handOn,
      some ⟨.ok, [.wide 1 i.toNat, .raw (ruleBytes r)]⟩) := by
  have hfield : field (i :: p) 0 1 = i.toNat := field_one (by simp)
  simp only [ownWriteRule, hfield, List.drop_succ_cons, List.drop_zero, if_neg (not_lt.mpr hi), h]

/-- Settles O43: a refused record changes nothing; any other is stored as R85 reads it, and one evaluation follows. -/
theorem writeRuleStoresAndEvaluates : Obligations.WriteRuleStoresAndEvaluates := by
  intro s l i f o v a c b0 b1 b2 b3 prof rule h chained badSlot refused
  refine ⟨fun hbad => ?_, fun hok => ?_⟩
  · have hnone : 47 < i.toNat ∨ ruleOf i.toNat rule = none := hbad.imp_right (ruleOf_of_bad v)
    exact congrArg Host.Outcome.next (h.served (ownWriteRule_of_none hnone _))
  · obtain ⟨hi, hok⟩ := not_or.mp hok
    obtain ⟨r, hr, hstorable, hempty, hfields⟩ := ruleOf_of_not_bad v hok
    refine ⟨r, hr, hstorable, hempty, hfields,
      (congrArg Host.Outcome.next (h.served (ownWriteRule_of_some (not_lt.mp hi) hr _))).trans ?_⟩
    simp [Answer.payload, pack, Status.code, toBE]
    rfl

end Sys2Proof.Machine
end

section
/-! PROOFS. A write of the Demand record and SET_DEMAND (R81 to R83, R105): O42. -/

set_option Elab.async false

namespace Sys2Proof.Machine

/-! ### A ramped open -/

/-- The DEMAND reason held: TRO is asserted, and rises with its flag (R164, R165, R171). -/
theorem State.holdDemand_eq (s : State) : s.holdDemand = State.raiseIf
    { s with csu := { s.csu with demandHeld := true, seen := { s.csu.seen with demand := true }, tro := true } }
    (!s.csu.tro) .troOn := by
  simp [State.holdDemand, State.troUpdate, Csu.troLevel]

theorem State.releaseDemand_csu (s : State) : s.releaseDemand.csu =
    { s.csu with demandHeld := false, tro := s.csu.seqHeld || decide (s.csu.overReason ≠ .idle) } := by
  simp [State.releaseDemand, State.troUpdate_csu, Csu.troLevel]

/-- An opening waits for a breaker whose aux is made, and is over at once with aux released (R104, R107). -/
theorem State.brkEnterOpening_of_aux {s : State} (h : s.bki.aux.acc = true) : s.brkEnterOpening =
    { s with bki := { s.bki with state := .opening, hold := false, sup := ms s.tOpenMax, ramp := none } } := if_pos h

theorem State.brkEnterOpening_of_released {s : State} (h : s.bki.aux.acc = false) : s.brkEnterOpening =
    State.releaseDemand { s with bki := { s.bki with state := .opened, kind := none, hold := false, sup := none, ramp := none } } :=
  if_neg (by simp [h])

/-- A ramp in CLOSED that has begun: its timer and the DEMAND reason (R105). -/
def State.rampBegun (s : State) : State := State.holdDemand { s with bki := { s.bki with ramp := ms s.tRamp } }

theorem State.rampBegun_bki (s : State) : s.rampBegun.bki = { s.bki with ramp := ms s.tRamp } := by simp [State.rampBegun]

theorem State.rampBegun_csu (s : State) : s.rampBegun.csu =
    { s.csu with demandHeld := true, seen := { s.csu.seen with demand := true }, tro := true } := by
  simp [State.rampBegun, State.holdDemand_eq]

theorem State.rampBegun_tOpenMax (s : State) : s.rampBegun.tOpenMax = s.tOpenMax := by
  simp [State.tOpenMax, State.param, State.rampBegun]

/-- A ramped open opens at its start with T_RAMP 0 or the total at or below OPEN_CURRENT (R105). -/
theorem State.rampStart_eq {s : State} (h : s.bki.state = .closed) : s.rampStart =
    if s.tRamp = 0 ∨ s.csu.total ≤ s.openCurrent then s.rampBegun.brkEnterOpening else s.rampBegun := by
  have htotal : s.rampBegun.csu.total = s.csu.total := by rw [State.rampBegun_csu]
  have hcurrent : s.rampBegun.openCurrent = s.openCurrent := by simp [State.openCurrent, State.param, State.rampBegun]
  have hend : s.rampBegun.rampEnd = s.rampBegun.brkEnterOpening := if_pos (by simp [State.rampBegun_bki, ms, h])
  have hreport : s.rampBegun.rampReport = if s.csu.total ≤ s.openCurrent then s.rampBegun.brkEnterOpening else s.rampBegun := by
    rw [State.rampReport, htotal, hcurrent, hend]
  have hstart : s.rampStart = if s.tRamp = 0 then s.rampBegun.rampEnd else s.rampBegun.rampReport := rfl
  rw [hstart, hend, hreport]
  by_cases hramp : s.tRamp = 0 <;> simp [hramp]

theorem State.rampBegun_troOn {s : State} (h : s.csu.tro = false) : FlagSet.has s.rampBegun.fnu.flags .troOn = true := by
  rw [State.rampBegun, State.holdDemand_eq]
  simp only [h]
  exact State.raiseIf_has _ _

/-! ### A write of the Demand record -/

/-- The Demand record written, and the over-window count cleared where the expected system changes (R81). -/
def State.demandWritten (d : Demand) (s : State) : State := { s with
  cs := { s.cs with demand := d },
  lsu := { s.lsu with overCount := if d.expected = s.cs.demand.expected then s.lsu.overCount else 0 } }

theorem State.writeDemand_eq (s : State) (d : Demand) : s.writeDemand d = (s.demandWritten d).powerWritten s.cs.demand.power := by
  refine congrArg (State.powerWritten s.cs.demand.power) ?_
  by_cases h : d.expected = s.cs.demand.expected
  · simp [State.expectedWritten, State.demandWritten, h]
  · simp [State.expectedWritten, State.demandWritten, h, Ne.symm h]

section Power
variable {s : State}

theorem State.powerWritten_fall (h : s.cs.demand.power = false) (hb : s.bki.state = .closed) : s.powerWritten true = s.rampStart := by
  simp [State.powerWritten, h, hb]

theorem State.powerWritten_rise (h : s.cs.demand.power = true) : s.powerWritten false = s.rampAbandon := by
  simp [State.powerWritten, h]

theorem State.rampAbandon_of_ramp (h : s.bki.ramp.isSome = true) :
    s.rampAbandon = State.releaseDemand { s with bki := { s.bki with ramp := none } } := if_pos h

/-- With no fall in CLOSED and no ramp to abandon, a write of power does nothing more (R105). -/
theorem State.powerWritten_of_neither {before : Bool}
    (hfall : ¬ (before = true ∧ s.cs.demand.power = false ∧ s.bki.state = .closed))
    (hrise : ¬ (before = false ∧ s.cs.demand.power = true ∧ s.bki.ramp.isSome = true)) : s.powerWritten before = s := by
  cases before with
  | true =>
    cases hp : s.cs.demand.power with
    | true => exact if_pos hp.symm
    | false => simp_all [State.powerWritten]
  | false =>
    cases hp : s.cs.demand.power with
    | true => simp_all [State.powerWritten, State.rampAbandon]
    | false => exact if_pos hp.symm

/-- The DEMAND reason is seen, and TRO_ON has risen, whether the ramp goes on or opens at once (R105, R164, R171). -/
theorem State.rampStart_seen (h : s.bki.state = .closed) : s.rampStart.csu.seen.demand = true ∧
    (s.csu.tro = false → FlagSet.has s.rampStart.fnu.flags .troOn = true) := by
  have hbegun : s.rampBegun.csu.seen.demand = true := by rw [State.rampBegun_csu]
  have hseen : s.rampBegun.brkEnterOpening.csu.seen = s.rampBegun.csu.seen := by
    cases haux : s.rampBegun.bki.aux.acc with
    | true => rw [State.brkEnterOpening_of_aux haux]
    | false => rw [State.brkEnterOpening_of_released haux, State.releaseDemand_csu]
  rw [State.rampStart_eq h]
  split
  · exact ⟨hseen ▸ hbegun, fun htro => (State.brkEnterOpening_kept _).flags _ (State.rampBegun_troOn htro)⟩
  · exact ⟨hbegun, State.rampBegun_troOn⟩

end Power

/-! ### SET_DEMAND -/

/-- The four fields of a Demand record in a byte (R82, R98). -/
theorem State.demandAnswer_payload (s : State) (st : Status) : (s.demandAnswer st).payload = [byte st.code] ++
    [byte (s.cs.demand.collect.toNat + 2 * s.cs.demand.power.toNat + 4 * s.cs.demand.ice.code +
      32 * expectedCode s.cs.demand.expected)] := by
  simp [State.demandAnswer, Demand.items, Answer.payload, pack, Item.bool, Nat.mul_comm]

theorem IceDemand.ofCode_of_le {n : Nat} (h : n ≤ 4) :
    IceDemand.ofCode n = some ([IceDemand.auto, .off, .force1, .force2, .force3].getD n .auto) := by
  interval_cases n <;> rfl

theorem IceDemand.ofCode_of_lt {n : Nat} (h : 4 < n) : IceDemand.ofCode n = none := by
  match n, h with
  | _ + 5, _ => rfl

/-- The expected system that a SET_DEMAND names: KEEP, UNSET or a system (R82, R201). -/
def namedSystem (x : Byte) (held : Option LineSystem) : Option LineSystem :=
  if x = 0xFF then held else [none, some LineSystem.a50, some .a16, some .d30, some .d15].getD x.toNat none

theorem expectedOf_of_valid {x : Byte} (h : x.toNat ≤ 4 ∨ x = 0xFF) (held : Option LineSystem) :
    expectedOf x.toNat held = some (namedSystem x held) := by
  by_cases hkeep : x = 0xFF
  · rw [namedSystem, if_pos hkeep, hkeep]
    rfl
  · have hle := h.resolve_right hkeep
    rw [namedSystem, if_neg hkeep]
    interval_cases x.toNat <;> rfl

theorem expectedOf_of_bad {x : Byte} (h : ¬ (x.toNat ≤ 4 ∨ x = 0xFF)) (held : Option LineSystem) : expectedOf x.toNat held = none := by
  obtain ⟨hlt, hne⟩ := not_or.mp h
  have hkeep : x.toNat ≠ 0xFF := fun heq => hne (BitVec.eq_of_toNat_eq heq)
  have hsys : LineSystem.ofCode x.toNat = none := by
    match x.toNat, not_le.mp hlt with
    | _ + 5, _ => rfl
  have hzero : x.toNat ≠ 0 := by omega
  simp [expectedOf, hkeep, hzero, hsys]

section SetDemand
variable {c p i x : Byte}

/-- The field values that R82 lets a SET_DEMAND carry. -/
def ValidDemand (c p i x : Byte) : Prop := c.toNat ≤ 1 ∧ p.toNat ≤ 1 ∧ i.toNat ≤ 4 ∧ (x.toNat ≤ 4 ∨ x = 0xFF)

theorem boolOf_of_le {b : Byte} (h : b.toNat ≤ 1) : boolOf b.toNat = some (decide (b = 1)) := by
  rcases byte_le_one h with rfl | rfl <;> rfl

/-- A payload read field by field (R82). -/
theorem demandOf_eq (held : Option LineSystem) : demandOf [c, p, i, x] held = (boolOf c.toNat).bind fun c => (boolOf p.toNat).bind fun p =>
    (IceDemand.ofCode i.toNat).bind fun i => (expectedOf x.toNat held).bind fun x => some ⟨c, p, i, x⟩ := by
  have h0 : field [c, p, i, x] 0 1 = c.toNat := field_one (p := [c, p, i, x]) (by simp)
  have h1 : field [c, p, i, x] 1 1 = p.toNat := field_one (p := [c, p, i, x]) (by simp)
  have h2 : field [c, p, i, x] 2 1 = i.toNat := field_one (p := [c, p, i, x]) (by simp)
  have h3 : field [c, p, i, x] 3 1 = x.toNat := field_one (p := [c, p, i, x]) (by simp)
  unfold demandOf
  rw [h0, h1, h2, h3]
  cases boolOf c.toNat <;> cases boolOf p.toNat <;> cases IceDemand.ofCode i.toNat <;> cases expectedOf x.toNat held <;> rfl

theorem demandOf_of_bad (h : ¬ ValidDemand c p i x) (held : Option LineSystem) : demandOf [c, p, i, x] held = none := by
  rw [demandOf_eq]
  simp only [ValidDemand, not_and_or, not_or, not_le] at h
  obtain h | h | h | h := h
  · simp [boolOf_of_lt h]
  · simp [boolOf_of_lt h]
  · simp [IceDemand.ofCode_of_lt h]
  · simp [expectedOf_of_bad (x := x) (not_or.mpr ⟨not_le.mpr h.1, h.2⟩)]

theorem demandOf_of_valid (h : ValidDemand c p i x) (held : Option LineSystem) : demandOf [c, p, i, x] held =
    some ⟨decide (c = 1), decide (p = 1), [IceDemand.auto, .off, .force1, .force2, .force3].getD i.toNat .auto,
      namedSystem x held⟩ := by
  obtain ⟨hc, hp, hi, hx⟩ := h
  rw [demandOf_eq, boolOf_of_le hc, boolOf_of_le hp, IceDemand.ofCode_of_le hi, expectedOf_of_valid hx]
  rfl

end SetDemand

section Owner
variable {p : List Byte} {s : State} {d : Demand}

theorem ownSetDemand_of_none (h : demandOf p s.cs.demand.expected = none) :
    ownSetDemand p s = (s, some (s.demandAnswer .badValue)) := by
  simp only [ownSetDemand, h]

/-- A changed expected system is refused while an entry is ACTIVE, and the rest is written (R82). -/
theorem ownSetDemand_of_locked (h : demandOf p s.cs.demand.expected = some d) (ha : s.teq.anyActive = true)
    (hne : d.expected ≠ s.cs.demand.expected) {t : State}
    (ht : (s.writeDemand { d with expected := s.cs.demand.expected }).handOn = t) :
    ownSetDemand p s = (t, some (t.demandAnswer .busy)) := by
  simp [ownSetDemand, h, ha, hne, ht]

theorem ownSetDemand_of_free (h : demandOf p s.cs.demand.expected = some d)
    (hfree : ¬ (s.teq.anyActive = true ∧ d.expected ≠ s.cs.demand.expected)) {t : State} (ht : (s.writeDemand d).handOn = t) :
    ownSetDemand p s = (t, some (t.demandAnswer .ok)) := by
  have hlocked : (s.teq.anyActive && decide (d.expected ≠ s.cs.demand.expected)) = false := by simpa using hfree
  simp only [ownSetDemand, h, hlocked, Bool.false_eq_true, if_false, ht]

end Owner

theorem Teq.anyActive_iff {q : Teq} : q.anyActive = true ↔ ∃ e ∈ q.entries, e.kind.isSection = true ∧ e.status = .active := by
  simp [Teq.anyActive]

/-- Settles O42: the rows of the request, and what a write does by the change of power that it makes. -/
theorem setDemandByItsTable : Obligations.SetDemandByItsTable := by
  constructor
  · intro s l c p i x h bytes valid named refused taken
    refine ⟨fun hbad => ?_, fun hvalid hbusy => ?_, fun hvalid hfree => ?_⟩
    · refine (congrArg Host.Outcome.next (h.served (ownSetDemand_of_none (demandOf_of_bad hbad _)))).trans ?_
      rw [State.demandAnswer_payload]
      rfl
    · obtain ⟨hactive, hne⟩ := hbusy
      have hd := demandOf_of_valid hvalid (s.beginService l).cs.demand.expected
      have howner := ownSetDemand_of_locked hd (Teq.anyActive_iff.mpr hactive) hne (t := taken s.cs.demand.expected) rfl
      refine (congrArg Host.Outcome.next (h.served howner)).trans ?_
      rw [State.demandAnswer_payload]
      generalize taken s.cs.demand.expected = t
      rfl
    · have hd := demandOf_of_valid hvalid (s.beginService l).cs.demand.expected
      have hfree' : ¬ (s.teq.anyActive = true ∧ named ≠ s.cs.demand.expected) := by rwa [Teq.anyActive_iff]
      have howner := ownSetDemand_of_free hd hfree' (t := taken named) rfl
      refine (congrArg Host.Outcome.next (h.served howner)).trans ?_
      rw [State.demandAnswer_payload]
      generalize taken named = t
      rfl
  · intro s d t starts atOnce
    have ht : t = (s.demandWritten d).powerWritten s.cs.demand.power := s.writeDemand_eq d
    refine ⟨by rw [ht]; simp [State.demandWritten], by rw [ht]; simp [State.demandWritten], ?_, ?_, ?_, by simp [t], by simp [t],
      by simp [t], by simp [t], by simp [t], by simp [t]⟩
    · rintro ⟨hon, hoff, hb⟩
      rw [hon, State.powerWritten_fall (s := s.demandWritten d) hoff hb] at ht
      obtain ⟨hseen, hflag⟩ := State.rampStart_seen (s := s.demandWritten d) hb
      have heq := State.rampStart_eq (s := s.demandWritten d) hb
      rw [← ht] at hseen hflag heq
      have hcond : ((s.demandWritten d).tRamp = 0 ∨ (s.demandWritten d).csu.total ≤ (s.demandWritten d).openCurrent) ↔ atOnce := .rfl
      rw [if_congr hcond rfl rfl] at heq
      refine ⟨hseen, hflag, fun hlater => ?_, fun hnow haux => ?_, fun hnow haux => ?_⟩
      · rw [if_neg hlater] at heq
        rw [heq, State.rampBegun_bki, State.rampBegun_csu]
        exact ⟨rfl, rfl, rfl⟩
      · rw [if_pos hnow, State.brkEnterOpening_of_aux (by rw [State.rampBegun_bki]; exact haux)] at heq
        rw [heq, State.rampBegun_tOpenMax]
        exact ⟨by rw [State.rampBegun_csu], by rw [State.rampBegun_csu], by rw [State.rampBegun_bki]; rfl⟩
      · rw [if_pos hnow, State.brkEnterOpening_of_released (by rw [State.rampBegun_bki]; exact haux)] at heq
        rw [heq, State.releaseDemand_csu, State.releaseDemand_bki]
        exact ⟨rfl, by rw [State.rampBegun_bki]; rfl⟩
    · intro hoff hon hramp
      rw [hoff, State.powerWritten_rise (s := s.demandWritten d) hon, State.rampAbandon_of_ramp (s := s.demandWritten d) hramp] at ht
      rw [ht, State.releaseDemand_bki, State.releaseDemand_csu]
      exact ⟨rfl, rfl⟩
    · intro hfall hrise
      rw [State.powerWritten_of_neither (s := s.demandWritten d) hfall hrise] at ht
      rw [ht]
      exact ⟨rfl, rfl⟩

end Sys2Proof.Machine
end

section
/-! PROOFS. What the steps of a passage wait for, how they start and what follows them, and the deadline tests (R121 to R131): O51. -/

set_option Elab.async false

namespace Sys2Proof.Machine

/-! ### Quantities over the slots -/

theorem PerSlot.every_iff {α : Type} {p : PerSlot α} {f : α → Bool} : p.every f = true ↔ ∀ k, f (p.get k) = true := by
  simp only [PerSlot.every, Bool.and_eq_true, and_assoc]
  refine ⟨fun ⟨h0, h1, h2, h3⟩ k => ?_, fun h => ⟨h .ps0, h .ps1, h .ps2, h .ps3⟩⟩
  cases k <;> assumption

theorem SlotId.mem_list (k : SlotId) : k ∈ [SlotId.ps0, .ps1, .ps2, .ps3] := by cases k <;> simp

theorem Slot.lowered_iff {x : Slot} : x.lowered = true ↔
    (x.down.acc = true ∧ x.prv = 0) ∨ (x.state = .locked ∧ x.locks.stuckUp = true) := by
  simp [Slot.lowered, Slot.housed]

/-- Every enabled slot is housed or LOCKED with STUCK_UP (R124, R126). -/
theorem State.allLowered_iff {s : State} : s.allLowered = true ↔ ∀ k, (s.slots.get k).enabled = true →
    ((s.slots.get k).down.acc = true ∧ (s.slots.get k).prv = 0) ∨
      ((s.slots.get k).state = .locked ∧ (s.slots.get k).locks.stuckUp = true) := by
  rw [State.allLowered, PerSlot.every_iff]
  refine forall_congr' fun k => ?_
  rw [Bool.or_eq_true, Bool.not_eq_true', ← Bool.not_eq_true, Slot.lowered_iff, imp_iff_not_or]

theorem Slot.countsLocked_iff {x : Slot} : x.countsLocked = true ↔
    x.state = .locked ∨ ((x.state = .down ∨ x.state = .retryWait) ∧ x.add.acc = true) := by
  simp [Slot.countsLocked]

section Target
variable {s : State}

theorem State.everyTarget_iff {roles : Role → Bool} {f : Slot → Bool} : s.everyTarget roles f = true ↔
    ∀ k, roles (s.cs.current.slots.get k).role = true → f (s.slots.get k) = true := by
  simp only [State.everyTarget, List.all_eq_true, SlotId.mem_list, forall_const, Bool.or_eq_true, Bool.not_eq_true']
  exact forall_congr' fun k => by rw [← Bool.not_eq_true, imp_iff_not_or]

theorem State.someCollecting_iff : s.someCollecting = true ↔ ∃ k, (s.cs.current.slots.get k).role = .collect ∧
    (s.slots.get k).state = .up ∧ (s.slots.get k).role = .collect := by
  simp only [State.someCollecting, List.any_eq_true, SlotId.mem_list, true_and, Bool.and_eq_true, decide_eq_true_iff, and_assoc]

end Target

/-! ### The tests of the steps -/

/-- The breaker has failed to open (R107, R131). -/
def State.NoOpen (s : State) : Prop := s.bki.state = .failed ∧ s.bki.kind = some .noOpen

/-- The planned entry is of a lowering kind (R117, R123, R127). -/
def State.planLowers (s : State) : Bool := (s.psq.plan.map (fun p => p.kind.lowers)).getD false

section Tests
variable {s : State} (c : Cause)

/-- RAMP ends in any state but CLOSED, at a total that has fallen far enough, and at once with T_RAMP 0 (R122). -/
theorem State.stepMove_ramp (h : s.psq.step = some .ramp) : s.stepMove c =
    if s.bki.state ≠ .closed then .go .openBrk
    else if (c = .start ∨ c = .total) ∧ s.csu.total ≤ s.openCurrent then .go .openBrk
    else if c = .start ∧ s.tRamp = 0 then .go .openBrk
    else .stay := by
  simp only [State.stepMove, h]

/-- OPEN waits for the breaker (R123, R131). -/
theorem State.stepMove_openBrk (h : s.psq.step = some .openBrk) :
    (s.bki.state = .opened → s.stepMove c = .go (if s.planLowers then .lower else .coast)) ∧
    (s.NoOpen → s.stepMove c = .noOpen) ∧ (s.bki.state ≠ .opened → ¬ s.NoOpen → s.stepMove c = .stay) := by
  refine ⟨fun hb => ?_, fun ⟨hb, hk⟩ => ?_, fun hb hn => ?_⟩
  · simp only [State.stepMove, h, hb]
    rfl
  · simp only [State.stepMove, h, hb, hk, if_true]
  · cases hbrk : s.bki.state with
    | opened => exact absurd hbrk hb
    | failed => simp only [State.stepMove, h, hbrk]; exact if_neg fun hk => hn ⟨hbrk, hk⟩
    | closing | closed | opening => simp only [State.stepMove, h, hbrk]

/-- A breaker that fails to open ends every step from LOWER on (R131). -/
theorem State.stepMove_of_noOpen (hn : s.NoOpen) (h : s.psq.step ∈ [some Step.lower, some .coast, some .reraise, some .confirm]) :
    s.stepMove c = .noOpen := by
  simp only [List.mem_cons, List.not_mem_nil, or_false] at h
  obtain h | h | h | h := h <;> simp only [State.stepMove, h] <;> exact if_pos hn

variable (hn : ¬ s.NoOpen)
include hn

theorem State.stepMove_lower (h : s.psq.step = some .lower) :
    s.stepMove c = if s.allLowered = true then .go .coast else .stay := by
  simp only [State.stepMove, h]
  exact if_neg hn

theorem State.stepMove_coast (h : s.psq.step = some .coast) : s.stepMove c =
    if (c = .start ∨ c = .update) ∧ s.planCleared = true then .go (if s.planLowers then .reraise else .confirm) else .stay := by
  simp only [State.stepMove, h]
  exact if_neg hn

theorem State.stepMove_reraise (h : s.psq.step = some .reraise) : s.stepMove c = s.reraiseMove := by
  simp only [State.stepMove, h]
  exact if_neg hn

theorem State.stepMove_confirm (h : s.psq.step = some .confirm) : s.stepMove c = s.confirmMove := by
  simp only [State.stepMove, h]
  exact if_neg hn

end Tests

/-- The planned entry is cleared (R127; log 35). -/
theorem State.planCleared_iff {s : State} {p : Plan} (h : s.psq.plan = some p) : s.planCleared = true ↔
    0 ≤ signedDiff s.pe.e (p.start + BitVec.ofNat 32 (p.len + s.psq.oRear.getD 0 + s.margin + s.pe.u)) := by
  simp only [State.planCleared, h, reached, decide_eq_true_iff]
  rfl

/-- The confirmed system is the expected one, or any where none is expected (R130). -/
def State.Confirms (s : State) : Prop :=
  (∃ y, s.cs.demand.expected = some y ∧ s.lsu.confirmed = .sys y) ∨ (s.cs.demand.expected = none ∧ ∃ y, s.lsu.confirmed = .sys y)

theorem State.confirmMove_of_confirms {s : State} (h : s.Confirms) : s.confirmMove = .close .done := by
  obtain ⟨y, hx, hy⟩ | ⟨hx, y, hy⟩ := h
  · simp only [State.confirmMove, hx, hy, if_true]
  · simp only [State.confirmMove, hx, hy]

theorem State.confirmMove_of_not_confirms {s : State} (h : ¬ s.Confirms) : s.confirmMove = .stay := by
  obtain ⟨hsome, hnone⟩ := not_or.mp h
  cases hx : s.cs.demand.expected with
  | some x =>
    simp only [State.confirmMove, hx]
    exact if_neg fun hy => hsome ⟨x, hx, hy⟩
  | none =>
    cases hy : s.lsu.confirmed with
    | sys y => exact absurd ⟨hx, y, hy⟩ hnone
    | none | unknown => simp only [State.confirmMove, hx, hy]

/-! ### RERAISE, row by row (R129) -/

section Reraise
variable {s : State}

/-- The role of a slot in the current Target. -/
def State.targetRole (s : State) (k : SlotId) : Role := (s.cs.current.slots.get k).role

/-- The slot is UP and collects (R129, row 4). -/
def Slot.Collecting (x : Slot) : Prop := x.state = .up ∧ x.role = .collect

/-- The slot stands as its target role asks (R129, row 3). -/
def Slot.InPlace (x : Slot) : Prop := x.state = .up ∧ x.role = x.tRole

/-- Row 1: no slot is to collect. -/
theorem State.reraiseMove_of_none (h : ∀ k, s.targetRole k ≠ .collect) : s.reraiseMove = .close .done :=
  if_pos (State.everyTarget_iff.mpr fun k hk => absurd (of_decide_eq_true hk) (h k))

/-- Past row 1 the tests are rows 2 to 4. -/
theorem State.reraiseMove_of_some (h : ∃ k, s.targetRole k = .collect) : s.reraiseMove =
    if s.everyTarget (fun r => decide (r = .collect)) Slot.countsLocked then .close (.aborted .noCollector)
    else if s.everyTarget (fun r => decide (r ≠ .stow)) (fun x => decide (x.state = .up) && decide (x.role = x.tRole)) then .go .confirm
    else if s.someCollecting ∧ s.everyTarget (fun r => decide (r ≠ .stow))
        (fun x => (decide (x.state = .up) && decide (x.role = .collect)) || x.countsLocked) then .go .confirm
    else .stay := by
  obtain ⟨k, hk⟩ := h
  exact if_neg fun hall => Bool.false_ne_true (State.everyTarget_iff.mp hall k (decide_eq_true hk))

/-- Row 2: every slot that is to collect counts as LOCKED. -/
theorem State.reraiseMove_of_locked (h : ∃ k, s.targetRole k = .collect)
    (hall : ∀ k, s.targetRole k = .collect → (s.slots.get k).countsLocked = true) :
    s.reraiseMove = .close (.aborted .noCollector) := by
  rw [State.reraiseMove_of_some h]
  exact if_pos (State.everyTarget_iff.mpr fun k hk => hall k (of_decide_eq_true hk))

theorem State.allInPlace_iff :
    s.everyTarget (fun r => decide (r ≠ .stow)) (fun x => decide (x.state = .up) && decide (x.role = x.tRole)) = true ↔
      ∀ k, s.targetRole k ≠ .stow → (s.slots.get k).InPlace := by
  rw [State.everyTarget_iff]
  simp only [Bool.and_eq_true, decide_eq_true_iff]
  rfl

theorem State.collectorServes_iff : (s.someCollecting = true ∧ s.everyTarget (fun r => decide (r ≠ .stow))
      (fun x => (decide (x.state = .up) && decide (x.role = .collect)) || x.countsLocked) = true) ↔
    (∃ k, s.targetRole k = .collect ∧ (s.slots.get k).Collecting) ∧
      ∀ k, s.targetRole k ≠ .stow → (s.slots.get k).Collecting ∨ (s.slots.get k).countsLocked = true := by
  rw [State.someCollecting_iff, State.everyTarget_iff]
  simp only [Bool.or_eq_true, Bool.and_eq_true, decide_eq_true_iff]
  rfl

variable (h : ∃ k, s.targetRole k = .collect ∧ ¬ (s.slots.get k).countsLocked = true)
include h

/-- Past row 2 the tests are rows 3 and 4. -/
theorem State.reraiseMove_of_unlocked : s.reraiseMove =
    if s.everyTarget (fun r => decide (r ≠ .stow)) (fun x => decide (x.state = .up) && decide (x.role = x.tRole)) then .go .confirm
    else if s.someCollecting ∧ s.everyTarget (fun r => decide (r ≠ .stow))
        (fun x => (decide (x.state = .up) && decide (x.role = .collect)) || x.countsLocked) then .go .confirm
    else .stay := by
  obtain ⟨k, hk, hfree⟩ := h
  rw [State.reraiseMove_of_some ⟨k, hk⟩]
  exact if_neg fun hall => hfree (State.everyTarget_iff.mp hall k (decide_eq_true hk))

/-- Row 3: every slot with a role stands as its target role asks. -/
theorem State.reraiseMove_of_inPlace (hall : ∀ k, s.targetRole k ≠ .stow → (s.slots.get k).InPlace) :
    s.reraiseMove = .go .confirm := by
  rw [State.reraiseMove_of_unlocked h]
  exact if_pos (State.allInPlace_iff.mpr hall)

/-- Row 4: a slot collects, and every other with a role collects too or counts as LOCKED (log 23). -/
theorem State.reraiseMove_of_collecting (hsome : ∃ k, s.targetRole k = .collect ∧ (s.slots.get k).Collecting)
    (hall : ∀ k, s.targetRole k ≠ .stow → (s.slots.get k).Collecting ∨ (s.slots.get k).countsLocked = true) :
    s.reraiseMove = .go .confirm := by
  rw [State.reraiseMove_of_unlocked h, if_pos (State.collectorServes_iff.mpr ⟨hsome, hall⟩), ite_self]

/-- Row 5: RERAISE waits. -/
theorem State.reraiseMove_of_neither (hplace : ¬ ∀ k, s.targetRole k ≠ .stow → (s.slots.get k).InPlace)
    (hserves : ¬ ((∃ k, s.targetRole k = .collect ∧ (s.slots.get k).Collecting) ∧
      ∀ k, s.targetRole k ≠ .stow → (s.slots.get k).Collecting ∨ (s.slots.get k).countsLocked = true)) :
    s.reraiseMove = .stay := by
  rw [State.reraiseMove_of_unlocked h, if_neg (mt State.allInPlace_iff.mp hplace), if_neg (mt State.collectorServes_iff.mp hserves)]

end Reraise

/-! ### What follows a test (R121, R131, R133) -/

/-- A step is followed by a later one alone (R121). -/
theorem State.stepMove_go_lt {s : State} {c : Cause} {st : Step} (h : s.stepMove c = .go st) :
    ∃ now, s.psq.step = some now ∧ now.code < st.code := by
  cases hstep : s.psq.step with
  | none => simp [State.stepMove, hstep] at h
  | some now =>
    have hfree (hm : some now ∈ [some Step.lower, some .coast, some .reraise, some .confirm]) : ¬ s.NoOpen := fun hn => by
      rw [State.stepMove_of_noOpen c hn (hstep ▸ hm)] at h
      cases h
    refine ⟨now, rfl, ?_⟩
    cases now with
    | ramp =>
      rw [State.stepMove_ramp c hstep] at h
      split_ifs at h <;> cases h <;> decide
    | openBrk =>
      obtain ⟨hopened, hno, hwait⟩ := State.stepMove_openBrk c hstep
      by_cases hb : s.bki.state = .opened
      · cases (hopened hb).symm.trans h
        cases s.planLowers <;> decide
      · by_cases hn : s.NoOpen
        · cases (hno hn).symm.trans h
        · cases (hwait hb hn).symm.trans h
    | lower =>
      rw [State.stepMove_lower c (hfree (by simp)) hstep] at h
      split at h <;> cases h
      decide
    | coast =>
      rw [State.stepMove_coast c (hfree (by simp)) hstep] at h
      split at h <;> cases h
      cases s.planLowers <;> decide
    | reraise =>
      have hst : st = .confirm := (State.stepMove_go h).resolve_left (Psq.not_beforeReraise_iff.mpr (.inr (.inl hstep)))
      rw [hst]
      decide
    | confirm =>
      rw [State.stepMove_confirm c (hfree (by simp)) hstep] at h
      by_cases hc : s.Confirms
      · cases (State.confirmMove_of_confirms hc).symm.trans h
      · cases (State.confirmMove_of_not_confirms hc).symm.trans h

section Advance
variable {s : State} {e : Entry}

theorem State.closeActive_of_active (h : s.teq.activeEntry = some e) (r : CloseResult) (last : Option Step) :
    s.closeActive r last = (s.raiseIf (decide (r = .doneNoVoltage)) .lineLoss).closeEntry e r last := by
  simp only [State.closeActive, h]

/-- An abort closes the ACTIVE entry, with no loss of the line (R130, R133). -/
theorem State.abortWith_of_active (h : s.teq.activeEntry = some e) (r : AbortReason) (last : Option Step) :
    s.abortWith r last = s.closeEntry e (.aborted r) last := State.closeActive_of_active h _ _

variable {c : Cause} (n : Nat)

theorem State.advance_of_stay (h : s.stepMove c = .stay) : State.advance (n + 1) c s = s := by simp only [State.advance, h]

theorem State.advance_of_go {st : Step} (h : s.stepMove c = .go st) :
    State.advance (n + 1) c s = State.advance n .start (s.startStep st) := by simp only [State.advance, h]

theorem State.advance_of_close {r : CloseResult} (h : s.stepMove c = .close r) :
    State.advance (n + 1) c s = s.closeActive r s.psq.step := by simp only [State.advance, h]

theorem State.advance_of_noOpen (h : s.stepMove c = .noOpen) : State.advance (n + 1) c s = s.abortNoOpen := by
  simp only [State.advance, h]

end Advance

/-! ### The starts of the steps (R122 to R130) -/

/-- An open begun in CLOSING or CLOSED: it waits for aux, or is over at once (R104, R106, R107, R164). -/
def State.openingNow (s : State) : State :=
  let level := s.csu.seqHeld || decide (s.csu.overReason ≠ .idle)
  let b : Bki := { s.bki with state := .opening, hold := false, sup := some (s.tOpenMax * 1000), ramp := none }
  if s.bki.aux.acc then { s with bki := b }
  else State.raiseIf { s with
    bki := { b with state := .opened, kind := none, sup := none }, csu := { s.csu with demandHeld := false, tro := level } }
    (level && !s.csu.tro) .troOn

theorem State.releaseDemand_eq (s : State) : s.releaseDemand =
    let level := s.csu.seqHeld || decide (s.csu.overReason ≠ .idle)
    State.raiseIf { s with csu := { s.csu with demandHeld := false, tro := level } } (level && !s.csu.tro) .troOn := by
  simp [State.releaseDemand, State.troUpdate, Csu.troLevel]

theorem State.brkEnterOpening_eq (s : State) : s.brkEnterOpening = s.openingNow := by
  cases h : s.bki.aux.acc with
  | true =>
    rw [State.brkEnterOpening_of_aux h, State.openingNow, if_pos h]
    rfl
  | false =>
    rw [State.brkEnterOpening_of_released h, State.openingNow, if_neg (by simp [h]), State.releaseDemand_eq]

theorem Bki.shut_iff {b : Bki} : b.shut = true ↔ b.state = .closing ∨ b.state = .closed := by simp [Bki.shut]

/-- A step begun: its time restarts and the timers of the step before stop (R121). -/
def State.begun (st : Step) (s : State) : State :=
  { s with psq := { s.psq with step := some st, timeInStep := 0, rampTimer := none, confirmTimer := none } }

theorem State.startStep_openBrk_of_shut {s : State} (h : s.bki.state = .closing ∨ s.bki.state = .closed) :
    s.startStep .openBrk = (s.begun .openBrk).openingNow :=
  (if_pos (Bki.shut_iff.mpr h)).trans (State.brkEnterOpening_eq _)

theorem State.startStep_openBrk_of_not_shut {s : State} (h : ¬ (s.bki.state = .closing ∨ s.bki.state = .closed)) :
    s.startStep .openBrk = s.begun .openBrk :=
  if_neg (mt Bki.shut_iff.mp h)

/-- The Pending Target released: delivered where it differs, and absent behind it (R96). -/
def State.releasePending (u : State) : State :=
  match u.cs.pend with
  | none => u
  | some p => if p = u.cs.current then { u with cs := { u.cs with pend := none } }
    else { u with
      cs := { u.cs with pend := none, current := p }, slots := .of (fun k => (u.slots.get k).deliver u.puCtx (p.slots.get k)) }

theorem State.deliverPending_eq (u : State) : u.deliverPending = u.releasePending := by
  unfold State.releasePending
  cases h : u.cs.pend with
  | none =>
    have hu : u = { u with cs := { u.cs with pend := none } } := by rw [← h]
    rw [State.deliverPending_of_none (.inl h)]
    exact hu.symm
  | some p =>
    by_cases hp : p = u.cs.current
    · rw [State.deliverPending_of_none (.inr (hp ▸ h))]
      exact (if_pos hp).symm
    · rw [State.deliverPending_of_some h hp]
      exact (if_neg hp).symm

theorem Psq.nextSystem_of_boundary {q : Psq} {p : Plan} {x : LineSystem} (h : q.plan = some p) (hk : p.kind = .boundary x) :
    q.nextSystem = some x := by
  simp only [Psq.nextSystem, h, hk]

theorem Psq.nextSystem_of_ne {q : Psq} {p : Plan} (h : q.plan = some p) (hk : ∀ x, p.kind ≠ .boundary x) : q.nextSystem = none := by
  simp only [Psq.nextSystem, h]
  cases hp : p.kind with
  | boundary x => exact absurd hp (hk x)
  | neutral | lower | iceZone => rfl

/-- The start of RERAISE: the Pending Target released, the next system of a BOUNDARY written before it, and then the holds
released (R96, R128). -/
theorem State.startStep_reraise (s : State) : s.startStep .reraise =
    ((s.begun .reraise).csRelease s.psq.nextSystem).releaseHolds := rfl

/-! ### The deadline tests (R125, R126) -/

/-- The emergency open of R125, made in CLOSING and CLOSED alone. -/
def State.emergencyOpen (s : State) : State :=
  if s.bki.state = .closing ∨ s.bki.state = .closed then State.openingNow { s with psq := { s.psq with emergency := true } } else s

/-- The conditions of a LOWER_LATE abort (R126). -/
def State.LowerLate (s : State) : Prop :=
  (∃ p, s.psq.plan = some p ∧ p.kind.lowers = true) ∧ s.psq.step ∈ [some Step.ramp, some .openBrk, some .lower] ∧
    ∃ k, (s.slots.get k).enabled = true ∧ ¬ ((s.slots.get k).down.acc = true ∧ (s.slots.get k).prv = 0) ∧
      ¬ ((s.slots.get k).state = .locked ∧ (s.slots.get k).locks.stuckUp = true)

section Deadline
variable {s : State} {deadline : Pos}

theorem State.lowerLate_iff : s.LowerLate ↔ (s.psq.step = some .ramp ∨ s.psq.step = some .openBrk ∨ s.psq.step = some .lower) ∧
    (s.psq.plan.map (fun p => p.kind.lowers)).getD false = true ∧ s.allLowered = false := by
  have hplan : (∃ p, s.psq.plan = some p ∧ p.kind.lowers = true) ↔ (s.psq.plan.map (fun p => p.kind.lowers)).getD false = true := by
    cases s.psq.plan <;> simp
  have hslots : (∃ k, (s.slots.get k).enabled = true ∧ ¬ ((s.slots.get k).down.acc = true ∧ (s.slots.get k).prv = 0) ∧
      ¬ ((s.slots.get k).state = .locked ∧ (s.slots.get k).locks.stuckUp = true)) ↔ s.allLowered = false := by
    rw [← Bool.not_eq_true, State.allLowered_iff]
    simp only [not_forall, not_or, exists_prop]
  rw [State.LowerLate, hplan, hslots]
  simp only [List.mem_cons, List.not_mem_nil, or_false]
  exact and_left_comm

theorem State.emergencyOpen_eq (s : State) : (if s.bki.state = .opened then s
    else State.openNow { s with psq := { s.psq with emergency := s.psq.emergency || s.bki.shut } }) = s.emergencyOpen := by
  unfold State.emergencyOpen
  by_cases hshut : s.bki.state = .closing ∨ s.bki.state = .closed
  · have hopen : s.bki.state ≠ .opened := by rintro hb; simp [hb] at hshut
    have hemergency : (s.psq.emergency || s.bki.shut) = true := by rw [Bki.shut_iff.mpr hshut, Bool.or_true]
    rw [if_neg hopen, if_pos hshut, hemergency, ← State.brkEnterOpening_eq]
    exact if_pos (Bki.shut_iff.mpr hshut)
  · have hemergency : (s.psq.emergency || s.bki.shut) = s.psq.emergency := by
      rw [Bool.eq_false_iff.mpr (mt Bki.shut_iff.mp hshut), Bool.or_false]
    rw [if_neg hshut, hemergency]
    split
    · rfl
    · exact if_neg (mt Bki.shut_iff.mp hshut)

/-- Out of a passage, or short of the deadline, the tests do nothing (R125). -/
theorem State.deadlineTests_of_not_due (h : ¬ (s.psq.phase = .active ∧ reached s.pe.e deadline = true)) : s.deadlineTests deadline = s :=
  if_neg h

theorem State.deadlineTests_of_not_late (hphase : s.psq.phase = .active) (hreach : reached s.pe.e deadline = true) (h : ¬ s.LowerLate) :
    s.deadlineTests deadline = s.emergencyOpen := by
  rw [← State.emergencyOpen_eq]
  exact (if_pos ⟨hphase, hreach⟩).trans (if_neg (mt State.lowerLate_iff.mpr h))

/-- A passage that is late sets FAST holds and aborts, with the step of the update recorded (R126; log 13). -/
theorem State.deadlineTests_of_late (hphase : s.psq.phase = .active) (hreach : reached s.pe.e deadline = true) (h : s.LowerLate) :
    s.deadlineTests deadline = (s.emergencyOpen.setHolds .fast).abortWith .lowerLate s.psq.step := by
  rw [← State.emergencyOpen_eq]
  exact (if_pos ⟨hphase, hreach⟩).trans (if_pos (State.lowerLate_iff.mp h))

theorem State.emergencyOpen_frame (s : State) : s.emergencyOpen.slots = s.slots ∧ s.emergencyOpen.teq = s.teq := by
  unfold State.emergencyOpen
  split
  · rw [← State.brkEnterOpening_eq]
    simp
  · exact ⟨rfl, rfl⟩

end Deadline

/-- Settles O51: each step's test by the step's own lemma, then what follows it, the starts, and the deadline tests. -/
theorem passageMovesByTheirTables : Obligations.PassageMovesByTheirTables := by
  unfold Obligations.PassageMovesByTheirTables
  intro openingOf
  refine ⟨fun s c => ?_, fun s => ?_, fun s deadline => ?_⟩
  · intro lowers noOpen target x locked collecting
    have hlocked (k : SlotId) : (x k).countsLocked = true ↔ locked k := Slot.countsLocked_iff
    refine ⟨fun h => ⟨fun hb => ?_, fun hb hc ht => ?_, fun hb hc ht => ?_, fun hb ht hr => ?_⟩, State.stepMove_openBrk c,
      State.stepMove_of_noOpen c, fun hn => ⟨fun h => ?_, fun p h hp hc => ?_, fun h => ?_, fun h => ?_⟩,
      fun st => State.stepMove_go_lt, fun n =>
        ⟨State.advance_of_stay n, fun st => State.advance_of_go n, fun e r he h => ?_, fun e he h => ?_⟩⟩
    · rw [State.stepMove_ramp c h, if_pos hb]
    · rw [State.stepMove_ramp c h, if_neg (not_not.mpr hb), if_pos ⟨hc, ht⟩]
    · rw [State.stepMove_ramp c h, if_neg (not_not.mpr hb), if_pos (c := c = .start ∧ s.tRamp = 0) ⟨hc, ht⟩, ite_self]
    · rw [State.stepMove_ramp c h, if_neg (not_not.mpr hb), if_neg (fun ⟨_, hle⟩ => not_le.mpr ht hle),
        if_neg fun ⟨_, hzero⟩ => hr.ne' hzero]
    · intro lowered
      rw [State.stepMove_lower c hn h]
      exact ⟨fun hl => if_pos (State.allLowered_iff.mpr hl), fun hl => if_neg (mt State.allLowered_iff.mp hl)⟩
    · intro cleared
      rw [State.stepMove_coast c hn h]
      exact ⟨fun hl => if_pos ⟨hc, (State.planCleared_iff hp).mpr hl⟩,
        fun hl => if_neg fun ⟨_, h⟩ => hl ((State.planCleared_iff hp).mp h)⟩
    · rw [State.stepMove_reraise c hn h]
      refine ⟨State.reraiseMove_of_none, fun hsome hall => State.reraiseMove_of_locked hsome fun k hk => (hlocked k).mpr (hall k hk),
        fun ⟨k, hk, hfree⟩ => ?_⟩
      have hunlocked : ∃ k, s.targetRole k = .collect ∧ ¬ (s.slots.get k).countsLocked = true := ⟨k, hk, mt (hlocked k).mp hfree⟩
      refine ⟨State.reraiseMove_of_inPlace hunlocked, fun hserves hall => State.reraiseMove_of_collecting hunlocked hserves
        fun k hk => (hall k hk).imp_right (hlocked k).mpr, fun ⟨k, hk, hplace⟩ hno => ?_⟩
      refine State.reraiseMove_of_neither hunlocked (fun hall => hplace (hall k hk)) fun ⟨⟨i, hi, hserves⟩, hall⟩ => ?_
      obtain hno | ⟨j, hj, hidle, hfree⟩ := hno
      · exact hno i hi hserves
      · exact (hall j hj).elim hidle (mt (hlocked j).mp hfree)
    · intro confirms
      rw [State.stepMove_confirm c hn h]
      exact ⟨State.confirmMove_of_confirms, State.confirmMove_of_not_confirms⟩
    · rw [State.advance_of_close n h, State.closeActive_of_active he]
    · rw [State.advance_of_noOpen n h, State.abortNoOpen, State.abortWith_of_active (by rw [State.setHolds_teq, he])]
      rfl
  · intro begun shut release free
    refine ⟨fun h => ?_, fun h => ?_, State.startStep_openBrk_of_not_shut, State.startStep_openBrk_of_shut, rfl, rfl, rfl,
      fun p hp => ⟨fun hk => ?_, fun y hk => ?_⟩⟩
    · rw [State.startStep_ramp, if_neg h]
    · rw [State.startStep_ramp, if_pos h]
      rfl
    · rw [State.startStep_reraise, Psq.nextSystem_of_ne hp hk]
      exact congrArg State.releaseHolds (State.deliverPending_eq _)
    · intro u
      rw [State.startStep_reraise, Psq.nextSystem_of_boundary hp hk]
      exact congrArg State.releaseHolds (State.deliverPending_eq _)
  · intro reached shut late opened
    refine ⟨fun h => State.deadlineTests_of_not_due ?_, fun e hphase hreach he => ⟨fun h => ?_, fun h => ?_⟩⟩
    · rintro ⟨hphase, hreach⟩
      exact h.elim (fun h => h hphase) fun h => h (of_decide_eq_true hreach)
    · exact State.deadlineTests_of_not_late hphase (decide_eq_true hreach) h
    · obtain ⟨hslots, hteq⟩ := s.emergencyOpen_frame
      rw [State.deadlineTests_of_late hphase (decide_eq_true hreach) h,
        State.abortWith_of_active (e := e) (by rw [State.setHolds_teq, hteq, he])]
      refine congrArg (State.closeEntry e (.aborted .lowerLate) s.psq.step) ?_
      rw [State.setHolds, hslots]
      rfl

end Sys2Proof.Machine
end

section
/-! PROOFS. The expiry of a silence timer (R83, R193, R194): O14. -/

set_option Elab.async false

namespace Sys2Proof.Machine

/-! ### What a change of command leaves alone -/

/-- An operation leaves the supervision of both links as it is, and clears no flag (R178, R194). -/
structure State.Supervised (s t : State) : Prop where
  live : ∀ k, (t.linkOf k).live = (s.linkOf k).live := by exact fun _ => rfl
  silence : ∀ k, (t.linkOf k).silence = (s.linkOf k).silence := by exact fun _ => rfl
  flags : ∀ f, FlagSet.has s.fnu.flags f = true → FlagSet.has t.fnu.flags f = true := by exact fun _ h => h

@[simp] theorem State.Supervised.refl (s : State) : s.Supervised s := {}

theorem State.Supervised.trans {s t u : State} (h : s.Supervised t) (g : t.Supervised u) : s.Supervised u where
  live k := (g.live k).trans (h.live k)
  silence k := (g.silence k).trans (h.silence k)
  flags f hf := g.flags f (h.flags f hf)

theorem State.Kept.supervised {s t : State} (h : s.Kept t) : s.Supervised t where
  live k := by rw [State.linkOf, h.lif, State.linkOf]
  silence k := by rw [State.linkOf, h.lif, State.linkOf]
  flags := h.flags

theorem State.setHolder_supervised (s : State) (h : Option Link) (p : Option Nat) : s.Supervised (s.setHolder h p) :=
  .trans {} (State.raiseIf_kept _ _ _).supervised

theorem Link.eq_or_eq_other (k l : Link) : k = l ∨ k = l.other := by cases k <;> cases l <;> simp [Link.other]

theorem Link.other_ne (l : Link) : l.other ≠ l := by cases l <;> simp [Link.other]

theorem State.updLink_supervised (s : State) (l : Link) {f : LinkState → LinkState}
    (h : ∀ x, (f x).live = x.live ∧ (f x).silence = x.silence) : s.Supervised (s.updLink l f) := by
  have hlink (k : Link) : ((s.updLink l f).linkOf k).live = (s.linkOf k).live ∧
      ((s.updLink l f).linkOf k).silence = (s.linkOf k).silence := by
    obtain rfl | rfl := Link.eq_or_eq_other k l
    · rw [State.linkOf_updLink]
      exact h _
    · rw [State.linkOf_updLink_other]
      exact ⟨rfl, rfl⟩
  exact { live := fun k => (hlink k).left, silence := fun k => (hlink k).right }

theorem State.sendReply_supervised (s : State) (l : Link) (code : Nat) (a : Answer) : s.Supervised (s.sendReply l code a) := by
  unfold State.sendReply
  exact s.updLink_supervised l fun x => by cases x.tx <;> exact ⟨rfl, rfl⟩

theorem State.applySel_supervised (s : State) (lvl : SelLevel) : s.Supervised (s.applySel lvl) := by
  cases lvl <;> exact .trans {} (State.setHolder_supervised _ _ _)

theorem State.applyTake_supervised (s : State) (l : Link) (prio : Nat) : s.Supervised (s.applyTake l prio) := by
  unfold State.applyTake
  split
  · exact (s.setHolder_supervised _ _).trans (State.sendReply_supervised _ _ _ _)
  · exact s.sendReply_supervised _ _ _

theorem State.applyPass_supervised (s : State) (l : Link) : s.Supervised (s.applyPass l) := by
  unfold State.applyPass
  split
  · exact s.setHolder_supervised _ _
  · exact .refl s

/-- An operation made only where there is something to apply. -/
theorem State.Supervised.elim {α : Type} {s t : State} {f : α → State} (h : s.Supervised t) (hf : ∀ a, t.Supervised (f a))
    (o : Option α) : s.Supervised (o.elim t f) := by
  cases o with
  | none => exact h
  | some a => exact h.trans (hf a)

/-- The pending change taken out (R193). -/
def State.changeTaken (s : State) : State := { s with lif := { s.lif with take := none, selChange := none, pass := none } }

/-- The parts of a change in their order: the level, the take, the pass (R193). -/
theorem State.applyParts_eq (s : State) : s.applyParts =
    let s1 := s.lif.selChange.elim s.changeTaken fun lvl => s.changeTaken.applySel lvl
    let s2 := s.lif.take.elim s1 fun p => s1.applyTake p.1 p.2
    s.lif.pass.elim s2 fun l => s2.applyPass l := by
  unfold State.applyParts
  cases s.lif.selChange <;> cases s.lif.take <;> cases s.lif.pass <;> rfl

theorem State.applyParts_supervised (s : State) : s.Supervised s.applyParts := by
  have hnone : s.Supervised s.changeTaken := {}
  have hsel := hnone.elim (State.applySel_supervised _) s.lif.selChange
  have htake := hsel.elim (fun p => State.applyTake_supervised _ p.1 p.2) s.lif.take
  rw [State.applyParts_eq]
  exact htake.elim (State.applyPass_supervised _) s.lif.pass

theorem State.deferredPass_supervised (s : State) : s.Supervised s.deferredPass := by
  unfold State.deferredPass
  split
  · split <;> exact {}
  · exact {}
  · exact {}

theorem State.changeEffect_supervised (s : State) : s.Supervised s.changeEffect := by
  have h := s.applyParts_supervised.trans (State.deferredPass_supervised _)
  simp only [State.changeEffect]
  split
  · split
    · exact h.trans (State.applyParts_supervised _)
    · exact h
  · exact .refl s

theorem State.makePass_supervised (s : State) (l : Link) : s.Supervised (s.makePass l) := by
  unfold State.makePass
  split <;> exact {}

theorem State.writeDemand_supervised (s : State) (d : Demand) : s.Supervised (s.writeDemand d) := by
  rw [State.writeDemand_eq]
  exact .trans {} (State.powerWritten_kept _ _).supervised

theorem State.powerIfSilent_supervised (s : State) : s.Supervised s.powerIfSilent := by
  unfold State.powerIfSilent
  split
  · exact .refl s
  · exact s.writeDemand_supervised _

/-! ### The pass of command on silence (R193, R194) -/

/-- A request under service on a link, other than the pending take, keeps a change pending (R193). -/
theorem Lif.not_changeDue_of_serving {x : Lif} {k : Link} (hs : (x.link.get k).serving = true)
    (ht : ∀ q, x.take ≠ some (k, q)) : x.changeDue = false := by
  have hidle : x.idleForChange k = false := by
    unfold Lif.idleForChange
    cases htake : x.take with
    | none => simp [hs]
    | some p =>
      obtain ⟨j, q⟩ := p
      have hj : j ≠ k := fun h => ht q (h ▸ htake)
      simp [hs, hj]
  cases k <;> simp [Lif.changeDue, hidle]

theorem Lif.changeDue_of_idle {x : Lif} (hp : x.changePending = true) (hs : ∀ k, (x.link.get k).serving = false) :
    x.changeDue = true := by
  simp [Lif.changeDue, Lif.idleForChange, hp, hs]

theorem State.changeEffect_of_not_due {s : State} (h : s.lif.changeDue = false) : s.changeEffect = s := by
  simp [State.changeEffect, h]

/-- A pass waits behind a take or a level change that is pending, as a mark (R193; log 19). -/
theorem State.makePass_of_pending {s : State} (h : s.lif.take.isSome = true ∨ s.lif.selChange.isSome = true) (k : Link) :
    s.makePass k = { s with lif := { s.lif with passDeferred := true } } := if_pos h

theorem State.makePass_of_free {s : State} (ht : s.lif.take = none) (hsel : s.lif.selChange = none) (k : Link) :
    s.makePass k = { s with lif := { s.lif with pass := some k } } := if_neg (by simp [ht, hsel])

theorem State.deferredPass_of_not_deferred {s : State} (h : s.lif.passDeferred = false) : s.deferredPass = s := by
  have hs : s = { s with lif := { s.lif with passDeferred := false } } := by rw [← h]
  simp only [State.deferredPass, h]
  exact hs.symm

theorem State.setHolder_lif (s : State) (h : Option Link) (p : Option Nat) :
    (s.setHolder h p).lif = { s.lif with holder := h, prio := p } := by simp [State.setHolder]

/-- The state behind a pass of command to a link (R193, R194). -/
def State.passedTo (k : Link) (s : State) : State := s.changeTaken.setHolder (some k) (some 1)

/-- A pass that alone is pending and due takes effect where the holder is SILENT and the link is LIVE (R193, R194). -/
theorem State.changeEffect_of_pass {s : State} {k : Link} (hdue : s.lif.changeDue = true) (ht : s.lif.take = none)
    (hsel : s.lif.selChange = none) (hp : s.lif.pass = some k) (hdefer : s.lif.passDeferred = false)
    (hsilent : s.lif.holderSilent = true) (hlive : (s.linkOf k).live = true) : s.changeEffect = s.passedTo k := by
  have hparts : s.applyParts = s.passedTo k := by
    rw [State.applyParts_eq, ht, hsel, hp]
    exact if_pos ⟨hsilent, hlive⟩
  have hlif : (s.passedTo k).lif = { s.changeTaken.lif with holder := some k, prio := some 1 } := State.setHolder_lif _ _ _
  have hover : (s.passedTo k).lif.changeDue = false := by simp [Lif.changeDue, Lif.changePending, hlif, State.changeTaken]
  have hdefer' : (s.passedTo k).lif.passDeferred = false := by rw [hlif]; exact hdefer
  simp only [State.changeEffect, hdue, if_true, hparts, State.deferredPass_of_not_deferred hdefer', hover, Bool.false_eq_true, if_false]

/-- HANDOVER rises where the holder changes (R191, R193). -/
theorem State.passedTo_handover {s : State} {k : Link} (h : s.lif.holder ≠ some k) :
    FlagSet.has (s.passedTo k).fnu.flags .handover = true := by
  have hne : decide (some k ≠ s.changeTaken.lif.holder) = true := decide_eq_true (Ne.symm h)
  rw [State.passedTo, State.setHolder, hne]
  exact State.raiseIf_has _ _

/-! ### The link that falls silent (R194) -/

section Silence
variable {s : State} {l : Link}

/-- The link SILENT, with its supervision stopped. -/
def State.silencedLink (l : Link) (s : State) : State := s.updLink l (fun x => { x with live := false, silence := none })

/-- The holder's link SILENT, and LINK_SILENT risen. -/
def State.fallenSilent (l : Link) (s : State) : State := (s.silencedLink l).raise .linkSilent

theorem State.silencedLink_linkOf : ((s.silencedLink l).linkOf l).live = false ∧ ((s.silencedLink l).linkOf l).silence = none := by
  rw [State.silencedLink, State.linkOf_updLink]
  exact ⟨rfl, rfl⟩

theorem State.silencedLink_other : (s.silencedLink l).linkOf l.other = s.linkOf l.other := State.linkOf_updLink_other _ _ _

theorem State.silencedLink_serving (k : Link) : ((s.silencedLink l).linkOf k).serving = (s.linkOf k).serving := by
  obtain rfl | rfl := Link.eq_or_eq_other k l
  · rw [State.silencedLink, State.linkOf_updLink]
  · rw [State.silencedLink_other]

/-- Command passes, or is to pass, when the holder falls silent (R194). -/
def State.PassesFrom (l : Link) (s : State) : Prop :=
  s.lif.holder = some l ∧ s.lif.sel.acc = .opened ∧ (s.linkOf l.other).live = true

theorem State.linkSilent_of_other (h : s.lif.holder ≠ some l) : s.linkSilent? l = s.silencedLink l := if_neg h

theorem State.linkSilent_of_holder (h : s.lif.holder = some l) (hno : ¬ s.PassesFrom l) :
    s.linkSilent? l = s.fallenSilent l := by
  refine (if_pos h).trans (if_neg fun ⟨hsel, hlive⟩ => hno ⟨h, hsel, ?_⟩)
  rwa [← State.silencedLink_other]

theorem State.linkSilent_of_passes (h : s.PassesFrom l) :
    s.linkSilent? l = ((s.fallenSilent l).makePass l.other).changeEffect := by
  obtain ⟨hholder, hsel, hlive⟩ := h
  refine (if_pos hholder).trans (if_pos ⟨hsel, ?_⟩)
  exact (congrArg LinkState.live State.silencedLink_other).trans hlive

/-- Whatever follows, the link stays SILENT, the other as it was, and no flag is cleared. -/
theorem State.linkSilent_supervised : (s.silencedLink l).Supervised (s.linkSilent? l) := by
  have hraise := (State.raise_kept (s.silencedLink l) .linkSilent).supervised
  by_cases hholder : s.lif.holder = some l
  · by_cases hpass : s.PassesFrom l
    · rw [State.linkSilent_of_passes hpass]
      exact (hraise.trans (State.makePass_supervised _ _)).trans (State.changeEffect_supervised _)
    · rw [State.linkSilent_of_holder hholder hpass]
      exact hraise
  · rw [State.linkSilent_of_other hholder]
    exact .refl _

/-- LINK_SILENT rises when the holder falls silent (R194). -/
theorem State.linkSilent_flag (h : s.lif.holder = some l) : FlagSet.has (s.linkSilent? l).fnu.flags .linkSilent = true := by
  have hfallen : FlagSet.has (s.fallenSilent l).fnu.flags .linkSilent = true := Fnu.raise_has _ _
  by_cases hpass : s.PassesFrom l
  · rw [State.linkSilent_of_passes hpass]
    exact ((State.makePass_supervised _ _).trans (State.changeEffect_supervised _)).flags _ hfallen
  · rw [State.linkSilent_of_holder h hpass]
    exact hfallen

/-- Without a pass the command holder and what is pending stay (R194). -/
theorem State.linkSilent_lif_of_not_passes (h : ¬ s.PassesFrom l) : (s.linkSilent? l).lif = (s.silencedLink l).lif := by
  by_cases hholder : s.lif.holder = some l
  · rw [State.linkSilent_of_holder hholder h]
    rfl
  · rw [State.linkSilent_of_other hholder]

/-- The pass is made, and a request under service elsewhere keeps every change waiting (R193). -/
theorem State.linkSilent_of_waits (h : s.PassesFrom l) {k : Link} (hs : (s.linkOf k).serving = true)
    (ht : ∀ q, s.lif.take ≠ some (k, q)) :
    s.linkSilent? l = (s.fallenSilent l).makePass l.other := by
  rw [State.linkSilent_of_passes h]
  have hserving : ((s.silencedLink l).linkOf k).serving = true := by rw [State.silencedLink_serving, hs]
  refine State.changeEffect_of_not_due (Lif.not_changeDue_of_serving (k := k) ?_ ?_)
  · unfold State.makePass
    split <;> exact hserving
  · unfold State.makePass
    split <;> exact ht

/-- With nothing else pending and no request under service command passes at once (R193, R194). -/
theorem State.linkSilent_of_idle (h : s.PassesFrom l) (ht : s.lif.take = none) (hsel : s.lif.selChange = none)
    (hdefer : s.lif.passDeferred = false) (hs : ∀ k, (s.linkOf k).serving = false) :
    s.linkSilent? l = (s.fallenSilent l).passedTo l.other := by
  obtain ⟨hholder, _, hlive⟩ := id h
  have hsilent : (s.silencedLink l).lif.holderSilent = true := by
    have hlink : ((s.silencedLink l).lif.link.get l).live = false := State.silencedLink_linkOf.left
    have hholder' : (s.silencedLink l).lif.holder = some l := hholder
    simp only [Lif.holderSilent, hholder', hlink, Bool.not_false]
  have hserving (k : Link) : ((s.silencedLink l).linkOf k).serving = false := by rw [State.silencedLink_serving, hs]
  have hlive' : ((s.silencedLink l).linkOf l.other).live = true := by rw [State.silencedLink_other, hlive]
  rw [State.linkSilent_of_passes h, State.makePass_of_free (s := s.fallenSilent l) ht hsel]
  refine State.changeEffect_of_pass (k := l.other) (Lif.changeDue_of_idle ?_ hserving) ht hsel rfl hdefer hsilent hlive'
  simp [Lif.changePending]

/-- Behind a SILENT link the power of the Demand record is 0 with the other link SILENT too, and otherwise it stays (R83, R194). -/
theorem State.powerIfSilent_power {u : State} (h : (u.linkOf l).live = false) : u.powerIfSilent.cs.demand.power =
    if (u.linkOf l.other).live = true then u.cs.demand.power else false := by
  have hany : ((u.linkOf .a).live = true ∨ (u.linkOf .b).live = true) ↔ (u.linkOf l.other).live = true := by
    cases l <;> simp [Link.other, h]
  unfold State.powerIfSilent
  split
  next hlive => rw [if_pos (hany.mp hlive)]
  next hsilent =>
    rw [if_neg (mt hany.mpr hsilent)]
    simp [State.writeDemand]

theorem State.powerIfSilent_lif (u : State) : u.powerIfSilent.lif = u.lif := by
  unfold State.powerIfSilent
  split <;> simp

/-! ### The expiry of a silence timer -/

/-- The state behind an expiry: the link SILENT, the power of R83, and the results handed on (R194). -/
def State.silenceExpired (l : Link) (s : State) : State := (s.linkSilent? l).powerIfSilent.handOn

theorem exec_silenceTimerExpiry (hrun : s.inReset = false) (hdue : (s.linkOf l).silence.isSome = true) :
    exec (.silenceTimerExpiry l) s = .next (s.silenceExpired l) :=
  congrArg Host.Outcome.next ((whenRunning_of_running hrun _).trans (if_pos hdue))

theorem State.silenceExpired_lif : (s.silenceExpired l).lif = (s.linkSilent? l).lif := by
  rw [State.silenceExpired, (State.handOn_framed _).lif, State.powerIfSilent_lif]

theorem State.silenceExpired_flags {f : Flag} (h : FlagSet.has (s.linkSilent? l).fnu.flags f = true) :
    FlagSet.has (s.silenceExpired l).fnu.flags f = true := by
  rw [State.silenceExpired]
  exact (State.handOn_framed (s.linkSilent? l).powerIfSilent).flags f ((State.powerIfSilent_supervised (s.linkSilent? l)).flags f h)

theorem State.silenceExpired_linkOf :
    ((s.silenceExpired l).linkOf l).live = false ∧ ((s.silenceExpired l).linkOf l).silence = none := by
  have hsup := State.linkSilent_supervised (s := s) (l := l)
  obtain ⟨hlive, hsilence⟩ := State.silencedLink_linkOf (s := s) (l := l)
  have hlink : (s.silenceExpired l).linkOf l = (s.linkSilent? l).linkOf l := by
    rw [State.linkOf, State.silenceExpired_lif, State.linkOf]
  exact ⟨by rw [hlink, hsup.live, hlive], by rw [hlink, hsup.silence, hsilence]⟩

theorem State.silenceExpired_power : (s.silenceExpired l).cs.demand.power =
    if (s.linkOf l.other).live = true then s.cs.demand.power else false := by
  have hsup := State.linkSilent_supervised (s := s) (l := l)
  obtain ⟨hlive, _⟩ := State.silencedLink_linkOf (s := s) (l := l)
  rw [State.silenceExpired, (State.handOn_framed _).demand]
  refine (State.powerIfSilent_power ((hsup.live l).trans hlive)).trans ?_
  rw [hsup.live, State.silencedLink_other, State.linkSilent_cs]

end Silence

/-- Settles O14: the link and its flag whatever follows; then without a pass, with one at once, and with one that waits. -/
theorem silenceExpiryBySupervision : Obligations.SilenceExpiryBySupervision := by
  intro s l hrun hdue
  obtain ⟨hlive, hsilence⟩ := State.silenceExpired_linkOf (s := s) (l := l)
  have hpower := State.silenceExpired_power (s := s) (l := l)
  refine ⟨s.silenceExpired l, exec_silenceTimerExpiry hrun hdue, hlive, hsilence,
    fun hh => State.silenceExpired_flags (State.linkSilent_flag hh), fun ho => ?_, fun ho => ?_, fun hno => ?_,
    fun hh hsel ho ht hs hd => ⟨fun hidle => ?_, ?_⟩, fun hh hsel ho hwait => ?_⟩
  · rw [hpower, if_neg (by simp [ho])]
  · rw [hpower, if_pos ho]
  · have hpass : ¬ s.PassesFrom l := by
      rintro ⟨hh, hsel, ho⟩
      simp [hh, hsel, ho] at hno
    rw [State.silenceExpired_lif, State.linkSilent_lif_of_not_passes hpass]
    exact ⟨rfl, rfl, rfl⟩
  · have heq := State.linkSilent_of_idle ⟨hh, hsel, ho⟩ ht hs hd hidle
    have hne : s.lif.holder ≠ some l.other := by simp [hh, (Link.other_ne l).symm]
    have hhandover := State.passedTo_handover (s := s.fallenSilent l) (k := l.other) hne
    rw [← heq] at hhandover
    rw [State.silenceExpired_lif, heq, State.passedTo, State.setHolder_lif]
    exact ⟨rfl, rfl, rfl, State.silenceExpired_flags hhandover⟩
  · rintro ⟨k, hk⟩
    rw [State.silenceExpired_lif, State.linkSilent_of_waits ⟨hh, hsel, ho⟩ hk (by simp [ht]),
      State.makePass_of_free (s := s.fallenSilent l) ht hs]
    exact ⟨hh, rfl⟩
  · have hwaits : (s.lif.take.isSome = true ∨ s.lif.selChange.isSome = true) ∧
        ∃ k, (s.linkOf k).serving = true ∧ ∀ q, s.lif.take ≠ some (k, q) := by
      obtain ⟨ht, hs, k, hk⟩ | ⟨k, q, ht, hk⟩ := hwait
      · exact ⟨.inr hs, k, hk, by simp [ht]⟩
      · exact ⟨.inl (by simp [ht]), k.other, hk, by simp [ht, (Link.other_ne k).symm]⟩
    obtain ⟨hpending, k, hk, hother⟩ := hwaits
    rw [State.silenceExpired_lif, State.linkSilent_of_waits ⟨hh, hsel, ho⟩ hk hother,
      State.makePass_of_pending (s := s.fallenSilent l) hpending]
    exact ⟨hh, rfl, rfl, rfl, rfl, rfl⟩

end Sys2Proof.Machine
end

section
/-! PROOFS. The close interlock and the wrong-system latch, state by state (R101 to R104, R110, R132), and O48. -/

set_option Elab.async false

namespace Sys2Proof.Machine

/-! ### The items of the interlock -/

theorem Items.all_iff {i : Items} : i.all = true ↔
    i.a = true ∧ i.b = true ∧ i.c = true ∧ i.d = true ∧ i.e = true ∧ i.f = true ∧ i.g = true := by
  simp [Items.all, and_assoc]

/-- A slot qualifies for item (c) by its state, role and disconnector, its mask, and the expected system where one is set (R101). -/
theorem Slot.qualifies_eq (x : Slot) (c : LineClass) (e : Option LineSystem) : x.qualifies c e =
    (decide (x.state = .up ∧ x.role = .collect ∧ x.dsc.state = .closed) && c.inMask x.mask &&
      e.all (fun y => decide (c = .sys y))) := by
  cases e <;> simp [Slot.qualifies, Bool.and_assoc]

theorem State.itemsNow_eq (s : State) : s.itemsNow =
    { a := !(s.bki.wrongLatch || s.lsu.overvolt || s.csu.overloadLatch || s.bki.brkFault),
      b := s.cs.demand.power && s.lif.holder.isSome,
      c := s.slots.any (fun x => decide (x.state = .up ∧ x.role = .collect ∧ x.dsc.state = .closed) &&
        s.lsu.confirmed.inMask x.mask && s.cs.demand.expected.all (fun e => decide (s.lsu.confirmed = .sys e))),
      d := !s.teq.entries.any (fun e => e.kind.isSection && decide (e.status = .active)),
      e := !s.teq.halted,
      f := decide (s.pe.status ≠ .lost) || !s.teq.entries.any (fun e => e.kind.isSection),
      g := s.bki.reclose.isNone } := by
  simp only [State.itemsNow, State.inhibited, Slot.qualifies_eq, Teq.anyActive, Teq.sectionQueued]

/-! ### The interlock, state by state -/

section Interlock
variable {s : State}

theorem State.interlock_of_opened (h : s.bki.state = .opened) : s.interlock =
    if s.itemsNow.all then s.testItems.brkEnterClosing
    else { s.testItems with bki := { s.testItems.bki with hold := false } } := by
  simp only [State.interlock, h]

theorem State.interlock_of_closing (h : s.bki.state = .closing) : s.interlock =
    if s.itemsNow.all then s.testItems else s.testItems.brkEnterOpening := by
  simp only [State.interlock, h]

theorem State.interlock_of_closed (h : s.bki.state = .closed) : s.interlock =
    if s.mustOpen then s.brkEnterOpening else s := by
  simp only [State.interlock, h]

theorem State.interlock_of_open_or_failed (h : s.bki.state = .opening ∨ s.bki.state = .failed) :
    s.interlock = { s with bki := { s.bki with hold := false } } := by
  obtain h | h := h <;> simp only [State.interlock, h]

/-- What opens a CLOSED breaker: a latched inhibit, no qualifying collector, a HALTED queue, or a passage beyond RAMP (R103). -/
theorem State.mustOpen_iff : s.mustOpen = true ↔ (s.itemsNow.a = false ∨ s.itemsNow.c = false ∨ s.itemsNow.e = false) ∨
    (s.itemsNow.d = false ∧ s.psq.step ≠ some .ramp) := by
  simp [State.mustOpen, State.itemsNow, or_assoc]

theorem State.brkEnterOpening_bki_of_released (h : s.bki.aux.acc = false) : s.brkEnterOpening.bki =
    { s.bki with state := .opened, kind := none, hold := false, sup := none, ramp := none } := by
  rw [State.brkEnterOpening_of_released h, State.releaseDemand_bki]

end Interlock

/-! ### The wrong-system latch -/

section Wrong
variable {s : State}

/-- R110 in the words of the statement. -/
theorem State.wrongNow_iff : s.wrongNow = true ↔ s.lsu.confirmed ≠ .none ∧
    (∃ e, s.cs.demand.expected = some e ∧ s.lsu.confirmed ≠ .sys e) ∧
      ∃ k, (s.slots.get k).state = .up ∧ (s.slots.get k).role = .collect := by
  rw [State.wrongNow_eq, Bool.and_eq_true, Bool.and_eq_true, and_assoc]
  refine and_congr (by simp) (and_congr (by simp [Option.any_eq_true]) ?_)
  simp [PerSlot.any_iff]

/-- The latch rises with the condition where it was clear and the condition new (R110). -/
theorem State.wrongTest_of_rise (hw : s.wrongNow = true) (hc : s.bki.wrongCond = false) (hl : s.bki.wrongLatch = false) :
    s.wrongTest = State.raise { s with bki := { s.bki with wrongCond := true, wrongLatch := true } } .wrongSystem := by
  simp [State.wrongTest, State.raiseIf, hw, hc, hl]

/-- With no rise the condition alone is written. -/
theorem State.wrongTest_of_no_rise (h : s.wrongNow = true → s.bki.wrongCond = true ∨ s.bki.wrongLatch = true) :
    s.wrongTest = { s with bki := { s.bki with wrongCond := s.wrongNow } } := by
  have hsets : (s.wrongNow && !s.bki.wrongCond && !s.bki.wrongLatch) = false := by
    cases hw : s.wrongNow with
    | false => rfl
    | true => obtain h | h := h hw <;> simp [h]
  simp [State.wrongTest, State.raiseIf, hsets]

/-- With no rise of the latch, no passage is aborted (R132). -/
theorem State.bkiReact_of_no_rise (h : s.wrongNow = true → s.bki.wrongCond = true ∨ s.bki.wrongLatch = true) :
    s.bkiReact = State.interlock { s with bki := { s.bki with wrongCond := s.wrongNow } } := by
  have hlatch : ¬ (s.bki.wrongLatch = true ∧ s.bki.wrongLatch = false ∧
      (State.interlock { s with bki := { s.bki with wrongCond := s.wrongNow } }).psq.phase = .active) := by
    rintro ⟨h1, h2, -⟩
    exact Bool.false_ne_true (h2.symm.trans h1)
  simp only [State.bkiReact, State.wrongTest_of_no_rise h, if_neg hlatch]

/-- At a rise of the latch the interlock is tested, and then a passage is aborted (R110, R132). -/
theorem State.bkiReact_of_rise (hw : s.wrongNow = true) (hc : s.bki.wrongCond = false) (hl : s.bki.wrongLatch = false) :
    s.bkiReact = if s.psq.phase = .active then s.wrongTest.interlock.abortWith .wrongSystem s.psq.step
      else s.wrongTest.interlock := by
  have hset : s.wrongTest.bki.wrongLatch = true := by rw [State.wrongTest_of_rise hw hc hl]; rfl
  simp only [State.bkiReact, hset, hl, State.interlock_psq, State.wrongTest_psq, true_and]

end Wrong

/-- Settles O48: the interlock's branch for each breaker state, and the latch with a rise and without one. -/
theorem interlockByItsRows : Obligations.InterlockByItsRows := by
  refine ⟨fun s => ?_, fun s => ?_⟩
  · intro b i every opening tested
    have hi : s.itemsNow = i := s.itemsNow_eq
    have hall : s.itemsNow.all = true ↔ every := hi ▸ Items.all_iff
    have htested : s.testItems = { s with bki := tested } := by rw [State.testItems, hi]
    refine ⟨fun ho he => ?_, fun ho he => ?_, fun hc he => ?_, fun hc he => ⟨fun ha => ?_, fun ha => ?_⟩, fun hc ha hopen => ?_,
      fun hc h1 h3 h5 h4 => ?_, State.interlock_of_open_or_failed⟩
    · rw [State.interlock_of_opened ho, if_pos (hall.mpr he), htested]
      rfl
    · rw [State.interlock_of_opened ho, if_neg (mt hall.mp he), htested]
    · rw [State.interlock_of_closing hc, if_pos (hall.mpr he), htested]
    · rw [State.interlock_of_closing hc, if_neg (mt hall.mp he), htested,
        State.brkEnterOpening_of_aux (s := { s with bki := tested }) ha]
      rfl
    · rw [State.interlock_of_closing hc, if_neg (mt hall.mp he), htested,
        State.brkEnterOpening_bki_of_released (s := { s with bki := tested }) ha]
    · rw [← hi] at hopen
      rw [State.interlock_of_closed hc, if_pos (State.mustOpen_iff.mpr (.inl hopen)), State.brkEnterOpening_of_aux ha]
      rfl
    · rw [← hi] at h1 h3 h4 h5
      rw [State.interlock_of_closed hc, if_neg]
      rw [State.mustOpen_iff]
      rintro ((h | h | h) | ⟨h, hstep⟩)
      · exact Bool.false_ne_true (h.symm.trans h1)
      · exact Bool.false_ne_true (h.symm.trans h3)
      · exact Bool.false_ne_true (h.symm.trans h5)
      · exact hstep (h4 h)
  · intro wrong rises latched
    have hwrong : s.wrongNow = true ↔ wrong := State.wrongNow_iff
    refine ⟨fun ⟨hw, hc, hl⟩ => ?_, fun hw hset => ?_, fun hw => ?_⟩
    · have hreact := State.bkiReact_of_rise (hwrong.mpr hw) hc hl
      rw [State.wrongTest_of_rise (hwrong.mpr hw) hc hl] at hreact
      refine ⟨fun e hphase he => ?_, fun hphase => ?_⟩
      · have hactive : latched.interlock.teq.activeEntry = some e := by simpa [latched] using he
        rw [hreact, if_pos hphase]
        exact State.abortWith_of_active hactive _ _
      · rw [hreact, if_neg hphase]
    · rw [State.bkiReact_of_no_rise fun _ => hset, hwrong.mpr hw]
    · have hnot : s.wrongNow = false := Bool.eq_false_iff.mpr (mt hwrong.mp hw)
      rw [State.bkiReact_of_no_rise (by simp [hnot]), hnot]

end Sys2Proof.Machine
end

section
/-! PROOFS. The law of BRK_HOLD under the interlock, the hand-over and every command (R103), and O49. -/

set_option Elab.async false

namespace Sys2Proof.Machine

/-! ### The law and the interlock

The tests that the interlock makes in OPEN, CLOSING and CLOSED each leave the hold asserted only where R103 allows it, whatever the
state before: so the law holds after every reaction of the Breaker Interface, and with it after every hand-over. -/

/-- What R103 asks of an asserted hold. -/
def State.holdAllowed (s : State) : Prop :=
  s.slots.any (fun x => x.qualifies s.lsu.confirmed s.cs.demand.expected) = true ∧ s.inhibited = false ∧
    s.teq.halted = false ∧ (s.teq.anyActive = true → s.psq.step = some .ramp)

theorem State.holdLaw_of_allowed {s : State} (h : s.holdAllowed) : s.holdLaw := fun _ => h

/-- The hold is allowed exactly where CLOSED finds no reason to open. -/
theorem State.holdAllowed_iff {s : State} : s.holdAllowed ↔ ¬ s.mustOpen = true := by
  simp only [State.mustOpen_iff, State.itemsNow, State.holdAllowed]
  grind

/-- With all items no section is ACTIVE, so the hold is allowed. -/
theorem State.holdAllowed_of_all {s : State} (h : s.itemsNow.all = true) : s.holdAllowed := by
  obtain ⟨ha, -, hc, hd, he, -, -⟩ := Items.all_iff.mp h
  rw [State.holdAllowed_iff, State.mustOpen_iff]
  simp [ha, hc, hd, he]

theorem State.brkEnterOpening_hold (s : State) : s.brkEnterOpening.bki.hold = false := by
  cases ha : s.bki.aux.acc with
  | true => rw [State.brkEnterOpening_of_aux ha]
  | false => rw [State.brkEnterOpening_bki_of_released ha]

/-- R103: the interlock leaves the hold as the law has it, whatever it was. -/
theorem State.interlock_holdLaw (s : State) : s.interlock.holdLaw := by
  cases hstate : s.bki.state with
  | opened =>
    rw [State.interlock_of_opened hstate]
    split
    next hall => exact State.holdLaw_of_allowed (State.holdAllowed_of_all hall)
    next => exact State.holdLaw_of_no_hold rfl
  | closing =>
    rw [State.interlock_of_closing hstate]
    split
    next hall => exact State.holdLaw_of_allowed (State.holdAllowed_of_all hall)
    next => exact State.holdLaw_of_no_hold (State.brkEnterOpening_hold _)
  | closed =>
    rw [State.interlock_of_closed hstate]
    split
    next => exact State.holdLaw_of_no_hold (State.brkEnterOpening_hold _)
    next hstay => exact State.holdLaw_of_allowed (State.holdAllowed_iff.mpr hstay)
  | opening => rw [State.interlock_of_open_or_failed (.inl hstate)]; exact State.holdLaw_of_no_hold rfl
  | failed => rw [State.interlock_of_open_or_failed (.inr hstate)]; exact State.holdLaw_of_no_hold rfl

/-- Behind a latched WRONG_SYSTEM the interlock leaves no hold (R101, R103). -/
theorem State.interlock_hold_of_wrongLatch {s : State} (h : s.bki.wrongLatch = true) : s.interlock.bki.hold = false := by
  have hlatch : s.interlock.inhibited = true := by simp [State.inhibited, s.interlock_kept.wrongLatch h]
  by_contra hhold
  obtain ⟨-, hinhibited, -⟩ := s.interlock_holdLaw (Bool.eq_true_of_not_eq_false hhold)
  exact Bool.false_ne_true (hinhibited.symm.trans hlatch)

/-- The abort of a passage comes with the latch set, so it finds no hold (R132). -/
theorem State.bkiReact_holdLaw (s : State) : s.bkiReact.holdLaw := by
  simp only [State.bkiReact]
  split
  next h =>
    obtain ⟨hlatch, -⟩ := h
    exact State.holdLaw_of_no_hold (by rw [State.abortWith_bki, State.interlock_hold_of_wrongLatch hlatch])
  next => exact State.interlock_holdLaw _

/-! ### What the law reads -/

/-- What the law of the hold reads: the hold, the qualifying slots, the inhibits, the halt, the ACTIVE entries and the step. -/
def State.holdView (s : State) : Bool × Bool × Bool × Bool × Bool × Option Step :=
  (s.bki.hold, s.slots.any (fun x => x.qualifies s.lsu.confirmed s.cs.demand.expected), s.inhibited, s.teq.halted, s.teq.anyActive,
    s.psq.step)

theorem State.holdLaw_of_view {s t : State} (hs : s.holdLaw) (h : t.holdView = s.holdView) : t.holdLaw := by
  simp only [State.holdView, Prod.mk.injEq] at h
  obtain ⟨hhold, hqualifies, hinhibited, hhalted, hactive, hstep⟩ := h
  simp only [State.holdLaw, hhold, hqualifies, hinhibited, hhalted, hactive, hstep]
  exact hs

/-- The flags, the estimate, the Ice Unit and the Link Interface stand in no part of the law. -/
theorem State.holdLaw_of_blocks {s t : State} (hs : s.holdLaw) (hbki : t.bki = s.bki := by simp)
    (hslots : t.slots = s.slots := by simp) (hlsu : t.lsu = s.lsu := by simp) (hcs : t.cs = s.cs := by simp)
    (hteq : t.teq = s.teq := by simp) (hpsq : t.psq = s.psq := by simp) (hcsu : t.csu = s.csu := by simp) : t.holdLaw :=
  State.holdLaw_of_view hs (by simp only [State.holdView, State.inhibited, hbki, hslots, hlsu, hcs, hteq, hpsq, hcsu])

theorem State.troUpdate_holdView (s : State) : s.troUpdate.holdView = s.holdView := by
  simp [State.holdView, State.inhibited, State.troUpdate_csu]

/-- A test over the slots does not see one value replaced by another on which it agrees. -/
theorem PerSlot.any_set_of_eq {α : Type} {p : PerSlot α} {k : SlotId} {x : α} {f : α → Bool} (h : f x = f (p.get k)) :
    (p.set k x).any f = p.any f := by
  cases k <;> simp_all [PerSlot.any, PerSlot.set, PerSlot.get]

theorem State.rawLevel_holdView (s : State) (i : RawInput) : (s.rawLevel i).holdView = s.holdView := by
  have hset (k : SlotId) (d ct a f : Filter) :
      State.holdView { s with slots := s.slots.set k { s.slots.get k with down := d, contact := ct, add := a, dsf := f } } =
        s.holdView := by
    have hany := PerSlot.any_set_of_eq (p := s.slots) (k := k)
      (x := { s.slots.get k with down := d, contact := ct, add := a, dsf := f })
      (f := fun x => x.qualifies s.lsu.confirmed s.cs.demand.expected) rfl
    simp only [State.holdView, State.inhibited, hany]
  cases i with
  | dn k b => exact hset k _ _ _ _
  | ct k b => exact hset k _ _ _ _
  | add k b => exact hset k _ _ _ _
  | dsf k b => exact hset k _ _ _ _
  | aux b => rfl
  | sel lvl => rfl

/-! ### Handing on -/

/-- A round ends with the reaction of the Breaker Interface. -/
theorem State.settle_holdLaw (s : State) : s.settle.holdLaw := s.icuReact.csReact.csuReact.bkiReact_holdLaw

theorem State.rounds_holdLaw (n : Nat) {s : State} (h : s.holdLaw) : (State.rounds n s).holdLaw := by
  induction n generalizing s with
  | zero => exact h
  | succ n ih => exact ih s.puReact.psqReact.settle_holdLaw

theorem State.pointsTidy_holdLaw {s : State} (h : s.holdLaw) : s.pointsTidy.holdLaw := by
  unfold State.pointsTidy
  split <;> exact h

/-- Every hand-over ends with the law of the hold, whatever it began with. -/
@[simp] theorem State.handOn_holdLaw (s : State) : s.handOn.holdLaw :=
  State.pointsTidy_holdLaw (State.rounds_holdLaw _ s.settle_holdLaw)

@[simp] theorem State.estimateUpdate_holdLaw (s : State) : s.estimateUpdate.holdLaw := State.handOn_holdLaw _

@[simp] theorem State.slotEvent_holdLaw (s : State) (k : SlotId) (r : Slot × List Flag) : (s.slotEvent k r).holdLaw :=
  State.handOn_holdLaw _

@[simp] theorem State.report_holdLaw (s : State) (pos : Pos) (v u : Nat) : (s.report pos v u).holdLaw :=
  State.estimateUpdate_holdLaw _

/-! ### Operations that hand nothing on -/

section Operations
variable {s : State} (h : s.holdLaw)
include h

theorem State.holderHandOn_holdLaw (before : Option Link) : (s.holderHandOn before).holdLaw := by
  unfold State.holderHandOn
  split <;> simp [h]

theorem State.receive_holdLaw (l : Link) (b : Byte) : (s.receive l b).holdLaw := by
  simp only [State.receive, State.frameComplete]
  (repeat' split)
  · exact h
  · exact h
  · exact h
  · exact State.holderHandOn_holdLaw (State.holdLaw_of_blocks h) _
  · exact h
  · exact h

theorem State.gateEnded_holdLaw : s.gateEnded.holdLaw := by
  unfold State.gateEnded
  split
  · exact State.handOn_holdLaw _
  · exact h

theorem State.frameEnd_holdLaw (l : Link) : (s.frameEnd l).holdLaw := by
  unfold State.frameEnd
  split
  · exact h
  · exact State.holdLaw_of_blocks h
  · split
    · exact State.holdLaw_of_no_hold rfl
    · exact State.holdLaw_of_blocks h

end Operations

/-! ### Every command -/

section Commands
variable {s t : State} (h : s.holdLaw)
include h

theorem whenRunning_holdLaw {f : State → State} (hf : ∀ u : State, u.holdLaw → (f u).holdLaw) : (whenRunning f s).holdLaw := by
  unfold whenRunning
  split
  · exact h
  · exact hf s h

/-- Serving a request keeps the law where its owner does. -/
theorem execServe_holdLaw {owner : List Byte → State → State × Option Answer} {l : Link} {r : Req}
    (howner : ∀ p {u : State}, u.holdLaw → (owner p u).1.holdLaw) : (whenRunning (fun u => u.serve l r owner) s).holdLaw :=
  whenRunning_holdLaw h fun _ hu => State.serve_keeps (fun _ _ hv => hv) (fun p _ hv => howner p hv) hu

/-- Every command keeps the law: it hands on, resets, or leaves what the law reads as it was. -/
theorem exec_holdLaw {c : Instr} (he : exec c s = .next t) : t.holdLaw := by
  cases c with
  -- resets
  | powerOn | rstNLow => cases he; exact State.holdLaw_of_no_hold rfl
  | rstNRise =>
    cases he
    split
    · exact State.holdLaw_of_no_hold rfl
    · exact h
  | inputRawChange i =>
    cases he
    split
    · exact State.holdLaw_of_no_hold rfl
    · exact State.holdLaw_of_view h (s.rawLevel_holdView i)
  -- the links
  | frameSent l => cases he; exact whenRunning_holdLaw h fun _ hu => State.frameEnd_holdLaw hu l
  | frameReceived l b =>
    cases he
    refine whenRunning_holdLaw h fun u hu => ?_
    split
    · exact State.receive_holdLaw hu l b
    · exact hu
  | byteReceived l b stopBitError =>
    cases he
    refine whenRunning_holdLaw h fun u hu => ?_
    split
    · split <;> exact hu
    · exact State.receive_holdLaw hu l b
  | commandChangeEffect =>
    cases he
    exact whenRunning_holdLaw h fun u hu => State.holderHandOn_holdLaw (State.holdLaw_of_blocks hu) _
  | selAcceptedChange =>
    cases he
    refine whenRunning_holdLaw h fun u hu => ?_
    split
    · exact State.holderHandOn_holdLaw (State.holdLaw_of_blocks hu) _
    · exact hu
  -- requests that read, or write what the law does not read
  | readPosition | readQueue | readClosed | readLine | readSlot | readRule | readTarget | readBreaker | readPassage
  | readIce | getFlags | getStatus | readParam | resetPart => cases he; exact execServe_holdLaw h fun _ _ hu => hu
  | clearFlags | setNoticeMask | readCurrent =>
    cases he
    refine execServe_holdLaw h fun p u hu => ?_
    simp only [ownClearFlags, ownSetNoticeMask, ownReadCurrent]
    split <;> exact hu
  | clearTro =>
    cases he
    refine execServe_holdLaw h fun p u hu => ?_
    unfold ownClearTro
    split
    · exact State.holdLaw_of_view hu (State.troUpdate_holdView _)
    · exact hu
    · exact hu
    · exact hu
    · exact hu
  | takeCommand l =>
    cases he
    refine execServe_holdLaw h fun p u hu => ?_
    simp only [ownTakeCommand]
    split_ifs
    · exact hu
    · exact hu
    · exact hu
    · exact State.holderHandOn_holdLaw (State.holdLaw_of_blocks hu) _
    · exact hu
  | setParam =>
    cases he
    refine execServe_holdLaw h fun p u hu => ?_
    simp only [ownSetParam]
    split
    · exact hu
    · dsimp only
      split
      · exact State.handOn_holdLaw _
      · exact hu
  -- requests whose owner leaves the state as it is, or hands on
  | reportPosition | reverse | postEvent | cancelEvent | resumeQueue | setSlot | unlockSlot | setDemand | writeRule | clearFault =>
    cases he
    refine execServe_holdLaw h fun p u hu => ?_
    simp only [ownReportPosition, ownReverse, ownPostEvent, ownCancelEvent, ownResumeQueue, ownSetSlot, ownUnlockSlot, ownSetDemand,
      ownWriteRule, ownClearFault]
    (repeat' split) <;> simp [hu]
  -- events that change nothing the law reads, and hand nothing on
  | rxGapTimeout | unknownReq | noticeStart | lsMagSample | heaterDriveEdge | tripWindowExpiry | widthHalfPoint | dropoutTimerExpiry
  | rfcCxRisingEdge =>
    cases he
    refine whenRunning_holdLaw h fun u hu => ?_
    (repeat' split) <;> exact hu
  | widthTimerEnd =>
    cases he
    refine whenRunning_holdLaw h fun u hu => ?_
    split
    · exact State.holdLaw_of_view hu (State.troUpdate_holdView _)
    · exact hu
  -- events that hand on in one of their cases
  | positionRefresh =>
    cases he
    refine whenRunning_holdLaw h fun u hu => ?_
    split
    · exact hu
    · exact State.estimateUpdate_holdLaw _
  | overloadTimerExpiry =>
    cases he
    refine whenRunning_holdLaw h fun u hu => ?_
    split
    · split
      · exact hu
      · exact State.handOn_holdLaw _
    · exact hu
  | gateEnd => cases he; exact whenRunning_holdLaw h fun u hu => State.gateEnded_holdLaw hu
  | scanCompletion =>
    cases he
    refine whenRunning_holdLaw h fun u hu => ?_
    split
    · exact State.gateEnded_holdLaw hu
    · exact hu
  -- an event of one block, handed on where it is due
  | _ =>
    cases he
    refine whenRunning_holdLaw h fun u hu => ?_
    (repeat' split) <;> simp [hu]

end Commands

/-- The clocks stand in no part of the law. -/
theorem State.elapse_holdLaw (n : Nat) {s : State} (h : s.holdLaw) : (s.elapse n).holdLaw := by
  unfold State.elapse
  split <;> exact h

/-- Settles O49: an idle step runs clocks alone, and every command keeps the law. -/
theorem holdLawKept : Obligations.HoldLawKept := by
  intro s t hs h
  unfold step at h
  split at h
  next =>
    cases h
    exact State.elapse_holdLaw 1 hs
  next c rest _ => exact exec_holdLaw (s := { s with pending := rest }) hs h

end Sys2Proof.Machine
end

section
/-! PROOFS. The aux changes and the timers of the Breaker Interface, state by state (R102, R105 to R109), and O47. -/

set_option Elab.async false

namespace Sys2Proof.Machine

/-! ### The moves of the breaker -/

/-- The release of the DEMAND reason reads and writes nothing of the Breaker Interface (R164). -/
theorem State.releaseDemand_withBki (s : State) (b : Bki) :
    State.releaseDemand { s with bki := b } = { s.releaseDemand with bki := b } := by
  simp only [State.releaseDemand_eq, State.raiseIf]
  split <;> rfl

/-- A FAILED breaker: the hold deasserted, DEMAND released, BRK_FAULT latched, and its flag where the latch was clear (R102, R107, R109). -/
def State.failedWith (kind : FailKind) (sup : Timer) (s : State) : State :=
  (State.releaseDemand { s with bki := { s.bki with
    state := .failed, kind := some kind, hold := false, sup := sup, ramp := none, brkFault := true } }).raiseIf
    (!s.bki.brkFault) .brkFault

/-- NO_CLOSE starts the open check (R108). -/
theorem State.brkEnterFailed_noClose (s : State) : s.brkEnterFailed .noClose = s.failedWith .noClose (some (s.tOpenMax * 1000)) := by
  simp only [State.brkEnterFailed, State.latchBrkFault, State.releaseDemand_withBki, State.failedWith]
  rfl

theorem State.brkEnterFailed_noOpen (s : State) : s.brkEnterFailed .noOpen = s.failedWith .noOpen none := by
  simp only [State.brkEnterFailed, State.latchBrkFault, State.releaseDemand_withBki, State.failedWith]

section AuxMade
variable {s : State}

theorem State.auxMade_of_closing (h : s.bki.state = .closing) :
    s.auxMade = { s with bki := { s.bki with state := .closed, sup := none } } := by
  simp only [State.auxMade, h]

theorem State.auxMade_of_opened (h : s.bki.state = .opened) : s.auxMade = s.brkEnterFailed .noOpen := by
  simp only [State.auxMade, h]

theorem State.auxMade_of_rest (h : s.bki.state = .closed ∨ s.bki.state = .opening ∨ s.bki.state = .failed) : s.auxMade = s := by
  obtain h | h | h := h <;> simp only [State.auxMade, h]

end AuxMade

section AuxReleased
variable {s : State}

theorem State.auxReleased_of_closed (h : s.bki.state = .closed) : s.auxReleased = s.externalTrip := by
  simp only [State.auxReleased, h]

theorem State.auxReleased_of_opening (h : s.bki.state = .opening ∨ (s.bki.state = .failed ∧ s.bki.kind = some .noOpen)) :
    s.auxReleased = s.brkEnterOpen := by
  obtain h | ⟨h, hk⟩ := h
  · simp only [State.auxReleased, h]
  · simp only [State.auxReleased, h, hk]

theorem State.auxReleased_of_rest (h : s.bki.state = .opened ∨ s.bki.state = .closing ∨
    (s.bki.state = .failed ∧ s.bki.kind ≠ some .noOpen)) : s.auxReleased = s := by
  obtain h | h | ⟨h, hk⟩ := h
  · simp only [State.auxReleased, h]
  · simp only [State.auxReleased, h]
  · rcases hkind : s.bki.kind with - | - | -
    · simp only [State.auxReleased, h, hkind]
    · simp only [State.auxReleased, h, hkind]
    · exact absurd hkind hk

end AuxReleased

/-! ### The external trip -/

/-- The breaker after an external trip: OPEN, with the reclose delay and the trip window, and BRK_FAULT at the second within the
window (R109). -/
theorem State.externalTrip_bki (s : State) : s.externalTrip.bki = { s.bki with
    state := .opened, kind := none, hold := false, sup := none, ramp := none, reclose := some (s.recloseDelay * 1000),
    tripWindow := some 60000000, brkFault := s.bki.brkFault || s.bki.tripWindow.isSome } := by
  cases h : s.bki.tripWindow.isSome <;>
    simp [State.externalTrip, State.latchBrkFault, State.brkEnterOpen, h, ms]

theorem State.externalTrip_demandHeld (s : State) : s.externalTrip.csu.demandHeld = false := by
  cases h : s.bki.tripWindow.isSome <;>
    simp [State.externalTrip, State.brkEnterOpen, State.releaseDemand_csu, h]

theorem State.externalTrip_brkTrip (s : State) : FlagSet.has s.externalTrip.fnu.flags .brkTrip = true := by
  have hraised : FlagSet.has (s.brkEnterOpen.raise .brkTrip).fnu.flags .brkTrip = true := Fnu.raise_has _ _
  cases h : s.bki.tripWindow.isSome with
  | false => simp [State.externalTrip, h]
  | true =>
    simp only [State.externalTrip, h, if_true, State.latchBrkFault]
    exact (State.raiseIf_kept _ _ _).flags _ hraised

/-- The second trip within the window raises BRK_FAULT where its latch was clear (R109). -/
theorem State.externalTrip_brkFault {s : State} (hw : s.bki.tripWindow.isSome = true) (hf : s.bki.brkFault = false) :
    FlagSet.has s.externalTrip.fnu.flags .brkFault = true := by
  simp only [State.externalTrip, hw, if_true, State.latchBrkFault, State.brkEnterOpen, State.raise_bki, State.releaseDemand_bki, hf,
    Bool.not_false]
  exact State.raiseIf_has _ _

/-- A trip touches the breaker, the DEMAND reason and the flags alone. -/
theorem State.externalTrip_frame (s : State) : s.externalTrip.lsu = s.lsu ∧ s.externalTrip.slots = s.slots ∧
    s.externalTrip.cs = s.cs ∧ s.externalTrip.psq = s.psq ∧ s.externalTrip.teq = s.teq := by
  simp

/-! ### The commands -/

section Commands
variable {s : State} (hrun : s.inReset = false)
include hrun

theorem exec_auxMade (hdue : s.bki.aux.due true) :
    exec .auxMade s = .next (State.auxMade { s with bki := { s.bki with aux := .at true } }).handOn := by
  refine congrArg Host.Outcome.next ?_
  simp only [whenRunning_of_running hrun, Filter.accept_of_due hdue]

theorem exec_auxReleased (hdue : s.bki.aux.due false) :
    exec .auxReleased s = .next (State.auxReleased { s with bki := { s.bki with aux := .at false } }).handOn := by
  refine congrArg Host.Outcome.next ?_
  simp only [whenRunning_of_running hrun, Filter.accept_of_due hdue]

theorem exec_closeTimeout (hstate : s.bki.state = .closing) (hsup : s.bki.sup.isSome = true) :
    exec .closeTimeout s = .next (s.brkEnterFailed .noClose).handOn := by
  refine congrArg Host.Outcome.next ?_
  simp only [whenRunning_of_running hrun, State.closeTimeout, hstate, hsup, and_self, if_true]

theorem exec_openTimeout (hstate : s.bki.state = .opening) (hsup : s.bki.sup.isSome = true) :
    exec .openTimeout s = .next (s.brkEnterFailed .noOpen).handOn := by
  refine congrArg Host.Outcome.next ?_
  simp only [whenRunning_of_running hrun, State.openTimeout, hstate, hsup, and_self, if_true]

theorem exec_openCheckEnd (hstate : s.bki.state = .failed) (hkind : s.bki.kind = some .noClose) (hsup : s.bki.sup.isSome = true) :
    exec .openCheckEnd s = .next (State.handOn (if s.bki.aux.acc
      then { s with bki := { s.bki with kind := some .noOpen, sup := none } } else s.brkEnterOpen)) := by
  refine congrArg Host.Outcome.next ?_
  simp only [whenRunning_of_running hrun, State.openCheckEnd, hstate, hkind, hsup, and_self, if_true]

theorem exec_recloseDelayExpiry (hdue : s.bki.reclose.isSome = true) :
    exec .recloseDelayExpiry s = .next (State.handOn { s with bki := { s.bki with reclose := none } }) := by
  refine congrArg Host.Outcome.next ?_
  simp only [whenRunning_of_running hrun, hdue, if_true]

theorem exec_bkiRampTimerExpiry (hdue : s.bki.ramp.isSome = true) (hstate : s.bki.state = .closed) :
    exec .bkiRampTimerExpiry s = .next s.brkEnterOpening.handOn := by
  refine congrArg Host.Outcome.next ?_
  simp only [whenRunning_of_running hrun, State.rampEnd, hdue, hstate, and_self, if_true]

end Commands

/-- Settles O47: the command that is due, and its move for each breaker state. -/
theorem breakerEvents : Obligations.BreakerEvents := by
  intro s hrun b done failed opened
  refine ⟨fun hdue => ?_, fun hdue => ?_, fun hsup => ⟨fun hst => ?_, fun hst => ?_, fun hst hk => ⟨fun ha => ?_, fun ha => ?_⟩⟩,
    exec_recloseDelayExpiry hrun, congrArg Host.Outcome.next (whenRunning_of_running hrun _), fun hramp hst ha => ?_⟩
  · intro x
    rw [exec_auxMade hrun hdue]
    refine ⟨fun hst => ?_, fun hst => ?_, fun hst => ?_⟩
    · rw [State.auxMade_of_closing (s := done x) hst]
    · rw [State.auxMade_of_opened (s := done x) hst, State.brkEnterFailed_noOpen]
      rfl
    · rw [State.auxMade_of_rest (s := done x) hst]
  · intro x
    rw [exec_auxReleased hrun hdue]
    refine ⟨fun hst => ⟨(done x).externalTrip, ?_, State.externalTrip_bki _, State.externalTrip_demandHeld _,
      State.externalTrip_brkTrip _, State.externalTrip_brkFault (s := done x), State.externalTrip_frame _⟩, fun hst => ?_,
      fun hst => ?_⟩
    · rw [State.auxReleased_of_closed (s := done x) hst]
    · rw [State.auxReleased_of_opening (s := done x) hst]
      rfl
    · rw [State.auxReleased_of_rest (s := done x) hst]
  · rw [exec_closeTimeout hrun hst hsup, State.brkEnterFailed_noClose]
    rfl
  · rw [exec_openTimeout hrun hst hsup, State.brkEnterFailed_noOpen]
    rfl
  · rw [exec_openCheckEnd hrun hst hk hsup, if_pos ha]
  · rw [exec_openCheckEnd hrun hst hk hsup, if_neg (Bool.eq_false_iff.mp ha)]
    rfl
  · rw [exec_bkiRampTimerExpiry hrun hramp hst, State.brkEnterOpening_of_aux ha]
    rfl

end Sys2Proof.Machine
end

section
/-! PROOFS. The readouts of the breaker and of the passage: O32. -/

set_option Elab.async false

namespace Sys2Proof.Machine

/-! ### Codes and the bits they take -/

@[simp] theorem BrkState.code_mod (x : BrkState) : x.code % 8 = x.code := by cases x <;> rfl

@[simp] theorem Phase.code_mod (x : Phase) : x.code % 4 = x.code := by cases x <;> rfl

theorem FailKind.getD_code_mod (x : Option FailKind) : (x.map FailKind.code).getD 0 % 2 = (x.getD .noClose).code := by
  rcases x with - | x
  · rfl
  · cases x <;> rfl

theorem planKind_code_mod (x : Option Plan) : (x.map (fun p => p.kind.code)).getD 0 % 4 = (x.map (fun p => p.kind.code)).getD 0 := by
  rcases x with - | ⟨tag, kind, start, len⟩
  · rfl
  · cases kind <;> rfl

theorem stepCode_eq (x : Option Step) : (x.map Step.code).getD 0 % 8 = stepCode x := by
  rcases x with - | x
  · rfl
  · cases x <;> rfl

/-! ### Items that may be absent -/

/-- An absent item and its value share one shape: the presence bit, then the value or 0 (R198). -/
theorem optSmall_eq (w : Nat) (x : Option Nat) : optSmall w x = [.bool x.isSome, .small w (x.getD 0)] := by
  cases x <;> rfl

theorem optWide_eq (n : Nat) (x : Option Nat) : optWide n x = [.bool x.isSome, .wide n (x.getD 0)] := by
  cases x <;> rfl

/-- The last points, or all 0 behind a clear presence bit (R137, R198). -/
theorem pointItems_eq (x : Option Points) : pointItems x =
    let r := x.getD ⟨0, 0, 0, 0, 0, 0, 0, 0, 0⟩
    [.bool x.isSome, .wide 1 r.tag.toNat, .wide 4 r.g, .wide 4 r.d.toNat, .wide 4 r.a.toNat, .wide 4 r.arming.toNat,
      .wide 4 r.deadline.toNat, .wide 4 r.c.toNat, .wide 4 r.e.toNat, .wide 2 r.u] := by
  cases x <;> rfl

theorem toBE_tag (b : Byte) : toBE 1 b.toNat = [b] := by simp [toBE]

theorem toBE_planTag (x : Option Plan) : toBE 1 ((x.map (fun p => p.tag.toNat)).getD 0) = [(x.map (fun p => p.tag)).getD 0] := by
  cases x <;> simp [toBE]

/-! ### The readouts -/

/-- The items of R113, packed. -/
theorem breakerAnswer_payload (p : List Byte) (s : State) : (breakerAnswer p s).payload =
    let b := s.bki
    let i := s.bki.items
    [0x00, byte (b.state.code + at2 b.kind.isSome 3 + 16 * (b.kind.getD .noClose).code + at2 b.aux.acc 5 + at2 b.hold 6 +
      at2 b.ramp.isSome 7)] ++ toBE 2 (timeLeft b.sup) ++ toBE 2 (timeLeft b.reclose) ++ toBE 2 (timeLeft b.tripWindow) ++
      [byte (s.lsu.overvolt.toNat + at2 b.wrongLatch 1 + at2 s.csu.overloadLatch 2 + at2 b.brkFault 3 + at2 i.a 4 + at2 i.b 5 +
        at2 i.c 6 + at2 i.d 7), byte (i.e.toNat + at2 i.f 1 + at2 i.g 2 + at2 b.wrongCond 3)] := by
  simp only [breakerAnswer, optSmall_eq, Option.isSome_map, Answer.payload, List.cons_append, List.nil_append]
  simp [pack, Status.code, Item.bool, at2, FailKind.getD_code_mod, Nat.mul_comm]

/-- The items of R137, packed. -/
theorem passageAnswer_payload (p : List Byte) (s : State) : (passageAnswer p s).payload =
    let q := s.psq
    let r := q.lastPoints.getD ⟨0, 0, 0, 0, 0, 0, 0, 0, 0⟩
    [0x00, byte (q.phase.code + at2 q.plan.isSome 2), ((q.plan.map (fun p => p.tag)).getD 0),
      byte (q.plan.isSome.toNat + 2 * ((q.plan.map (fun p => p.kind.code)).getD 0) + at2 q.oLead.isSome 3)] ++
      toBE 2 (q.oLead.getD 0) ++ [byte q.oRear.isSome.toNat] ++ toBE 2 (q.oRear.getD 0) ++ [byte q.tLead.isSome.toNat] ++
      toBE 2 (q.tLead.getD 0) ++ [byte (q.step.isSome.toNat + 2 * stepCode q.step)] ++ toBE 2 (q.timeInStep / 1000) ++
      toBE 2 (timeLeft q.rampTimer) ++ toBE 2 (timeLeft q.confirmTimer) ++
      [byte (q.seqHeld.toNat + 2 * q.slotHold.code + at2 q.emergency 3 + at2 q.lastPoints.isSome 4), r.tag] ++ toBE 4 r.g ++
      toBE 4 r.d.toNat ++ toBE 4 r.a.toNat ++ toBE 4 r.arming.toNat ++ toBE 4 r.deadline.toNat ++ toBE 4 r.c.toNat ++
      toBE 4 r.e.toNat ++ toBE 2 r.u := by
  simp only [passageAnswer, optSmall_eq, optWide_eq, pointItems_eq, Option.isSome_map, Answer.payload, List.cons_append,
    List.nil_append]
  simp [pack, Status.code, Item.bool, at2, toBE_tag, toBE_planTag, planKind_code_mod, stepCode_eq, Nat.mul_comm]

/-- Settles O32: both requests only read, and their answers pack as given. -/
theorem breakerAndPassageReplyBytes : Obligations.BreakerAndPassageReplyBytes := by
  intro s l
  refine ⟨fun h => ?_, fun h => ?_⟩
  all_goals refine (congrArg Host.Outcome.next (h.served (owner := readOnly _) rfl rfl rfl)).trans ?_
  · rw [breakerAnswer_payload]
    rfl
  · rw [passageAnswer_payload]
    rfl

end Sys2Proof.Machine
end

section
/-! PROOFS. The arbiter of the strip heaters (R148): the order of its three keys, at most two grants, and two better placed where one is
refused. -/

set_option Elab.async false

namespace Sys2Proof.Machine

/-! ### Counting slots -/

@[simp] theorem mem_allSlots (k : SlotId) : k ∈ allSlots := by cases k <;> decide

/-- The slots of a test, as a set. -/
def slotsWhere (p : SlotId → Bool) : Finset SlotId := allSlots.toFinset.filter (fun k => p k = true)

@[simp] theorem mem_slotsWhere {p : SlotId → Bool} {k : SlotId} : k ∈ slotsWhere p ↔ p k = true := by simp [slotsWhere]

/-- The number of slots that the laws count is the size of that set. -/
theorem length_filter_allSlots (p : SlotId → Bool) : (allSlots.filter p).length = (slotsWhere p).card := by
  have hnodup : allSlots.Nodup := by decide
  rw [slotsWhere, ← List.toFinset_filter, List.toFinset_card_of_nodup (hnodup.filter p)]

theorem length_filter_allSlots_mono {p q : SlotId → Bool} (h : ∀ k, p k = true → q k = true) :
    (allSlots.filter p).length ≤ (allSlots.filter q).length := by
  rw [length_filter_allSlots, length_filter_allSlots]
  exact Finset.card_le_card fun k hk => mem_slotsWhere.mpr (h k (mem_slotsWhere.mp hk))

/-! ### The order of the arbiter -/

section Arbiter
variable {request : PerSlot Bool} {roles : PerSlot Role} {strip : PerSlot Sensor}

/-- What the arbiter orders the slots by: COLLECT before SWEEP, then the lower temperature, then the lower number (R148). -/
def arbiterKey (roles : PerSlot Role) (strip : PerSlot Sensor) (k : SlotId) : ℕ ×ₗ ℤ ×ₗ ℕ :=
  toLex (if roles.get k = .collect then 0 else 1, toLex ((strip.get k).temp, k.num))

theorem SlotId.ofNat?_num (k : SlotId) : SlotId.ofNat? k.num = some k := by cases k <;> rfl

theorem SlotId.num_injective : Function.Injective SlotId.num := fun a b h => by
  simpa only [SlotId.ofNat?_num, Option.some.injEq] using congrArg SlotId.ofNat? h

theorem arbiterKey_injective : Function.Injective (arbiterKey roles strip) := fun a b h => by
  simp only [arbiterKey, EmbeddingLike.apply_eq_iff_eq, Prod.mk.injEq] at h
  obtain ⟨-, -, hnum⟩ := h
  exact SlotId.num_injective hnum

/-- Among slots of one standing the lower temperature comes first, then the lower number (R148). -/
theorem coolerFirst_iff {x y : Int} {m n : Nat} :
    (if x ≠ y then decide (x < y) else decide (m < n)) = true ↔ x < y ∨ x = y ∧ m < n := by
  split_ifs with h
  · simp [h]
  · simp [not_not.mp h]

theorem arbiterBefore_iff {k j : SlotId} :
    arbiterBefore roles strip k j = true ↔ arbiterKey roles strip k < arbiterKey roles strip j := by
  simp only [arbiterBefore, arbiterKey, Prod.Lex.toLex_lt_toLex]
  by_cases hk : roles.get k = .collect
  · by_cases hj : roles.get j = .collect
    · simpa [hk, hj] using coolerFirst_iff
    · simp [hk, hj]
  · by_cases hj : roles.get j = .collect
    · simp [hk, hj]
    · simpa [hk, hj] using coolerFirst_iff

/-- The requesting slots that come before a slot (R148). -/
def rivals (request : PerSlot Bool) (roles : PerSlot Role) (strip : PerSlot Sensor) (k : SlotId) : Finset SlotId :=
  slotsWhere (fun j => request.get j && arbiterBefore roles strip j k)

theorem mem_rivals {j k : SlotId} :
    j ∈ rivals request roles strip k ↔ request.get j = true ∧ arbiterKey roles strip j < arbiterKey roles strip k := by
  simp only [rivals, mem_slotsWhere, Bool.and_eq_true, arbiterBefore_iff]

theorem before_of_mem_rivals {j k : SlotId} (h : j ∈ rivals request roles strip k) :
    arbiterKey roles strip j < arbiterKey roles strip k := (mem_rivals.mp h).2

/-- A grant goes to a requesting slot with at most one rival (R148). -/
theorem grantsOf_iff {k : SlotId} : (grantsOf request roles strip).get k = true ↔
    request.get k = true ∧ (rivals request roles strip k).card < 2 := by
  simp only [grantsOf, PerSlot.get_of, Bool.and_eq_true, decide_eq_true_eq, length_filter_allSlots, rivals]

/-- Of three granted slots the last would have the two others as rivals. -/
theorem grantsOf_at_most_two (request : PerSlot Bool) (roles : PerSlot Role) (strip : PerSlot Sensor) :
    (allSlots.filter (grantsOf request roles strip).get).length ≤ 2 := by
  rw [length_filter_allSlots]
  by_contra hthree
  obtain ⟨last, hlast, hmax⟩ := Finset.exists_max_image (slotsWhere (grantsOf request roles strip).get) (arbiterKey roles strip)
    (Finset.card_pos.mp (by omega))
  obtain ⟨-, hfew⟩ := grantsOf_iff.mp (mem_slotsWhere.mp hlast)
  have hothers : (slotsWhere (grantsOf request roles strip).get).erase last ⊆ rivals request roles strip last := fun j hj => by
    obtain ⟨hne, hj⟩ := Finset.mem_erase.mp hj
    obtain ⟨hrequest, -⟩ := grantsOf_iff.mp (mem_slotsWhere.mp hj)
    exact mem_rivals.mpr ⟨hrequest, (hmax j hj).lt_of_ne (arbiterKey_injective.ne hne)⟩
  have hcard := Finset.card_le_card hothers
  rw [Finset.card_erase_of_mem hlast] at hcard
  omega

/-- The rivals of a rival are rivals. -/
theorem rivals_trans {i j k : SlotId} (hi : i ∈ rivals request roles strip j) (hj : j ∈ rivals request roles strip k) :
    i ∈ rivals request roles strip k := by
  obtain ⟨hi, hij⟩ := mem_rivals.mp hi
  obtain ⟨-, hjk⟩ := mem_rivals.mp hj
  exact mem_rivals.mpr ⟨hi, hij.trans hjk⟩

/-- The first and the second of the rivals of a refused slot are granted (R148). -/
theorem grantsOf_of_refused {k : SlotId} (hk : request.get k = true) (hg : (grantsOf request roles strip).get k = false) :
    ∃ a b, a ≠ b ∧ (grantsOf request roles strip).get a = true ∧ (grantsOf request roles strip).get b = true ∧
      arbiterBefore roles strip a k = true ∧ arbiterBefore roles strip b k = true := by
  have htwo : 2 ≤ (rivals request roles strip k).card := by
    by_contra hfew
    exact Bool.false_ne_true (hg.symm.trans (grantsOf_iff.mpr ⟨hk, not_le.mp hfew⟩))
  obtain ⟨a, ha, hfirst⟩ := Finset.exists_min_image (rivals request roles strip k) (arbiterKey roles strip)
    (Finset.card_pos.mp (by omega))
  have hrest : 0 < ((rivals request roles strip k).erase a).card := by rw [Finset.card_erase_of_mem ha]; omega
  obtain ⟨b, hb, hsecond⟩ := Finset.exists_min_image ((rivals request roles strip k).erase a) (arbiterKey roles strip)
    (Finset.card_pos.mp hrest)
  obtain ⟨hne, hb⟩ := Finset.mem_erase.mp hb
  have hnone : rivals request roles strip a = ∅ := Finset.eq_empty_of_forall_notMem fun j hj =>
    (before_of_mem_rivals hj).not_ge (hfirst j (rivals_trans hj ha))
  have hone : rivals request roles strip b ⊆ {a} := fun j hj => by
    by_contra hja
    rw [Finset.mem_singleton] at hja
    exact (before_of_mem_rivals hj).not_ge (hsecond j (Finset.mem_erase.mpr ⟨hja, rivals_trans hj hb⟩))
  obtain ⟨hra, hak⟩ := mem_rivals.mp ha
  obtain ⟨hrb, hbk⟩ := mem_rivals.mp hb
  have hcard := Finset.card_le_card hone
  rw [Finset.card_singleton] at hcard
  exact ⟨a, b, hne.symm, grantsOf_iff.mpr ⟨hra, by simp [hnone]⟩, grantsOf_iff.mpr ⟨hrb, by omega⟩,
    arbiterBefore_iff.mpr hak, arbiterBefore_iff.mpr hbk⟩

end Arbiter

end Sys2Proof.Machine
end

section
/-! PROOFS. The law of the grants and of the driven heaters (R148, R149) under a scan completion, the gates, the hand-over and every
command, and O54. -/

set_option Elab.async false

namespace Sys2Proof.Machine

/-! ### A scan completion -/

@[simp] theorem State.iceLevelUpdate_icu (s : State) : s.iceLevelUpdate.icu = { s.icu with iceLevel := s.icu.levelNow } := by
  simp [State.iceLevelUpdate]

@[simp] theorem State.iceLevelUpdate_heaterDuty (s : State) : s.iceLevelUpdate.heaterDuty = s.heaterDuty := by
  simp [State.iceLevelUpdate, State.heaterDuty, State.param]

/-- The Ice Unit's own state after steps 1 to 6 of R153, the ice level among them. -/
def Icu.scanLevelled (i : Icu) : Icu := { i.scanChecks with iceLevel := i.scanChecks.levelNow }

/-- The Ice Unit after a scan completion: the checks and the levels, then the requests and the grants, then the drive (R153). -/
theorem State.scanComplete_icu (s : State) : s.scanComplete.icu = (s.icu.scanLevelled.scanGrants s.heaterDuty).driveAll := by
  simp [State.scanComplete, Icu.scanLevelled, State.heaterDuty, State.param]

/-! ### The law -/

/-- The law reads the grants, the latches, the strips and the heaters alone. -/
theorem Icu.grantLaw_congr {i j : Icu} (hgrant : j.grant = i.grant := by rfl) (hfault : j.heaterFault = i.heaterFault := by rfl)
    (hstrip : j.strip = i.strip := by rfl) (hhtr : j.htr = i.htr := by rfl) : j.grantLaw ↔ i.grantLaw := by
  simp only [Icu.grantLaw, hgrant, hfault, hstrip, hhtr]

/-- Only granted heaters are driven, so the law of the grants is the law of the heaters (R149). -/
theorem Icu.heaterLaw_of_grantLaw {i : Icu} (h : i.grantLaw) : i.heaterLaw := by
  obtain ⟨htwo, hsound, hdriven⟩ := h
  exact ⟨(length_filter_allSlots_mono hdriven).trans htwo, fun k hk => hsound k (hdriven k hk)⟩

theorem Icu.drive_granted {i : Icu} {k : SlotId} (h : i.drive k = true) : i.grant.get k = true := by
  obtain ⟨hgrant, -⟩ := Bool.and_eq_true_iff.mp h
  exact hgrant

/-- Heaters that take their level afresh are granted ones (R149). -/
theorem Icu.driveAll_grantLaw {i : Icu} (htwo : (allSlots.filter (fun k => i.grant.get k)).length ≤ 2)
    (hsound : ∀ k, i.grant.get k = true → i.heaterFault.get k = false ∧ (i.strip.get k).valid = true) : i.driveAll.grantLaw :=
  ⟨htwo, hsound, fun k hk => Icu.drive_granted (i := i) (by simpa [Icu.driveAll] using hk)⟩

/-- The conditions of a request (R147). -/
theorem requestOf_iff {level : Nat} {role : Role} {x : Sensor} {latch granted : Bool} :
    requestOf level role x latch granted = true ↔ level ≠ 0 ∧ role ≠ .stow ∧ x.valid = true ∧ latch = false ∧
      (x.temp < heaterTarget level - 20 ∨ (granted = true ∧ x.temp < heaterTarget level)) := by
  simp only [requestOf, Bool.and_eq_true, Bool.or_eq_true, Bool.not_eq_true', decide_eq_true_eq, and_assoc]

/-- The arbiter makes the law good, whatever the grants were: a grant answers a request, and a request needs a valid temperature and no
latched fault (R147, R148). -/
theorem Icu.scanGrants_driveAll_grantLaw (i : Icu) (duty : Nat) : (i.scanGrants duty).driveAll.grantLaw := by
  refine Icu.driveAll_grantLaw (grantsOf_at_most_two _ _ _) fun k hk => ?_
  obtain ⟨hrequest, -⟩ := grantsOf_iff.mp hk
  rw [PerSlot.get_of, requestOf_iff] at hrequest
  obtain ⟨-, -, hvalid, hlatch, -⟩ := hrequest
  exact ⟨hlatch, hvalid⟩

theorem State.scanComplete_grantLaw (s : State) : s.scanComplete.icu.grantLaw := by
  rw [State.scanComplete_icu]
  exact Icu.scanGrants_driveAll_grantLaw _ _

/-! ### Handing on and the gates -/

theorem State.iceLevelUpdate_grantLaw (s : State) : s.iceLevelUpdate.icu.grantLaw ↔ s.icu.grantLaw := by
  rw [State.iceLevelUpdate_icu]
  exact Icu.grantLaw_congr

/-- Handing on leaves the grants, the latches, the strips and the heaters (R158). -/
@[simp] theorem State.handOn_grantLaw (s : State) : s.handOn.icu.grantLaw ↔ s.icu.grantLaw := by
  rw [s.handOn_framed.icu]
  exact Icu.grantLaw_congr

@[simp] theorem State.estimateUpdate_grantLaw (s : State) : s.estimateUpdate.icu.grantLaw ↔ s.icu.grantLaw := by
  simp [State.estimateUpdate_eq]

@[simp] theorem State.slotEvent_grantLaw (s : State) (k : SlotId) (r : Slot × List Flag) :
    (s.slotEvent k r).icu.grantLaw ↔ s.icu.grantLaw := by
  simp [State.slotEvent]

@[simp] theorem State.report_grantLaw (s : State) (pos : Pos) (v u : Nat) : (s.report pos v u).icu.grantLaw ↔ s.icu.grantLaw := by
  simp [State.report_eq]

@[simp] theorem State.holderHandOn_grantLaw (s : State) (before : Option Link) :
    (s.holderHandOn before).icu.grantLaw ↔ s.icu.grantLaw := by
  unfold State.holderHandOn
  split <;> simp

@[simp] theorem State.powerIfSilent_grantLaw (s : State) : s.powerIfSilent.icu.grantLaw ↔ s.icu.grantLaw := by
  unfold State.powerIfSilent
  split <;> simp

@[simp] theorem State.receive_grantLaw (s : State) (l : Link) (b : Byte) : (s.receive l b).icu.grantLaw ↔ s.icu.grantLaw := by
  simp only [State.receive, State.frameComplete]
  (repeat' split) <;> simp

theorem Icu.gateEnd_eq (i : Icu) : i.gateEnd = { i with
    chan := i.gateEnd.chan, gate := i.gateEnd.gate, count := i.gateEnd.count, lastRef := i.gateEnd.lastRef,
    lastStrip := i.gateEnd.lastStrip, lastAmb := i.gateEnd.lastAmb } := by
  unfold Icu.gateEnd Icu.storeCount
  cases i.chan <;> rfl

/-- The end of a gate drives granted heaters alone; the end of the AMB gate grants afresh (R140, R149, R153). -/
theorem State.gateEnded_grantLaw {s : State} (h : s.icu.grantLaw) : s.gateEnded.icu.grantLaw := by
  unfold State.gateEnded
  split
  · exact (State.handOn_grantLaw _).mpr (State.scanComplete_grantLaw _)
  · obtain ⟨htwo, hsound, -⟩ := h
    rw [Icu.gateEnd_eq]
    exact Icu.driveAll_grantLaw htwo hsound

/-- A heater that takes its level afresh is a granted one (R149). -/
theorem Icu.grantLaw_setHtr {i : Icu} (h : i.grantLaw) (k : SlotId) : Icu.grantLaw { i with htr := i.htr.set k (i.drive k) } := by
  obtain ⟨htwo, hsound, hdriven⟩ := h
  refine ⟨htwo, hsound, fun j hj => ?_⟩
  by_cases hjk : j = k
  · subst hjk
    exact Icu.drive_granted (i := i) (by simpa using hj)
  · exact hdriven j (by simpa [PerSlot.get_set_ne _ _ _ _ hjk] using hj)

/-- A cleared latch leaves a granted heater without one (R151). -/
theorem State.clearLatch_grantLaw {s : State} (h : s.icu.grantLaw) (x : Latch) : (s.clearLatch x).icu.grantLaw := by
  cases x with
  | heater k =>
    obtain ⟨htwo, hsound, hdriven⟩ := h
    refine ⟨htwo, fun j hj => ?_, hdriven⟩
    obtain ⟨hlatch, hvalid⟩ := hsound j hj
    refine ⟨?_, hvalid⟩
    by_cases hjk : j = k
    · simp [State.clearLatch, hjk]
    · simp [State.clearLatch, PerSlot.get_set_ne _ _ _ _ hjk, hlatch]
  | overvolt | wrongSystem | overload | brkFault => exact h

/-! ### Every command -/

section Commands
variable {s t : State} (h : s.icu.grantLaw)
include h

theorem whenRunning_grantLaw {f : State → State} (hf : ∀ u : State, u.icu.grantLaw → (f u).icu.grantLaw) :
    (whenRunning f s).icu.grantLaw := by
  unfold whenRunning
  split
  · exact h
  · exact hf s h

/-- Serving a request keeps the law where its owner does. -/
theorem execServe_grantLaw {owner : List Byte → State → State × Option Answer} {l : Link} {r : Req}
    (howner : ∀ p {u : State}, u.icu.grantLaw → (owner p u).1.icu.grantLaw) :
    (whenRunning (fun u => u.serve l r owner) s).icu.grantLaw :=
  whenRunning_grantLaw h fun _ hu =>
    State.serve_keeps (P := fun v => v.icu.grantLaw) (fun _ _ hv => hv) (fun p _ hv => howner p hv) hu

/-- Every command keeps the law: it resets, grants afresh, drives granted heaters, clears a latch, or leaves what the law reads as it
was. -/
theorem exec_grantLaw {c : Instr} (he : exec c s = .next t) : t.icu.grantLaw := by
  cases c with
  -- resets
  | powerOn | rstNLow => cases he; exact Icu.reset_grantLaw
  | rstNRise =>
    cases he
    split
    · exact Icu.reset_grantLaw
    · exact h
  | inputRawChange i =>
    cases he
    split
    · exact Icu.reset_grantLaw
    · cases i <;> exact h
  | frameSent l =>
    cases he
    refine whenRunning_grantLaw h fun u hu => ?_
    unfold State.frameEnd
    split
    · exact hu
    · simpa using hu
    · split
      · exact Icu.reset_grantLaw
      · simpa using hu
  -- what acts on the grants, the heaters or the latches
  | gateEnd => cases he; exact whenRunning_grantLaw h fun _ hu => State.gateEnded_grantLaw hu
  | scanCompletion =>
    cases he
    refine whenRunning_grantLaw h fun u hu => ?_
    split
    · exact State.gateEnded_grantLaw hu
    · exact hu
  | heaterDriveEdge k => cases he; exact whenRunning_grantLaw h fun _ hu => Icu.grantLaw_setHtr hu k
  | clearFault =>
    cases he
    refine execServe_grantLaw h fun p u hu => ?_
    unfold ownClearFault
    (repeat' split) <;> simp [hu, State.clearLatch_grantLaw]
  -- requests whose owner writes no part of the Ice Unit, or hands on
  | readPosition | readQueue | readClosed | readLine | readSlot | readRule | readTarget | readBreaker | readPassage
  | readIce | getFlags | getStatus | readParam | resetPart => cases he; exact execServe_grantLaw h fun _ _ hu => hu
  | reportPosition | reverse | postEvent | cancelEvent | resumeQueue | setSlot | unlockSlot | setDemand | writeRule | clearTro
  | readCurrent | clearFlags | setNoticeMask | takeCommand | setParam =>
    cases he
    refine execServe_grantLaw h fun p u hu => ?_
    simp only [ownReportPosition, ownReverse, ownPostEvent, ownCancelEvent, ownResumeQueue, ownSetSlot, ownUnlockSlot, ownSetDemand,
      ownWriteRule, ownClearTro, ownReadCurrent, ownClearFlags, ownSetNoticeMask, ownTakeCommand, ownSetParam]
    (repeat' split) <;> simp [hu]
  -- an event that writes other parts of the Ice Unit
  | fallTimerExpiry =>
    cases he
    refine whenRunning_grantLaw h fun u hu => ?_
    split
    · exact (State.handOn_grantLaw _).mpr ((State.iceLevelUpdate_grantLaw _).mpr hu)
    · exact hu
  | rfcCxRisingEdge => cases he; exact whenRunning_grantLaw h fun _ hu => hu
  -- an event of another block, handed on where it is due
  | _ =>
    cases he
    refine whenRunning_grantLaw h fun u hu => ?_
    (repeat' split) <;> simp [hu]

end Commands

theorem State.elapse_grantLaw (n : Nat) {s : State} (h : s.icu.grantLaw) : (s.elapse n).icu.grantLaw := by
  unfold State.elapse
  split <;> exact h

/-- Settles O54: an idle step runs clocks alone, and every command keeps the law, which a scan completion makes afresh. -/
theorem heaterLawKept : Obligations.HeaterLawKept := by
  refine ⟨fun _ => Icu.heaterLaw_of_grantLaw, fun s t hs h => ?_⟩
  unfold step at h
  split at h
  next =>
    cases h
    exact State.elapse_grantLaw 1 hs
  next c rest _ => exact exec_grantLaw (s := { s with pending := rest }) hs h

end Sys2Proof.Machine
end

section
/-! PROOFS. What a scan completion makes of the counts (R142 to R150, R153 to R157): rounding, the sensor channels, the levels, the latches
and the flags, each by its rule, and O53. -/

set_option Elab.async false

namespace Sys2Proof.Machine

/-! ### Rounding (00) -/

theorem roundDiv_of_nonneg {a : Int} (h : 0 ≤ a) (b : Nat) : roundDiv a b = (2 * a + b) / (2 * b) := by
  rw [roundDiv, if_pos h]
  push_cast [Int.toNat_of_nonneg h]
  rfl

theorem roundDiv_neg {a : Int} (h : a < 0) (b : Nat) : roundDiv a b = -roundDiv (-a) b := by
  rw [roundDiv, if_neg (not_le.mpr h), roundDiv, if_pos (by omega)]

/-- Of a number that is not negative: the quotient of 2a + b by 2b leaves a rest below 2b. -/
theorem roundDiv_nearest_of_nonneg {a : Int} (h : 0 ≤ a) {b : Nat} (hb : 0 < b) : 2 * (roundDiv a b * b - a).natAbs ≤ b := by
  have hlow := Int.emod_nonneg (2 * a + b) (b := 2 * b) (by omega)
  have hhigh := Int.emod_lt_of_pos (2 * a + b) (b := 2 * b) (by omega)
  have hsplit := Int.mul_ediv_add_emod (2 * a + b) (2 * b)
  rw [← roundDiv_of_nonneg h] at hsplit
  have hcomm : 2 * (b : Int) * roundDiv a b = 2 * (roundDiv a b * b) := by ring
  omega

theorem roundDiv_nearest (a : Int) {b : Nat} (hb : 0 < b) : 2 * (roundDiv a b * b - a).natAbs ≤ b := by
  rcases lt_or_ge a 0 with ha | ha
  · have hpos := roundDiv_nearest_of_nonneg (a := -a) (by omega) hb
    rw [roundDiv_neg ha, ← Int.natAbs_neg]
    convert hpos using 3
    ring
  · exact roundDiv_nearest_of_nonneg ha hb

/-- A half goes away from zero. -/
theorem roundDiv_half {q b : Nat} {a : Int} (hb : 0 < b) (h : 2 * a = (2 * q + 1) * b) : roundDiv a b = q + 1 := by
  have ha : 0 ≤ a := by
    have hright : (0 : Int) ≤ (2 * q + 1) * b := by positivity
    omega
  have hnum : 2 * a + b = (q + 1) * (2 * b) := by rw [h]; ring
  rw [roundDiv_of_nonneg ha, hnum, Int.mul_ediv_cancel _ (by omega)]

/-! ### The sensor channels (R142 to R144) -/

theorem refFaulty_iff {c : Count} : refFaulty c = true ↔ c.ovf = true ∨ c.n < 30000 ∨ 50000 < c.n := by
  simp only [refFaulty, Bool.or_eq_true, decide_eq_true_eq, or_assoc]

theorem clampTemp_eq (t : Int) : clampTemp t = max (-500) (min 1500 t) := by
  unfold clampTemp
  split_ifs <;> omega

theorem clampTemp_ne_iff {t : Int} : clampTemp t ≠ t ↔ t < -500 ∨ 1500 < t := by
  rw [clampTemp_eq]
  omega

theorem Sensor.scan_fault (rf : Bool) (ref c : Count) (x : Sensor) : (x.scan rf ref c).fault = faultOf c := by
  simp only [Sensor.scan]
  split <;> rfl

section Scan
variable {rf : Bool} {c : Count} (ref : Count) (x : Sensor)

/-- Behind a faulty reference or with a fault of its own a channel is invalid and keeps its temperature (R142, R143). -/
theorem Sensor.scan_of_fault (h : rf = true ∨ faultOf c ≠ .none) :
    x.scan rf ref c = { x with fault := faultOf c, valid := false } := if_pos h

/-- A good channel is valid, with its temperature clamped (R144). -/
theorem Sensor.scan_of_good (hrf : ¬ rf = true) (hc : faultOf c = .none) : x.scan rf ref c =
    let raw := rawTemp ref.n c.n
    { fault := .none, temp := clampTemp raw, valid := true, clamped := decide (clampTemp raw ≠ raw) } := by
  simp [Sensor.scan, hc, hrf]

/-- One channel by its count and the reference (R142 to R144). -/
theorem Sensor.scan_rows (ref c : Count) (x : Sensor) :
    let y := x.scan (refFaulty ref) ref c
    let refFault := ref.ovf = true ∨ ref.n < 30000 ∨ 50000 < ref.n
    let raw := rawTemp ref.n c.n
    y.fault = faultOf c ∧
    (refFault ∨ faultOf c ≠ .none → y.valid = false ∧ y.temp = x.temp ∧ y.clamped = x.clamped) ∧
    (¬ refFault → faultOf c = .none →
      y.valid = true ∧ y.temp = max (-500) (min 1500 raw) ∧ (y.clamped = true ↔ raw < -500 ∨ 1500 < raw)) := by
  intro y refFault raw
  refine ⟨x.scan_fault _ _ _, fun h => ?_, fun href hc => ?_⟩
  · simp only [y, x.scan_of_fault ref (h.imp_left refFaulty_iff.mpr), and_self]
  · simp only [y, x.scan_of_good ref (mt refFaulty_iff.mp href) hc, clampTemp_ne_iff, decide_eq_true_eq, ← clampTemp_eq, true_and]
    exact ⟨rfl, .rfl⟩

end Scan

theorem newFault_iff {x y : Sensor} : newFault x y = true ↔ y.fault ≠ .none ∧ y.fault ≠ x.fault := by
  simp only [newFault, Bool.and_eq_true, decide_eq_true_eq]

/-! ### The levels (R154 to R156) -/

/-- The arc sum that a slot brings to R: its own while it collects, else 0 (R154). -/
def Icu.collectedArcs (i : Icu) (k : SlotId) : Nat := if i.roles.get k = .collect then i.arcs.get k else 0

theorem Icu.arcPeak_mem_and_le (i : Icu) :
    i.arcPeak ∈ allSlots.map i.collectedArcs ∧ ∀ n ∈ allSlots.map i.collectedArcs, n ≤ i.arcPeak :=
  foldl_max_mem_and_le _ _

/-- R is the largest arc sum of the collecting slots, or 0 (R154). -/
theorem Icu.arcPeak_spec (i : Icu) : (∀ k, i.roles.get k = .collect → i.arcs.get k ≤ i.arcPeak) ∧
    (i.arcPeak = 0 ∨ ∃ k, i.roles.get k = .collect ∧ i.arcs.get k = i.arcPeak) := by
  obtain ⟨hmem, hle⟩ := i.arcPeak_mem_and_le
  refine ⟨fun k hk => hle _ (List.mem_map.mpr ⟨k, mem_allSlots k, if_pos hk⟩), ?_⟩
  obtain ⟨k, -, hk⟩ := List.mem_map.mp hmem
  unfold Icu.collectedArcs at hk
  split at hk
  next hrole => exact .inr ⟨k, hrole, hk⟩
  next => exact .inl hk.symm

/-- The table of R154, for a band of 0, 1 or 2. -/
theorem computedOf_eq {band : Nat} (h : band ≤ 2) (r : Nat) : computedOf band r =
    if band = 2 then 0 else if band = 0 then (if 5 ≤ r then 2 else 0) else if 20 ≤ r then 2 else if 5 ≤ r then 1 else 0 := by
  unfold computedOf
  split_ifs <;> omega

/-- The measured level rises at once to the computed level; above it the fall timer runs (R155). -/
theorem Icu.recompute_rows (i : Icu) : i.recompute =
    let c := computedOf i.ambBand i.arcPeak
    { i with computed := c, measured := max i.measured c,
             fall := if i.measured ≤ c then none else if i.fall.isSome then i.fall else some 30000000 } := by
  simp only [Icu.recompute]
  rcases lt_trichotomy i.measured (computedOf i.ambBand i.arcPeak) with h | h | h
  · rw [if_pos h, max_eq_right h.le, if_pos h.le]
  · rw [if_neg h.not_lt, if_pos h.symm, ← h, max_self, if_pos le_rfl]
  · rw [if_neg h.not_gt, if_neg h.ne, max_eq_left h.le, if_neg h.not_ge]
    rfl

theorem bandOf_le (amb : Sensor) : bandOf amb ≤ 2 := by
  unfold bandOf
  split_ifs <;> omega

/-! ### The checks of a scan (R153) -/

/-- Steps 1 to 6 of R153, with the recomputation by its rows. -/
theorem Icu.scanLevelled_eq (i : Icu) : i.scanLevelled =
    let strip := PerSlot.of (fun k => (i.strip.get k).scan (refFaulty i.lastRef) i.lastRef (i.lastStrip.get k))
    let amb := i.amb.scan (refFaulty i.lastRef) i.lastRef i.lastAmb
    let c := computedOf (bandOf amb) i.arcPeak
    { i with refFault := refFaulty i.lastRef, strip := strip, amb := amb, scans := (i.scans + 1) % 65536, ambBand := bandOf amb,
             heaterFault := .of (fun k => i.heaterFault.get k || overTemp (i.grant.get k) (strip.get k)),
             computed := c, measured := max i.measured c,
             fall := if i.measured ≤ c then none else if i.fall.isSome then i.fall else some 30000000,
             iceLevel := if i.iceDemand = .off then 0 else max (max i.zoneHint (max i.measured c)) i.iceDemand.force } := by
  rw [Icu.scanLevelled, Icu.scanChecks, Icu.recompute_rows]
  rfl

theorem overTemp_iff {granted : Bool} {x : Sensor} : overTemp granted x = true ↔ granted = true ∧ x.valid = true ∧ 600 < x.temp := by
  simp only [overTemp, Bool.and_eq_true, decide_eq_true_eq, and_assoc]

/-! ### The flags of a scan completion (R145, R150, R157) -/

/-- Raising one flag leaves every other as it was. -/
theorem Fnu.raise_has_of_num_ne (x : Fnu) {f g : Flag} (h : f.num ≠ g.num) :
    FlagSet.has (x.raise f).flags g = FlagSet.has x.flags g := by
  unfold Fnu.raise
  split
  · rfl
  · simp [FlagSet.has, Flag.bit, BitVec.getLsbD_twoPow, h]

theorem State.has_raiseIf_of_num_ne (s : State) (c : Bool) {f g : Flag} (h : f.num ≠ g.num := by decide) :
    FlagSet.has (s.raiseIf c f).fnu.flags g = FlagSet.has s.fnu.flags g := by
  rw [State.raiseIf_fnu]
  split
  · exact s.fnu.raise_has_of_num_ne h
  · rfl

theorem State.has_raiseIf_iff (s : State) (c : Bool) (f : Flag) :
    FlagSet.has (s.raiseIf c f).fnu.flags f = true ↔ FlagSet.has s.fnu.flags f = true ∨ c = true := by
  rw [State.raiseIf_fnu]
  split <;> simp [*]

theorem sensorFaultRises_iff {i j : Icu} : sensorFaultRises i j = true ↔ (j.refFault = true ∧ i.refFault = false) ∨
    newFault i.amb j.amb = true ∨ ∃ k, newFault (i.strip.get k) (j.strip.get k) = true := by
  simp only [sensorFaultRises, Bool.or_eq_true, Bool.and_eq_true, Bool.not_eq_true', List.any_eq_true, mem_allSlots, true_and, or_assoc]

theorem heaterFaultRises_iff {i j : Icu} :
    heaterFaultRises i j = true ↔ ∃ k, j.heaterFault.get k = true ∧ i.heaterFault.get k = false := by
  simp only [heaterFaultRises, Bool.and_eq_true, Bool.not_eq_true', List.any_eq_true, mem_allSlots, true_and]

theorem Icu.scanChecks_iceLevel (i : Icu) : i.scanChecks.iceLevel = i.iceLevel := by
  rw [Icu.scanChecks, Icu.recompute_rows]

/-- The arbiter writes the requests, the grants, the duty and the drive alone. -/
theorem Icu.scanGrants_driveAll_eq (i : Icu) (duty : Nat) : (i.scanGrants duty).driveAll = { i with
    request := (i.scanGrants duty).request, grant := (i.scanGrants duty).grant, duty := duty, htr := .of (i.scanGrants duty).drive } := rfl

/-- The three flags of a scan completion, each by what it left of the Ice Unit. -/
theorem State.scanComplete_fnu (s : State) : s.scanComplete.fnu =
    (((s.raiseIf (sensorFaultRises s.icu s.scanComplete.icu) .sensorFault).raiseIf
      (heaterFaultRises s.icu s.scanComplete.icu) .heaterFault).raiseIf
      (decide (s.scanComplete.icu.iceLevel ≠ s.icu.iceLevel)) .iceLevel).fnu := by
  have hsensor : sensorFaultRises s.icu s.scanComplete.icu = sensorFaultRises s.icu s.icu.scanChecks := by
    simp only [sensorFaultRises, State.scanComplete_icu, Icu.scanGrants_driveAll_eq, Icu.scanLevelled]
  have hheater : heaterFaultRises s.icu s.scanComplete.icu = heaterFaultRises s.icu s.icu.scanChecks := by
    simp only [heaterFaultRises, State.scanComplete_icu, Icu.scanGrants_driveAll_eq, Icu.scanLevelled]
  have hlevel : s.scanComplete.icu.iceLevel = s.icu.scanChecks.levelNow := by
    simp only [State.scanComplete_icu, Icu.scanGrants_driveAll_eq, Icu.scanLevelled]
  rw [hsensor, hheater, hlevel]
  simp [State.scanComplete, State.iceLevelUpdate, State.raiseIf_fnu, Icu.scanChecks_iceLevel]

section Rises
variable (s : State)

theorem State.scanComplete_sensorFault : FlagSet.has s.scanComplete.fnu.flags .sensorFault = true ↔
    FlagSet.has s.fnu.flags .sensorFault = true ∨ sensorFaultRises s.icu s.scanComplete.icu = true := by
  rw [State.scanComplete_fnu, State.has_raiseIf_of_num_ne, State.has_raiseIf_of_num_ne, State.has_raiseIf_iff]

theorem State.scanComplete_heaterFault : FlagSet.has s.scanComplete.fnu.flags .heaterFault = true ↔
    FlagSet.has s.fnu.flags .heaterFault = true ∨ heaterFaultRises s.icu s.scanComplete.icu = true := by
  rw [State.scanComplete_fnu, State.has_raiseIf_of_num_ne, State.has_raiseIf_iff, State.has_raiseIf_of_num_ne]

theorem State.scanComplete_iceLevel : FlagSet.has s.scanComplete.fnu.flags .iceLevel = true ↔
    FlagSet.has s.fnu.flags .iceLevel = true ∨ s.scanComplete.icu.iceLevel ≠ s.icu.iceLevel := by
  rw [State.scanComplete_fnu, State.has_raiseIf_iff, State.has_raiseIf_of_num_ne, State.has_raiseIf_of_num_ne, decide_eq_true_eq]

end Rises

/-- Settles O53: the checks of the scan, channel by channel and level by level, then the flags that they raise, then the requests and the
arbiter's grants. -/
theorem scanCompletionByItsOrder : Obligations.ScanCompletionByItsOrder := by
  refine ⟨fun s => ?_, fun a b hb => ⟨roundDiv_nearest a hb, fun ha => roundDiv_neg ha b⟩, fun q b a => roundDiv_half⟩
  intro i t refFault scanned newFault newLatch rises
  have ht : t.icu = _ := s.scanComplete_icu.trans (Icu.scanGrants_driveAll_eq _ _)
  have hlevelled := i.scanLevelled_eq
  have hstrip (k : SlotId) : t.icu.strip.get k = (i.strip.get k).scan (refFaulty i.lastRef) i.lastRef (i.lastStrip.get k) := by
    rw [ht, hlevelled]
    exact PerSlot.get_of _ k
  have hrefFault : t.icu.refFault = true ↔ refFault := by rw [ht, hlevelled, refFaulty_iff]
  have hrequest (k : SlotId) : t.icu.request.get k = requestOf t.icu.iceLevel (i.roles.get k) (t.icu.strip.get k)
      (t.icu.heaterFault.get k) (i.grant.get k) := by
    rw [ht, hlevelled]
    exact PerSlot.get_of _ k
  have hgrant : t.icu.grant = grantsOf t.icu.request i.roles t.icu.strip := by
    rw [ht, hlevelled]
    rfl
  obtain ⟨hpeak, hcollects⟩ := i.arcPeak_spec
  refine ⟨hrefFault, ?_, ?_, ?_, ?_, ?_, ?_, s.scanComplete_iceLevel, ⟨i.arcPeak, hpeak, hcollects, ?_⟩, ?_, ?_, ?_,
    fun k => ⟨?_, ?_, ?_, ?_, ?_⟩⟩
  · rw [ht, hlevelled]
  · rw [ht]
  · rw [ht, hlevelled]
    exact i.amb.scan_rows _ _
  · rw [ht, hlevelled]
    rfl
  · rw [← hrefFault]
    simpa only [sensorFaultRises_iff, newFault_iff] using s.scanComplete_sensorFault
  · simpa only [heaterFaultRises_iff] using s.scanComplete_heaterFault
  · rw [ht, hlevelled]
    exact computedOf_eq (bandOf_le _) _
  · rw [ht, hlevelled]
  · rw [ht, hlevelled]
  · rw [ht, hlevelled]
  · exact hstrip k ▸ (i.strip.get k).scan_rows _ _
  · rw [ht, hlevelled]
    simp only [PerSlot.get_of, Bool.or_eq_true, overTemp_iff]
  · rw [hrequest k, requestOf_iff]
  · rw [hgrant]
    exact fun h => And.left (grantsOf_iff.mp h)
  · rw [hgrant]
    exact fun hk hg => grantsOf_of_refused hk hg

end Sys2Proof.Machine
end

section
/-! PROOFS. The gates, the drive of the heaters, the fall timer and the ice level at a change of input (R140, R141, R149, R154 to R158), and
O52. -/

set_option Elab.async false

namespace Sys2Proof.Machine

/-! ### Counts and gates (R140, R141) -/

theorem Count.edge_eq (c : Count) : c.edge = if c.n < 65535 then { c with n := c.n + 1 } else ⟨65535, true⟩ := by
  by_cases h : c.n < 65535
  · rw [Count.edge, if_neg (not_le.mpr h), if_pos h]
  · rw [Count.edge, if_pos (not_lt.mp h), if_neg h]

section Gates
variable {s : State} (hrun : s.inReset = false)

theorem Icu.gateEnd_of_ref {i : Icu} (h : i.chan = .ref) : i.gateEnd =
    { i with lastRef := i.count, chan := .strip .ps0, gate := some 50000, count := ⟨0, false⟩ } := by
  simp only [Icu.gateEnd, Icu.storeCount, h]
  rfl

theorem Icu.gateEnd_of_strip {i : Icu} {k : SlotId} (h : i.chan = .strip k) : i.gateEnd =
    { i with lastStrip := i.lastStrip.set k i.count, chan := (Channel.strip k).next, gate := some 50000, count := ⟨0, false⟩ } := by
  simp only [Icu.gateEnd, Icu.storeCount, h]
  rfl

theorem Icu.gateEnd_of_amb {i : Icu} (h : i.chan = .amb) : i.gateEnd =
    { i with lastAmb := i.count, chan := .ref, gate := some 50000, count := ⟨0, false⟩ } := by
  simp only [Icu.gateEnd, Icu.storeCount, h]
  rfl

include hrun

/-- The end of any gate but the AMB one drives the heaters afresh (R140, R149; log 21). -/
theorem exec_gateEnd_of_ne (h : s.icu.chan ≠ .amb) : exec .gateEnd s = .next { s with icu := s.icu.gateEnd.driveAll } := by
  refine congrArg Host.Outcome.next ?_
  rw [whenRunning_of_running hrun, State.gateEnded, if_neg h]

/-- The end of the AMB gate is the scan completion, under either row (R140, R153). -/
theorem exec_gateEnd_of_amb (h : s.icu.chan = .amb) :
    exec .gateEnd s = .next (State.scanComplete { s with icu := s.icu.gateEnd }).handOn ∧
      exec .scanCompletion s = .next (State.scanComplete { s with icu := s.icu.gateEnd }).handOn := by
  refine ⟨congrArg Host.Outcome.next ?_, congrArg Host.Outcome.next ?_⟩
  · rw [whenRunning_of_running hrun, State.gateEnded, if_pos h]
  · rw [whenRunning_of_running hrun, if_pos h, State.gateEnded, if_pos h]

theorem exec_fallTimerExpiry (h : s.icu.fall.isSome = true) : exec .fallTimerExpiry s =
    .next (State.iceLevelUpdate { s with icu := { s.icu with measured := s.icu.computed, fall := none } }).handOn := by
  refine congrArg Host.Outcome.next ?_
  simp only [whenRunning_of_running hrun, h, if_true]

end Gates

/-! ### The drive of the heaters (R149) -/

/-- The drive times of the four duty codes, in µs. -/
theorem driveMs_mul (duty : Nat) : driveMs duty * 1000 = [50000, 67000, 100000, 200000].getD duty 0 := by
  match duty with
  | 0 | 1 | 2 | 3 => simp [driveMs]
  | _ + 4 => simp [driveMs]

theorem drivenAt_iff {k : SlotId} {duty t : Nat} : drivenAt k duty t = true ↔
    let d := [50000, 67000, 100000, 200000].getD duty 0
    let b := 50000 * k.num
    (t < b ∧ t < d) ∨ (b + 100000 ≤ t ∧ t - 100000 < d) := by
  have hstart : blankStart k * 1000 = 50000 * k.num := by unfold blankStart; omega
  simp only [drivenAt, hstart, driveMs_mul]
  split_ifs with hbefore hblanked
  · rw [decide_eq_true_eq]
    omega
  · simp only [false_iff]
    omega
  · rw [decide_eq_true_eq]
    omega

/-! ### A change of an input (R154 to R158) -/

theorem foldl_max_zero_spec (ns : List Nat) : (∀ n ∈ ns, n ≤ ns.foldl max 0) ∧ (ns.foldl max 0 = 0 ∨ ns.foldl max 0 ∈ ns) := by
  cases ns with
  | nil => exact ⟨nofun, .inl rfl⟩
  | cons n ns =>
    obtain ⟨hmem, hle⟩ := foldl_max_mem_and_le n ns
    exact ⟨hle, .inr hmem⟩

theorem Entry.hintInside_of_inside {e : Entry} {n : Nat} (hkind : e.kind = .iceZone n) (hstatus : e.status = .inside) :
    e.hintInside = n := by
  simp [Entry.hintInside, hkind, hstatus]

theorem Entry.inside_of_hintInside {e : Entry} (h : e.hintInside ≠ 0) : e.kind = .iceZone e.hintInside ∧ e.status = .inside := by
  unfold Entry.hintInside at h ⊢
  split
  · exact ⟨‹_›, ‹_›⟩
  · simp_all

/-- The hint handed on is the largest of the ice zones INSIDE, or 0 (R33). -/
theorem Teq.hint_spec (q : Teq) : (∀ e n, e ∈ q.entries ∧ e.kind = .iceZone n ∧ e.status = .inside → n ≤ q.hint) ∧
    (q.hint = 0 ∨ ∃ e, e ∈ q.entries ∧ e.kind = .iceZone q.hint ∧ e.status = .inside) := by
  have hlargest : q.hint = (q.entries.map Entry.hintInside).foldl max 0 := List.foldl_map.symm
  obtain ⟨hle, hmem⟩ := foldl_max_zero_spec (q.entries.map Entry.hintInside)
  rw [← hlargest] at hle hmem
  refine ⟨fun e n ⟨he, hkind, hstatus⟩ => ?_, ?_⟩
  · rw [← Entry.hintInside_of_inside hkind hstatus]
    exact hle _ (List.mem_map_of_mem he)
  · by_cases hzero : q.hint = 0
    · exact .inl hzero
    · obtain ⟨e, he, hhint⟩ := List.mem_map.mp (hmem.resolve_left hzero)
      rw [← hhint] at hzero ⊢
      exact .inr ⟨e, he, Entry.inside_of_hintInside hzero⟩

/-- The values that the neighbours hand on, taken as they stand (R158). -/
def State.icuInputs (s : State) : Icu :=
  { s.icu with roles := s.slots.map (fun x => x.role), zoneHint := s.teq.hint, iceDemand := s.cs.demand.ice,
               arcs := s.csu.buckets.map arcSum }

theorem State.icuReact_eq (s : State) : s.icuReact = State.iceLevelUpdate { s with icu := s.icuInputs.recompute } := rfl

/-- Settles O52: the events of the scan row by row, then the inputs with the levels that follow them. -/
theorem scanEvents : Obligations.ScanEvents := by
  refine ⟨fun s k hrun => ?_, fun s hband => ?_⟩
  · intro i begun driven
    refine ⟨?_, fun hc => ?_, fun j hc => ?_, fun hc => ?_, ?_, fun hfall => exec_fallTimerExpiry hrun hfall, fun t => drivenAt_iff⟩
    · rw [← Count.edge_eq]
      exact congrArg Host.Outcome.next (whenRunning_of_running hrun _)
    · rw [exec_gateEnd_of_ne hrun (ne_of_eq_of_ne hc nofun), Icu.gateEnd_of_ref hc]
      rfl
    · rw [exec_gateEnd_of_ne hrun (ne_of_eq_of_ne hc nofun), Icu.gateEnd_of_strip hc]
      cases j <;> rfl
    · have hends := exec_gateEnd_of_amb hrun hc
      rw [Icu.gateEnd_of_amb hc] at hends
      exact hends
    · exact congrArg Host.Outcome.next (whenRunning_of_running hrun _)
  · intro role arcs inside
    obtain ⟨hpeak, hcollects⟩ := s.icuInputs.arcPeak_spec
    obtain ⟨hhint, hzone⟩ := s.teq.hint_spec
    have hrole (k : SlotId) : s.icuInputs.roles.get k = role k := PerSlot.get_map _ _ k
    have harcs (k : SlotId) : s.icuInputs.arcs.get k = arcs k := PerSlot.get_map _ _ k
    simp only [hrole, harcs] at hpeak hcollects
    refine ⟨s.icuInputs.arcPeak, s.teq.hint, hpeak, hcollects, hhint, hzone, ?_⟩
    have hcomputed := computedOf_eq (band := s.icuInputs.ambBand) hband s.icuInputs.arcPeak
    rw [State.icuReact_eq, Icu.recompute_rows, hcomputed]
    rfl

end Sys2Proof.Machine
end

section
/-! PROOFS. The readouts of the Ice Unit, of the currents and of the flags: O33. -/

set_option Elab.async false

namespace Sys2Proof.Machine

/-! ### Codes and the bits they take -/

@[simp] theorem SensorFault.code_mod (x : SensorFault) : x.code % 4 = x.code := by cases x <;> rfl

@[simp] theorem OverReason.code_mod (x : OverReason) : x.code % 4 = x.code := by cases x <;> rfl

/-- The status of a readout that may carry a clamped value (R159, R175). -/
theorem clampedStatus_byte (c : Bool) : BitVec.ofNat 8 (if c then Status.clamped else Status.ok).code = if c then 0x01 else 0x00 := by
  cases c <;> rfl

/-- A value of one byte stands there whole (R198). -/
theorem toBE_one (n : Nat) : toBE 1 n = [byte n] := by simp [toBE]

/-- A set of reasons takes three bits (R175, R198; log 39). -/
theorem reasonBits_mod (a b c : Bool) : (a.toNat + 2 * b.toNat + 4 * c.toNat) % 8 = a.toNat + 2 * b.toNat + 4 * c.toNat := by
  have ha := a.toNat_lt
  have hb := b.toNat_lt
  have hc := c.toNat_lt
  omega

/-! ### The readouts -/

/-- The items of R159, packed. -/
theorem iceAnswer_payload (p : List Byte) (s : State) : (iceAnswer p s).payload =
    let i := s.icu
    let count (c : Count) : List Byte := toBE 2 c.n ++ [byte c.ovf.toNat]
    let temp (x : Sensor) : List Byte := toBE 2 (BitVec.ofInt 16 x.temp).toNat
    let marks (x : Sensor) : Nat := x.valid.toNat + at2 x.clamped 1
    let heater (k : SlotId) : Nat := (i.request.get k).toNat + at2 (i.grant.get k) 1 + at2 (i.heaterFault.get k) 2 + at2 (i.htr.get k) 3
    let clamped := i.strip.any (fun x => x.valid && x.clamped) || (i.amb.valid && i.amb.clamped)
    [if clamped then 0x01 else 0x00] ++ count i.lastRef ++ i.lastStrip.toList.flatMap count ++ toBE 2 i.lastAmb.n ++
      [byte (i.lastAmb.ovf.toNat + at2 i.refFault 1 + 4 * i.strip.ps0.fault.code + 16 * i.strip.ps1.fault.code +
        64 * i.strip.ps2.fault.code), byte (i.strip.ps3.fault.code + 4 * i.amb.fault.code)] ++
      i.strip.toList.flatMap (fun x => temp x ++ [byte (marks x)]) ++ temp i.amb ++
      [byte (marks i.amb + 4 * (i.ambBand % 4) + 16 * heater .ps0), byte (heater .ps1 + 16 * heater .ps2),
       byte (heater .ps3 + 16 * (i.duty % 4))] ++ toBE 2 i.arcPeak ++ [byte (i.computed % 4 + 4 * (i.measured % 4))] ++
      toBE 2 (timeLeft i.fall) ++ [byte (i.zoneHint % 4 + 4 * i.iceDemand.code + 32 * (i.iceLevel % 4))] ++ toBE 2 i.scans := by
  simp only [iceAnswer, Answer.payload, clampedStatus_byte]
  simp only [Sensor.clampedNow, Count.items, Item.bool, PerSlot.toList, List.flatMap_cons, List.flatMap_nil, List.append_nil,
    List.cons_append, List.nil_append, List.map_cons, List.map_nil, Sensor.items, twos, Nat.reducePow, allSlots, Icu.heaterItems, pack,
    ↓reduceIte, zero_add, Nat.one_le_ofNat, one_ne_zero, pow_one, toNat_mod_two, pow_zero, mul_one, Nat.reduceAdd, Nat.reduceLeDiff,
    Std.le_refl, SensorFault.code_mod, OfNat.ofNat_ne_zero, IceDemand.code_mod, List.append_assoc, at2, List.cons.injEq,
    List.append_cancel_left_eq, and_true, true_and]
  refine ⟨rfl, ?_, ?_, ?_, ?_, ?_, ?_, ?_⟩ <;> exact congrArg byte (by ring)

/-- The items of R175, packed. -/
theorem currentAnswer_payload (s : State) : (currentAnswer s).payload =
    let c := s.csu
    let slot (k : SlotId) : List Byte := toBE 2 (((c.hist.get k).head?.map (fun x => x.amps)).getD 0) ++ toBE 2 (c.mean.get k) ++
      toBE 2 (c.limit.get k) ++ [byte ((c.overMark.get k).toNat + 2 * (c.roles.get k).code + at2 (c.dropout.get k).isSome 3),
        byte ((c.buckets.get k).headD 0)] ++ toBE 2 (c.buckets.get k).sum
    let clamped := c.hist.any (fun h => h.any (fun x => x.clamped))
    [if clamped then 0x01 else 0x00] ++ slot .ps0 ++ slot .ps1 ++ slot .ps2 ++ slot .ps3 ++
      [byte c.overLimit.toNat] ++ toBE 2 c.total ++
      [byte (expectedCode c.expected + 8 * (c.band % 4) + 32 * (c.profile % 4) + at2 (decide (c.band = 0)) 7),
       byte (c.tro.toNat + at2 c.seqHeld 1 + at2 c.demandHeld 2 + 8 * c.overReason.code)] ++ toBE 2 (timeLeft c.width) ++
      toBE 2 (timeLeft c.overload) ++ [byte (c.overloadLatch.toNat + at2 c.seen.seq 1 + at2 c.seen.demand 2 + at2 c.seen.ovr 3)] := by
  simp only [currentAnswer, Answer.payload, clampedStatus_byte]
  simp only [allSlots, List.flatMap_cons, Csu.slotItems, Item.bool, arcSum, List.flatMap_nil, List.append_nil, List.cons_append,
    List.nil_append, pack, ↓reduceIte, zero_add, Nat.one_le_ofNat, Nat.reduceAdd, Nat.reduceLeDiff, OfNat.ofNat_ne_zero, pow_one,
    toNat_mod_two, pow_zero, mul_one, Nat.reducePow, Role.code_mod, toBE_one, one_ne_zero, Std.le_refl, expectedCode_mod,
    OverReason.code_mod, reasonBits_mod, List.append_assoc, at2, List.cons.injEq, List.append_cancel_left_eq, and_true, true_and]
  refine ⟨?_, ?_, ?_, ?_, ?_, ?_, ?_⟩ <;> exact congrArg byte (by ring)

/-- The items of R180, packed. -/
theorem flagsReadout_payload (l : Link) (p : List Byte) (s : State) : (flagsReadout l p s).payload =
    [0x00] ++ toBE 4 s.fnu.flags.toNat ++
      [byte (s.lsu.overvolt.toNat + at2 s.bki.wrongLatch 1 + at2 s.csu.overloadLatch 2 + at2 s.bki.brkFault 3 +
        at2 s.icu.heaterFault.ps0 4 + at2 s.icu.heaterFault.ps1 5 + at2 s.icu.heaterFault.ps2 6 + at2 s.icu.heaterFault.ps3 7),
       byte (at2 (decide (s.slots.ps0.state = .locked)) 0 + at2 (decide (s.slots.ps1.state = .locked)) 1 +
        at2 (decide (s.slots.ps2.state = .locked)) 2 + at2 (decide (s.slots.ps3.state = .locked)) 3)] ++
      toBE 4 (s.fnu.mask.get l).toNat ++ [byte (s.fnu.notice.get l).toNat] := by
  simp only [flagsReadout, Answer.payload]
  simp only [Status.code, pack, ↓reduceIte, flagBytes, latchBits, PerSlot.bits, toBE_one, lockedBits, PerSlot.map, Item.bool, zero_add,
    Nat.one_le_ofNat, one_ne_zero, pow_one, toNat_mod_two, pow_zero, mul_one, List.nil_append, List.cons_append, BitVec.ofNat_eq_ofNat,
    at2, Nat.reducePow, List.append_assoc, List.cons.injEq, List.append_cancel_left_eq, and_true, true_and]
  refine ⟨?_, ?_⟩ <;> exact congrArg byte (by ring)

/-- READ_CURRENT reads alone on the observer link (R171, R175). -/
theorem ownReadCurrent_of_ne {s : State} {l : Link} (h : s.lif.holder ≠ some l) (p : List Byte) :
    ownReadCurrent l p s = (s, some (currentAnswer s)) := by
  rw [ownReadCurrent, if_neg h]

/-- On the commanding link the reasons seen become those held (R171). -/
theorem ownReadCurrent_of_holder {s : State} {l : Link} (h : s.lif.holder = some l) (p : List Byte) :
    ownReadCurrent l p s = ({ s with csu := { s.csu with seen := s.csu.reasonsHeld } }, some (currentAnswer s)) := by
  rw [ownReadCurrent, if_pos h]

/-- Settles O33: the requests read, and their answers pack as given; the reasons seen are written on the commanding link alone. -/
theorem iceCurrentAndFlagsReplyBytes : Obligations.IceCurrentAndFlagsReplyBytes := by
  intro s l
  refine ⟨fun h => ?_, fun h => ⟨fun hl => ?_, fun hl => ?_⟩, fun h => ?_⟩
  · refine (congrArg Host.Outcome.next (h.served (owner := readOnly _) rfl rfl rfl)).trans ?_
    rw [iceAnswer_payload]
    rfl
  · refine (congrArg Host.Outcome.next (h.served rfl rfl (ownReadCurrent_of_ne (s := s.beginService l) hl []))).trans ?_
    rw [currentAnswer_payload]
    rfl
  · refine (congrArg Host.Outcome.next (h.served rfl rfl (ownReadCurrent_of_holder (s := s.beginService l) hl []))).trans ?_
    rw [currentAnswer_payload]
    rfl
  · refine (congrArg Host.Outcome.next (h.served (owner := readOnly _) rfl rfl rfl)).trans ?_
    rw [flagsReadout_payload]
    rfl

end Sys2Proof.Machine
end

section
/-! PROOFS. What a command can make of the parameter table (R196, R197, R203): the inversion `exec_params_cases` for all 81 commands. -/

set_option Elab.async false

namespace Sys2Proof.Machine

/-! ### The links leave the table

The blocks outside the Link Interface leave it whole (`State.handOn_lif` and its fellows); of the Link Interface's own operations each
leaves the parameters. -/

@[simp] theorem State.updLink_params (s : State) (l : Link) (f : LinkState → LinkState) :
    (s.updLink l f).lif.params = s.lif.params := rfl

@[simp] theorem State.setHolder_params (s : State) (h : Option Link) (p : Option Nat) :
    (s.setHolder h p).lif.params = s.lif.params := by
  rw [State.setHolder_lif]

@[simp] theorem State.sendReply_params (s : State) (l : Link) (code : Nat) (a : Answer) :
    (s.sendReply l code a).lif.params = s.lif.params := rfl

@[simp] theorem State.applySel_params (s : State) (lvl : SelLevel) : (s.applySel lvl).lif.params = s.lif.params := by
  cases lvl <;> exact State.setHolder_params _ _ _

@[simp] theorem State.applyTake_params (s : State) (l : Link) (prio : Nat) : (s.applyTake l prio).lif.params = s.lif.params := by
  unfold State.applyTake
  split <;> simp

@[simp] theorem State.applyPass_params (s : State) (l : Link) : (s.applyPass l).lif.params = s.lif.params := by
  unfold State.applyPass
  split <;> simp

@[simp] theorem State.applyParts_params (s : State) : s.applyParts.lif.params = s.lif.params := by
  simp only [State.applyParts]
  (repeat' split) <;> simp

@[simp] theorem State.deferredPass_params (s : State) : s.deferredPass.lif.params = s.lif.params := by
  unfold State.deferredPass
  (repeat' split) <;> rfl

@[simp] theorem State.changeEffect_params (s : State) : s.changeEffect.lif.params = s.lif.params := by
  simp only [State.changeEffect]
  (repeat' split) <;> simp

@[simp] theorem State.makePass_params (s : State) (l : Link) : (s.makePass l).lif.params = s.lif.params := by
  unfold State.makePass
  split <;> rfl

@[simp] theorem State.selAccepted_params (s : State) : s.selAccepted.lif.params = s.lif.params := by
  simp [State.selAccepted]

@[simp] theorem State.linkAlive_params (s : State) (l : Link) : (s.linkAlive l).lif.params = s.lif.params := by
  simp only [State.linkAlive]
  split <;> simp

@[simp] theorem State.takeFrame_params (s : State) (l : Link) (bs : List Byte) : (s.takeFrame l bs).lif.params = s.lif.params := by
  simp only [State.takeFrame]
  (repeat' split) <;> simp

@[simp] theorem State.holderHandOn_params (s : State) (before : Option Link) :
    (s.holderHandOn before).lif.params = s.lif.params := by
  unfold State.holderHandOn
  split <;> simp

@[simp] theorem State.receive_params (s : State) (l : Link) (b : Byte) : (s.receive l b).lif.params = s.lif.params := by
  simp only [State.receive, State.frameComplete]
  (repeat' split) <;> simp

@[simp] theorem State.startNotice_params (s : State) (l : Link) : (s.startNotice l).lif.params = s.lif.params := rfl

@[simp] theorem State.startNext_params (s : State) (l : Link) : (s.startNext l).lif.params = s.lif.params := by
  unfold State.startNext
  (repeat' split) <;> simp

@[simp] theorem State.linkSilent_params (s : State) (l : Link) : (s.linkSilent? l).lif.params = s.lif.params := by
  simp only [State.linkSilent?]
  (repeat' split) <;> simp

@[simp] theorem State.rawLevel_params (s : State) (i : RawInput) : (s.rawLevel i).lif.params = s.lif.params := by
  cases i <;> rfl

@[simp] theorem State.clearLatch_params (s : State) (x : Latch) : (s.clearLatch x).lif.params = s.lif.params := by
  cases x <;> rfl

@[simp] theorem State.gateEnded_params (s : State) : s.gateEnded.lif.params = s.lif.params := by
  unfold State.gateEnded
  split <;> simp

/-! ### Every command -/

/-- What a command can make of the table: it leaves it, a reset gives the defaults, and SET_PARAM stores one value clamped to its
range (R196, R197, R203). -/
inductive SetsParams (ps : List Nat) : List Nat → Prop
  | unchanged : SetsParams ps ps
  | defaults : SetsParams ps paramDefaults
  | stored (id v : Nat) : SetsParams ps (ps.set id (clampTo (paramRanges.getD id (0, 0)) v))

theorem SetsParams.of_eq {ps qs : List Nat} (h : qs = ps) : SetsParams ps qs := h ▸ .unchanged

theorem whenRunning_params {f : State → State} (hf : ∀ u : State, (f u).lif.params = u.lif.params) (s : State) :
    (whenRunning f s).lif.params = s.lif.params := by
  unfold whenRunning
  split
  · rfl
  · exact hf s

/-- Serving a request leaves the table where its owner does. -/
theorem execServe_params {owner : List Byte → State → State × Option Answer} (l : Link) (r : Req)
    (howner : ∀ p (u : State), (owner p u).1.lif.params = u.lif.params) (s : State) :
    (whenRunning (fun u => u.serve l r owner) s).lif.params = s.lif.params :=
  whenRunning_params (fun u => State.serve_keeps (P := fun v => v.lif.params = u.lif.params) (fun _ _ h => h)
    (fun p v h => (howner p v).trans h) rfl) s

/-- SET_PARAM's owner stores one value clamped to its range, or nothing (R196). -/
theorem ownSetParam_params (p : List Byte) (s : State) : SetsParams s.lif.params (ownSetParam p s).1.lif.params := by
  simp only [ownSetParam]
  split
  · exact .unchanged
  · dsimp only
    split
    · rw [State.handOn_lif, State.storeParam_lif]
      exact .stored _ _
    · exact .stored _ _

/-- Service of SET_PARAM does to the table what its owner does. -/
theorem State.serve_setParam_params (s : State) (l : Link) (r : Req) : SetsParams s.lif.params (s.serve l r ownSetParam).lif.params := by
  unfold State.serve
  split
  · exact .unchanged
  · split_ifs
    · exact .unchanged
    · exact .unchanged
    · exact .unchanged
    · next q _ _ _ _ =>
      have howner : SetsParams s.lif.params (ownSetParam q.payload (s.beginService l)).1.lif.params := ownSetParam_params _ (s.beginService l)
      unfold State.serveOwner
      split <;> simp_all

theorem State.frameEnd_params (s : State) (l : Link) : SetsParams s.lif.params (s.frameEnd l).lif.params := by
  unfold State.frameEnd
  split
  · exact .unchanged
  · exact .of_eq (by simp)
  · split
    · exact .defaults
    · exact .of_eq (by simp)

/-- What a command can make of the parameter table. -/
theorem exec_params_cases {c : Instr} {s t : State} (he : exec c s = .next t) : SetsParams s.lif.params t.lif.params := by
  cases c with
  | powerOn | rstNLow => cases he; exact .defaults
  | rstNRise =>
    cases he
    split
    · exact .defaults
    · exact .unchanged
  | inputRawChange i =>
    cases he
    split
    · exact .defaults
    · exact .of_eq (s.rawLevel_params i)
  | frameSent l =>
    cases he
    unfold whenRunning
    split
    · exact .unchanged
    · exact s.frameEnd_params l
  | setParam l =>
    cases he
    unfold whenRunning
    split
    · exact .unchanged
    · exact s.serve_setParam_params l _
  -- the other requests
  | readPosition | readQueue | readClosed | readLine | readSlot | readRule | readTarget | readBreaker | readPassage
  | readIce | getFlags | getStatus | readParam | resetPart => cases he; exact .of_eq (execServe_params _ _ (fun _ _ => rfl) s)
  | reportPosition | reverse | postEvent | cancelEvent | resumeQueue | setSlot | unlockSlot | setDemand | writeRule | clearTro
  | readCurrent | clearFlags | clearFault | setNoticeMask | takeCommand =>
    cases he
    refine .of_eq (execServe_params _ _ (fun p u => ?_) s)
    simp only [ownReportPosition, ownReverse, ownPostEvent, ownCancelEvent, ownResumeQueue, ownSetSlot, ownUnlockSlot, ownSetDemand,
      ownWriteRule, ownClearTro, ownReadCurrent, ownClearFlags, ownClearFault, ownSetNoticeMask, ownTakeCommand]
    (repeat' split) <;> simp
  -- an event of one block, and its hand-over
  | _ =>
    cases he
    refine .of_eq (whenRunning_params (fun u => ?_) s)
    (repeat' split) <;> simp [State.powerIfSilent_lif]

end Sys2Proof.Machine
end

section
/-! PROOFS. The laws of the Collection Supervisor (R162, R164, R173) under the hand-over and every command, and O57. -/

set_option Elab.async false

namespace Sys2Proof.Machine

/-! ### The level of TRO

Every change of a reason ends in `State.troUpdate`, which gives TRO its level whatever it was; the taking of the inputs ends in it too, so
each hand-over gives the law afresh. -/

theorem State.troUpdate_troLaw (s : State) : s.troUpdate.csu.troLaw := by
  rw [State.troUpdate_csu]
  rfl

theorem State.releaseDemand_troLaw (s : State) : s.releaseDemand.csu.troLaw := State.troUpdate_troLaw _

theorem State.marksUpdate_troLaw (s : State) : s.marksUpdate.csu.troLaw := State.troUpdate_troLaw _

section Reasons
variable {s : State} (h : s.csu.troLaw)
include h

theorem State.brkEnterOpening_troLaw : s.brkEnterOpening.csu.troLaw := by
  cases haux : s.bki.aux.acc with
  | true => rw [State.brkEnterOpening_of_aux haux]; exact h
  | false => rw [State.brkEnterOpening_of_released haux]; exact State.releaseDemand_troLaw _

theorem State.openBySequencer_troLaw : s.openBySequencer.csu.troLaw := by
  unfold State.openBySequencer
  split
  · exact State.brkEnterOpening_troLaw h
  · exact h

theorem State.rampReport_troLaw : s.rampReport.csu.troLaw := by
  unfold State.rampReport State.rampEnd
  split_ifs
  · exact State.brkEnterOpening_troLaw h
  · exact h
  · exact h

omit h in
theorem State.rampStart_troLaw {s : State} (hstate : s.bki.state = .closed) : s.rampStart.csu.troLaw := by
  have hbegun : s.rampBegun.csu.troLaw := State.troUpdate_troLaw _
  rw [State.rampStart_eq hstate]
  split
  · exact State.brkEnterOpening_troLaw hbegun
  · exact hbegun

theorem State.rampAbandon_troLaw : s.rampAbandon.csu.troLaw := by
  unfold State.rampAbandon
  split
  · exact State.releaseDemand_troLaw _
  · exact h

theorem State.writeDemand_troLaw (d : Demand) : (s.writeDemand d).csu.troLaw := by
  rw [State.writeDemand_eq, State.powerWritten]
  split_ifs with hsame hpower hstate
  · exact h
  · exact State.rampAbandon_troLaw h
  · exact State.rampStart_troLaw hstate
  · exact h

theorem State.csRelease_troLaw (next : Option LineSystem) : (s.csRelease next).csu.troLaw := by
  unfold State.csRelease
  split
  · simpa using h
  · simpa using State.writeDemand_troLaw h _

theorem State.planClosed_troLaw : s.planClosed.csu.troLaw := by
  rw [State.planClosed_csu]
  split
  · simp [Csu.troLaw, Csu.troLevel]
  · exact h

theorem State.closeEntry_troLaw (e : Entry) (r : CloseResult) (last : Option Step) : (s.closeEntry e r last).csu.troLaw := by
  unfold State.closeEntry
  split_ifs
  · rw [State.csHoldOff_csu]
    exact State.planClosed_troLaw (by simpa using h)
  · simpa using h
  · exact h

theorem State.closeActive_troLaw (r : CloseResult) (last : Option Step) : (s.closeActive r last).csu.troLaw := by
  unfold State.closeActive
  split
  · exact State.closeEntry_troLaw (by simpa using h) _ _ _
  · exact h

theorem State.abortNoOpen_troLaw : s.abortNoOpen.csu.troLaw := State.closeActive_troLaw (s := s.setHolds .fast) h _ _

theorem State.startStep_troLaw (st : Step) : (s.startStep st).csu.troLaw := by
  cases st with
  | ramp => rw [State.startStep_ramp]; exact h
  | openBrk => exact State.openBySequencer_troLaw h
  | reraise =>
    rw [State.startStep, State.releaseHolds_csu]
    exact State.csRelease_troLaw (by exact h) _
  | lower | coast | confirm => exact h

omit h in
theorem State.advance_troLaw (n : Nat) (c : Cause) {s : State} (h : s.csu.troLaw) : (State.advance n c s).csu.troLaw := by
  induction n generalizing c s with
  | zero => exact h
  | succ n ih =>
    unfold State.advance
    split
    · exact h
    · exact ih _ (State.startStep_troLaw h _)
    · exact State.closeActive_troLaw h _ _
    · exact State.abortNoOpen_troLaw h

theorem State.reportTotal_troLaw : s.reportTotal.csu.troLaw := by
  simp only [State.reportTotal]
  split
  · exact State.advance_troLaw _ _ (State.rampReport_troLaw h)
  · exact State.rampReport_troLaw h

theorem State.interlock_troLaw : s.interlock.csu.troLaw := by
  unfold State.interlock
  split
  · split <;> exact h
  · split
    · exact h
    · exact State.brkEnterOpening_troLaw (s := s.testItems) h
  · split
    · exact State.brkEnterOpening_troLaw h
    · exact h
  · exact h
  · exact h

theorem State.bkiReact_troLaw : s.bkiReact.csu.troLaw := by
  have hlock : s.wrongTest.interlock.csu.troLaw := State.interlock_troLaw (by simpa using h)
  simp only [State.bkiReact]
  split
  · exact State.closeActive_troLaw hlock _ _
  · exact hlock

end Reasons

theorem State.csuReact_troLaw (s : State) : s.csuReact.csu.troLaw := by
  have hinputs : s.csuInputs.csu.troLaw := State.marksUpdate_troLaw _
  simp only [State.csuReact]
  split
  · exact hinputs
  · exact State.reportTotal_troLaw hinputs

theorem State.settle_troLaw (s : State) : s.settle.csu.troLaw := State.bkiReact_troLaw (State.csuReact_troLaw _)

theorem State.rounds_troLaw (n : Nat) {s : State} (h : s.csu.troLaw) : (State.rounds n s).csu.troLaw := by
  induction n generalizing s with
  | zero => exact h
  | succ n ih => exact ih (State.settle_troLaw _)

/-- Every hand-over ends with TRO at its level, whatever it began with. -/
theorem State.handOn_troLaw (s : State) : s.handOn.csu.troLaw := by
  rw [State.handOn, State.pointsTidy_csu]
  exact State.rounds_troLaw _ s.settle_troLaw

/-! ### The limits -/

theorem profilePercent_le (p : Nat) : profilePercent p ≤ 100 := by
  match p with
  | 0 | 1 | 2 | 3 => decide
  | _ + 4 => exact Nat.zero_le _

/-- A limit that the values held give is at most its table value (R162). -/
theorem State.LimitsGiven.limitLaw {s : State} (h : s.LimitsGiven) : s.limitLaw := fun k => by
  rw [h k, State.limitNow]
  cases s.csu.expected with
  | none => rfl
  | some x => exact Nat.div_le_of_le_mul (by rw [Nat.mul_comm 100]; exact Nat.mul_le_mul_left _ (profilePercent_le _))

/-- The law of the limits reads the limits, the system and the band in use, and the parameters of that system (R162). -/
theorem State.limitLaw_congr {s t : State} (hlimit : t.csu.limit = s.csu.limit) (hexpected : t.csu.expected = s.csu.expected)
    (hband : t.csu.band = s.csu.band) (hparam : ∀ x b, t.limitParam x b = s.limitParam x b) (h : s.limitLaw) : t.limitLaw := by
  simpa only [State.limitLaw, hlimit, hexpected, hband, hparam] using h

theorem State.Kept.limitLaw {s t : State} (h : s.Kept t) : s.limitLaw → t.limitLaw :=
  State.limitLaw_congr h.limit h.expected h.band fun _ _ => by simp only [State.limitParam, State.param, h.lif]

/-- A parameter below the LIMIT values is no limit of any system (R203). -/
theorem State.storeParam_limitLaw {s : State} {id : Nat} (hid : ¬ 0x1C ≤ id) (v : Nat) :
    s.limitLaw → (State.storeParam id v s).limitLaw :=
  State.limitLaw_congr rfl rfl rfl fun x b => by
    have hne : id ≠ 0x1C + 2 * (x.code - 1) + b.toNat := by omega
    simp [State.limitParam, State.param, List.getD_eq_getElem?_getD, List.getElem?_set_ne hne]

/-! ### The buckets -/

theorem Csu.bucketLaw_congr {c d : Csu} (h : d.buckets = c.buckets) : d.bucketLaw ↔ c.bucketLaw := by
  simp only [Csu.bucketLaw, h]

theorem State.Framed.bucketLaw {s t : State} (h : s.Framed t) : t.csu.bucketLaw ↔ s.csu.bucketLaw := Csu.bucketLaw_congr h.buckets

/-- An arc watch leaves the buckets of its slot, or adds one arc (R172, R173). -/
theorem arcWatch_buckets (role : Role) (brk : BrkState) (mean sample : Nat) (dropout : Timer) (bs : List Nat) :
    (arcWatch role brk mean sample dropout bs).2 = bs ∨ (arcWatch role brk mean sample dropout bs).2 = addArc bs := by
  unfold arcWatch
  split
  · split <;> exact .inl rfl
  · split
    · exact .inl rfl
    · exact .inr rfl

theorem addArc_length (bs : List Nat) : (addArc bs).length = bs.length := by cases bs <;> rfl

theorem addArc_le {bs : List Nat} (h : ∀ b ∈ bs, b ≤ 255) : ∀ b ∈ addArc bs, b ≤ 255 := by
  cases bs with
  | nil => exact h
  | cons b bs =>
    rw [addArc, List.forall_mem_cons]
    exact ⟨Nat.min_le_left _ _, fun x hx => h x (List.mem_cons_of_mem b hx)⟩

theorem Csu.sampleAll_bucketLaw {c : Csu} (h : c.bucketLaw) (amps : PerSlot Nat) : (c.sampleAll amps).bucketLaw := fun k => by
  obtain ⟨hlength, hle⟩ := h k
  simp only [Csu.sampleAll, PerSlot.get_map, PerSlot.get_of]
  obtain hkept | hadded := arcWatch_buckets (c.roles.get k) c.brk (c.mean.get k) (senseSample (amps.get k)).amps (c.dropout.get k)
    (c.buckets.get k)
  · rw [hkept]
    exact ⟨hlength, hle⟩
  · rw [hadded, addArc_length]
    exact ⟨hlength, addArc_le hle⟩

theorem turnOver_bucketLaw {c : Csu} (h : c.bucketLaw) (t : Timer) :
    Csu.bucketLaw { c with buckets := c.buckets.map turnOver, bucket := t } := fun k => by
  obtain ⟨hlength, hle⟩ := h k
  simp only [PerSlot.get_map, turnOver, List.length_cons, List.length_take, hlength, List.forall_mem_cons]
  exact ⟨rfl, Nat.zero_le _, fun b hb => hle b (List.mem_of_mem_take hb)⟩

/-! #### What changes a reason leaves the buckets -/

@[simp] theorem State.troUpdate_bucketLaw (s : State) : s.troUpdate.csu.bucketLaw ↔ s.csu.bucketLaw := s.troUpdate_kept.toFramed.bucketLaw

@[simp] theorem State.releaseDemand_bucketLaw (s : State) : s.releaseDemand.csu.bucketLaw ↔ s.csu.bucketLaw :=
  s.releaseDemand_kept.toFramed.bucketLaw

@[simp] theorem State.writeDemand_bucketLaw (s : State) (d : Demand) : (s.writeDemand d).csu.bucketLaw ↔ s.csu.bucketLaw := by
  rw [State.writeDemand_eq]
  exact (State.powerWritten_kept (s.demandWritten d) _).toFramed.bucketLaw

@[simp] theorem State.powerIfSilent_bucketLaw (s : State) : s.powerIfSilent.csu.bucketLaw ↔ s.csu.bucketLaw := by
  unfold State.powerIfSilent
  split <;> simp

@[simp] theorem State.clearLatch_bucketLaw (s : State) (x : Latch) : (s.clearLatch x).csu.bucketLaw ↔ s.csu.bucketLaw := by
  cases x <;> rfl

@[simp] theorem State.brkEnterOpen_bucketLaw (s : State) : s.brkEnterOpen.csu.bucketLaw ↔ s.csu.bucketLaw :=
  s.brkEnterOpen_kept.toFramed.bucketLaw

@[simp] theorem State.brkEnterFailed_bucketLaw (s : State) (kind : FailKind) :
    (s.brkEnterFailed kind).csu.bucketLaw ↔ s.csu.bucketLaw := by
  simp [State.brkEnterFailed, State.latchBrkFault]

theorem State.externalTrip_bucketLaw (s : State) : s.externalTrip.csu.bucketLaw ↔ s.csu.bucketLaw := by
  simp only [State.externalTrip]
  split <;> simp [State.latchBrkFault]

@[simp] theorem State.auxMade_bucketLaw (s : State) : s.auxMade.csu.bucketLaw ↔ s.csu.bucketLaw := by
  unfold State.auxMade
  split <;> simp

@[simp] theorem State.auxReleased_bucketLaw (s : State) : s.auxReleased.csu.bucketLaw ↔ s.csu.bucketLaw := by
  unfold State.auxReleased
  split <;> simp [State.externalTrip_bucketLaw]

@[simp] theorem State.closeTimeout_bucketLaw (s : State) : s.closeTimeout.csu.bucketLaw ↔ s.csu.bucketLaw := by
  unfold State.closeTimeout
  split <;> simp

@[simp] theorem State.openTimeout_bucketLaw (s : State) : s.openTimeout.csu.bucketLaw ↔ s.csu.bucketLaw := by
  unfold State.openTimeout
  split <;> simp

@[simp] theorem State.openCheckEnd_bucketLaw (s : State) : s.openCheckEnd.csu.bucketLaw ↔ s.csu.bucketLaw := by
  unfold State.openCheckEnd
  (repeat' split) <;> simp

@[simp] theorem State.rampEnd_bucketLaw (s : State) : s.rampEnd.csu.bucketLaw ↔ s.csu.bucketLaw := s.rampEnd_kept.toFramed.bucketLaw

@[simp] theorem State.reportTotal_bucketLaw (s : State) : s.reportTotal.csu.bucketLaw ↔ s.csu.bucketLaw :=
  s.reportTotal_kept.toFramed.bucketLaw

@[simp] theorem State.closeEntry_bucketLaw (s : State) (e : Entry) (r : CloseResult) (last : Option Step) :
    (s.closeEntry e r last).csu.bucketLaw ↔ s.csu.bucketLaw := (s.closeEntry_kept e r last).toFramed.bucketLaw

@[simp] theorem State.closeAllReversed_bucketLaw (s : State) : s.closeAllReversed.csu.bucketLaw ↔ s.csu.bucketLaw :=
  s.closeAllReversed_kept.toFramed.bucketLaw

@[simp] theorem State.psqRampExpiry_bucketLaw (s : State) : s.psqRampExpiry.csu.bucketLaw ↔ s.csu.bucketLaw := by
  unfold State.psqRampExpiry
  split
  · exact ((s.startStep_kept _).trans (State.advance_kept _ _ _)).toFramed.bucketLaw
  · rfl

@[simp] theorem State.confirmExpiry_bucketLaw (s : State) : s.confirmExpiry.csu.bucketLaw ↔ s.csu.bucketLaw := by
  unfold State.confirmExpiry
  split_ifs
  · exact (s.closeActive_kept _ _).toFramed.bucketLaw
  · exact (s.abortWith_kept _ _).toFramed.bucketLaw
  · rfl

/-! ### The three laws together -/

/-- The laws of the Collection Supervisor (R162, R164, R173). -/
structure State.CollectionLaws (s : State) : Prop where
  tro : s.csu.troLaw
  buckets : s.csu.bucketLaw
  limits : s.limitLaw

theorem State.LimitsGiven.collectionLaws {s : State} (h : s.LimitsGiven) (htro : s.csu.troLaw) (hbuckets : s.csu.bucketLaw) :
    s.CollectionLaws := ⟨htro, hbuckets, h.limitLaw⟩

/-- What leaves the Collection Supervisor and the parameters leaves the laws. -/
theorem State.CollectionLaws.of_eq {s t : State} (h : s.CollectionLaws) (hcsu : t.csu = s.csu := by simp)
    (hparams : t.lif.params = s.lif.params := by simp) : t.CollectionLaws where
  tro := by rw [hcsu]; exact h.tro
  buckets := by rw [hcsu]; exact h.buckets
  limits := State.limitLaw_congr (by rw [hcsu]) (by rw [hcsu]) (by rw [hcsu])
    (fun _ _ => by simp only [State.limitParam, State.param, hparams]) h.limits

/-- A new part has the laws (R160). -/
theorem State.resetWith_collectionLaws (pins : Pins) (pending : List Instr) : (State.resetWith pins pending).CollectionLaws :=
  ⟨Csu.reset_troLaw _, Csu.reset_bucketLaw _, State.resetWith_limitLaw _ _⟩

/-- Every hand-over gives TRO and the limits afresh, and leaves the buckets (R162, R164). -/
@[simp] theorem State.handOn_collectionLaws (s : State) : s.handOn.CollectionLaws ↔ s.csu.bucketLaw :=
  ⟨fun h => s.handOn_framed.bucketLaw.mp h.buckets,
    fun h => State.LimitsGiven.collectionLaws s.handOn_limitsGiven s.handOn_troLaw (s.handOn_framed.bucketLaw.mpr h)⟩

@[simp] theorem State.estimateUpdate_collectionLaws (s : State) : s.estimateUpdate.CollectionLaws ↔ s.csu.bucketLaw := by
  rw [State.estimateUpdate_eq, State.handOn_collectionLaws]
  exact ((s.psqUpdate_kept.trans (State.skipAll_kept _)).trans (State.zonesAll_kept _)).toFramed.bucketLaw

@[simp] theorem State.report_collectionLaws (s : State) (pos : Pos) (v u : Nat) :
    (s.report pos v u).CollectionLaws ↔ s.csu.bucketLaw := by
  simp [State.report_eq]

@[simp] theorem State.slotEvent_collectionLaws (s : State) (k : SlotId) (r : Slot × List Flag) :
    (s.slotEvent k r).CollectionLaws ↔ s.csu.bucketLaw := by
  simp [State.slotEvent]

section Operations
variable {s : State} (h : s.CollectionLaws)
include h

theorem State.holderHandOn_collectionLaws (before : Option Link) : (s.holderHandOn before).CollectionLaws := by
  unfold State.holderHandOn
  split
  · exact h
  · simpa using h.buckets

theorem State.receive_collectionLaws (l : Link) (b : Byte) : (s.receive l b).CollectionLaws := by
  simp only [State.receive, State.frameComplete]
  (repeat' split)
  · exact h.of_eq
  · exact h
  · exact h.of_eq
  · exact State.holderHandOn_collectionLaws h.of_eq _
  · exact h.of_eq
  · exact h.of_eq

theorem State.gateEnded_collectionLaws : s.gateEnded.CollectionLaws := by
  unfold State.gateEnded
  split
  · simpa using h.buckets
  · exact h.of_eq

theorem State.frameEnd_collectionLaws (l : Link) : (s.frameEnd l).CollectionLaws := by
  unfold State.frameEnd
  split
  · exact h
  · exact h.of_eq
  · split
    · exact State.resetWith_collectionLaws _ _
    · exact h.of_eq

/-- A reason changed and TRO updated after it (R164). -/
theorem State.overReason_collectionLaws (r : OverReason) (width half : Timer) :
    (State.troUpdate { s with csu := { s.csu with overReason := r, width := width, half := half } }).CollectionLaws :=
  ⟨State.troUpdate_troLaw _, (State.troUpdate_bucketLaw _).mpr h.buckets, (State.troUpdate_kept _).limitLaw h.limits⟩

end Operations

/-! ### Every command -/

section Commands
variable {s t : State} (h : s.CollectionLaws)
include h

theorem whenRunning_collectionLaws {f : State → State} (hf : ∀ u : State, u.CollectionLaws → (f u).CollectionLaws) :
    (whenRunning f s).CollectionLaws := by
  unfold whenRunning
  split
  · exact h
  · exact hf s h

/-- Serving a request keeps the laws where its owner does. -/
theorem execServe_collectionLaws {owner : List Byte → State → State × Option Answer} {l : Link} {r : Req}
    (howner : ∀ p {u : State}, u.CollectionLaws → (owner p u).1.CollectionLaws) :
    (whenRunning (fun u => u.serve l r owner) s).CollectionLaws :=
  whenRunning_collectionLaws h fun _ hu => State.serve_keeps (fun _ _ hv => hv.of_eq rfl rfl) (fun p _ hv => howner p hv) hu

/-- Every command keeps the laws: it hands on, resets, updates TRO after a reason it changes, or leaves what the laws read. -/
theorem exec_collectionLaws {c : Instr} (he : exec c s = .next t) : t.CollectionLaws := by
  cases c with
  -- resets
  | powerOn pins => cases he; exact State.resetWith_collectionLaws pins s.pending
  | rstNLow => cases he; exact (State.resetWith_collectionLaws s.pins s.pending).of_eq rfl rfl
  | rstNRise =>
    cases he
    split
    · exact State.resetWith_collectionLaws _ _
    · exact h
  | inputRawChange i =>
    cases he
    split
    · exact (State.resetWith_collectionLaws (s.rawLevel i).pins (s.rawLevel i).pending).of_eq rfl rfl
    · exact h.of_eq (by cases i <;> rfl)
  -- the links
  | frameSent l => cases he; exact whenRunning_collectionLaws h fun _ hu => State.frameEnd_collectionLaws hu l
  | frameReceived l b =>
    cases he
    refine whenRunning_collectionLaws h fun u hu => ?_
    split
    · exact State.receive_collectionLaws hu l b
    · exact hu
  | byteReceived l b stopBitError =>
    cases he
    refine whenRunning_collectionLaws h fun u hu => ?_
    split
    · split
      · exact hu
      · exact hu.of_eq
    · exact State.receive_collectionLaws hu l b
  | commandChangeEffect =>
    cases he
    exact whenRunning_collectionLaws h fun u hu => State.holderHandOn_collectionLaws hu.of_eq _
  | selAcceptedChange =>
    cases he
    refine whenRunning_collectionLaws h fun u hu => ?_
    split
    · exact State.holderHandOn_collectionLaws hu.of_eq _
    · exact hu
  | rxGapTimeout | unknownReq | noticeStart =>
    cases he
    refine whenRunning_collectionLaws h fun u hu => ?_
    (repeat' split) <;> exact hu.of_eq
  -- requests that read, or write another block alone
  | readPosition | readQueue | readClosed | readLine | readSlot | readRule | readTarget | readBreaker | readPassage
  | readIce | getFlags | getStatus | readParam => cases he; exact execServe_collectionLaws h fun _ _ hu => hu
  | resetPart => cases he; exact execServe_collectionLaws h fun _ _ hu => hu.of_eq rfl rfl
  | clearFlags | setNoticeMask =>
    cases he
    refine execServe_collectionLaws h fun p u hu => ?_
    simp only [ownClearFlags, ownSetNoticeMask]
    split
    · exact hu
    · exact hu.of_eq
  | takeCommand l =>
    cases he
    refine execServe_collectionLaws h fun p u hu => ?_
    simp only [ownTakeCommand]
    split_ifs
    · exact hu
    · exact hu
    · exact hu.of_eq
    · exact State.holderHandOn_collectionLaws hu.of_eq _
    · exact hu
  -- requests of the Collection Supervisor, and of its limits
  | clearTro =>
    cases he
    refine execServe_collectionLaws h fun p u hu => ?_
    unfold ownClearTro
    split
    · exact State.overReason_collectionLaws hu _ _ _
    · exact ⟨hu.tro, hu.buckets, hu.limits⟩
    · exact hu
    · exact hu
    · exact hu
  | readCurrent =>
    cases he
    refine execServe_collectionLaws h fun p u hu => ?_
    simp only [ownReadCurrent]
    split
    · exact ⟨hu.tro, hu.buckets, hu.limits⟩
    · exact hu
  | setParam =>
    cases he
    refine execServe_collectionLaws h fun p u hu => ?_
    simp only [ownSetParam]
    split
    · exact hu
    · dsimp only
      split
      next => exact (State.handOn_collectionLaws _).mpr hu.buckets
      next hid => exact ⟨hu.tro, hu.buckets, State.storeParam_limitLaw hid _ hu.limits⟩
  -- requests whose owner leaves the state as it is, or hands on
  | reportPosition | reverse | postEvent | cancelEvent | resumeQueue | setSlot | unlockSlot | setDemand | writeRule | clearFault =>
    cases he
    refine execServe_collectionLaws h fun p u hu => ?_
    simp only [ownReportPosition, ownReverse, ownPostEvent, ownCancelEvent, ownResumeQueue, ownSetSlot, ownUnlockSlot, ownSetDemand,
      ownWriteRule, ownClearFault]
    (repeat' split) <;> simp [hu, hu.buckets]
  -- events of the Collection Supervisor
  | csuSample amps =>
    cases he
    refine whenRunning_collectionLaws h fun u hu => ?_
    rw [State.handOn_collectionLaws, State.reportTotal_bucketLaw, (State.marksUpdate_kept _).toFramed.bucketLaw]
    exact Csu.sampleAll_bucketLaw hu.buckets amps
  | widthHalfPoint =>
    cases he
    refine whenRunning_collectionLaws h fun u hu => ?_
    (repeat' split) <;> exact ⟨hu.tro, hu.buckets, hu.limits⟩
  | widthTimerEnd =>
    cases he
    refine whenRunning_collectionLaws h fun u hu => ?_
    split
    · exact State.overReason_collectionLaws hu _ _ _
    · exact hu
  | overloadTimerExpiry =>
    cases he
    refine whenRunning_collectionLaws h fun u hu => ?_
    split_ifs
    · exact ⟨hu.tro, hu.buckets, hu.limits⟩
    · exact (State.handOn_collectionLaws _).mpr hu.buckets
    · exact hu
  | dropoutTimerExpiry => cases he; exact whenRunning_collectionLaws h fun u hu => ⟨hu.tro, hu.buckets, hu.limits⟩
  | bucketTurnover =>
    cases he
    exact whenRunning_collectionLaws h fun u hu => (State.handOn_collectionLaws _).mpr (turnOver_bucketLaw hu.buckets _)
  -- events that change nothing the laws read, and hand nothing on
  | lsMagSample | heaterDriveEdge | tripWindowExpiry | rfcCxRisingEdge =>
    cases he; exact whenRunning_collectionLaws h fun u hu => hu.of_eq rfl rfl
  -- events that hand on in one of their cases
  | positionRefresh =>
    cases he
    refine whenRunning_collectionLaws h fun u hu => ?_
    split
    · exact hu.of_eq rfl rfl
    · simpa using hu.buckets
  | gateEnd => cases he; exact whenRunning_collectionLaws h fun u hu => State.gateEnded_collectionLaws hu
  | scanCompletion =>
    cases he
    refine whenRunning_collectionLaws h fun u hu => ?_
    split
    · exact State.gateEnded_collectionLaws hu
    · exact hu
  -- an event of one block, handed on where it is due
  | _ =>
    cases he
    refine whenRunning_collectionLaws h fun u hu => ?_
    (repeat' split) <;> simp [hu, hu.buckets]

end Commands

/-- The clocks stand in no part of the laws. -/
theorem State.elapse_collectionLaws (n : Nat) {s : State} (h : s.CollectionLaws) : (s.elapse n).CollectionLaws := by
  unfold State.elapse
  split
  · exact h
  · exact ⟨h.tro, h.buckets, h.limits⟩

/-- Settles O57: an idle step runs clocks alone, and every command keeps the laws. -/
theorem collectionLawsKept : Obligations.CollectionLawsKept := by
  intro s t htro hbuckets hlimits h
  have hs : s.CollectionLaws := ⟨htro, hbuckets, hlimits⟩
  suffices ht : t.CollectionLaws from ⟨ht.tro, ht.buckets, ht.limits⟩
  unfold step at h
  split at h
  next =>
    cases h
    exact State.elapse_collectionLaws 1 hs
  next c rest _ => exact exec_collectionLaws (s := { s with pending := rest }) (hs.of_eq rfl rfl) h

end Sys2Proof.Machine
end

section
/-! PROOFS. READ_PARAM and SET_PARAM (R162, R196, R203), the ranges of the table under every step, and O16. -/

set_option Elab.async false

namespace Sys2Proof.Machine

/-! ### The ranges of the table -/

theorem clampTo_mem {r : Nat × Nat} (h : r.1 ≤ r.2) (v : Nat) : r.1 ≤ clampTo r v ∧ clampTo r v ≤ r.2 := by
  unfold clampTo
  split_ifs <;> omega

/-- A value clamped to its range leaves the table within its ranges (R196, R203). -/
theorem Lif.paramLaw_store {x : Lif} (h : x.paramLaw) (id v : Nat) :
    Lif.paramLaw { x with params := x.params.set id (clampTo (paramRanges.getD id (0, 0)) v) } := by
  obtain ⟨hlength, hrange⟩ := h
  refine ⟨by rw [List.length_set, hlength], fun i hi => ?_⟩
  by_cases hid : id = i
  · subst hid
    have hordered : (paramRanges.getD id (0, 0)).1 ≤ (paramRanges.getD id (0, 0)).2 :=
      (show ∀ j < 36, (paramRanges.getD j (0, 0)).1 ≤ (paramRanges.getD j (0, 0)).2 by decide) id hi
    simpa [List.getD_eq_getElem?_getD, List.getElem?_set_self (hlength.symm ▸ hi)] using clampTo_mem hordered v
  · simpa only [List.getD_eq_getElem?_getD, List.getElem?_set_ne hid] using hrange i hi

/-- The law reads the parameters alone. -/
theorem Lif.paramLaw_congr {x y : Lif} (h : y.params = x.params) : y.paramLaw ↔ x.paramLaw := by
  simp only [Lif.paramLaw, h]

theorem SetsParams.paramLaw {x y : Lif} (hset : SetsParams x.params y.params) (h : x.paramLaw) : y.paramLaw := by
  generalize hy : y.params = ps at hset
  cases hset with
  | unchanged => exact (Lif.paramLaw_congr hy).mpr h
  | defaults => exact (Lif.paramLaw_congr (x := Lif.reset .low true) hy).mpr (Lif.reset_paramLaw _ _)
  | stored id v => exact (Lif.paramLaw_congr hy).mpr (Lif.paramLaw_store h id v)

theorem State.elapse_params (n : Nat) (s : State) : (s.elapse n).lif.params = s.lif.params := by
  unfold State.elapse
  split <;> rfl

/-- Every step keeps the values within their ranges. -/
theorem step_paramLaw {s t : State} (hs : s.lif.paramLaw) (h : step s = .next t) : t.lif.paramLaw := by
  unfold step at h
  split at h
  next =>
    cases h
    exact (Lif.paramLaw_congr (s.elapse_params 1)).mpr hs
  next c rest _ => exact (exec_params_cases (s := { s with pending := rest }) h).paramLaw hs

/-! ### The two requests -/

section Owners
variable {i a b c d : Byte} {s : State}

theorem paramAnswer_of_le (h : i.toNat ≤ 0x23) : paramAnswer [i] s = ⟨.ok, [.wide 1 i.toNat, .wide 4 (s.param i.toNat)]⟩ := by
  have hfield : field [i] 0 1 = i.toNat := field_one (p := [i]) (by simp)
  rw [paramAnswer, hfield, if_neg (not_lt.mpr h)]

theorem paramAnswer_of_lt (h : 0x23 < i.toNat) : paramAnswer [i] s = .just .badValue := by
  have hfield : field [i] 0 1 = i.toNat := field_one (p := [i]) (by simp)
  rw [paramAnswer, hfield, if_pos h]

/-- An identifier and a value behind a status (R196, R198). -/
theorem paramItems_payload (st : Status) (i : Byte) (v : Nat) :
    Answer.payload ⟨st, [.wide 1 i.toNat, .wide 4 v]⟩ = [byte st.code, i] ++ toBE 4 v := by
  simp [Answer.payload, pack, toBE_one]

/-- SET_PARAM's owner: the value stored is clamped to its range, a LIMIT value is handed on, and the answer is what is stored
(R162, R196; log 25). -/
theorem ownSetParam_of_le {w : Nat} (h : i.toNat ≤ 0x23) (hw : w = clampTo (paramRanges.getD i.toNat (0, 0)) (be [a, b, c, d])) :
    ownSetParam [i, a, b, c, d] s = (if 0x1C ≤ i.toNat then (State.storeParam i.toNat w s).handOn else State.storeParam i.toNat w s,
      some ⟨if w = be [a, b, c, d] then .ok else .clamped, [.wide 1 i.toNat, .wide 4 w]⟩) := by
  have hid : field [i, a, b, c, d] 0 1 = i.toNat := field_one (p := [i, a, b, c, d]) (by simp)
  have hvalue : field [i, a, b, c, d] 1 4 = be [a, b, c, d] := rfl
  simp only [ownSetParam, hid, hvalue, if_neg (not_lt.mpr h), hw]

theorem ownSetParam_of_lt (h : 0x23 < i.toNat) : ownSetParam [i, a, b, c, d] s = (s, some (.just .badValue)) := by
  have hid : field [i, a, b, c, d] 0 1 = i.toNat := field_one (p := [i, a, b, c, d]) (by simp)
  simp only [ownSetParam, hid, if_pos h]

end Owners

theorem storedStatus_byte (p : Prop) [Decidable p] : byte (if p then Status.ok else .clamped).code = if p then 0x00 else 0x01 := by
  split <;> rfl

/-- Settles O16: the two owners by their identifiers, and the inversion of what a command can make of the table. -/
theorem parametersAreReadAndStored : Obligations.ParametersAreReadAndStored := by
  intro s l i a b c d v w reply
  have hreply : Answer.payload ⟨if w = v then .ok else .clamped, [.wide 1 i.toNat, .wide 4 w]⟩ = reply := by
    rw [paramItems_payload, storedStatus_byte]
  refine ⟨fun h => ⟨fun hi => ?_, fun hi => ?_⟩, fun h => ⟨fun hi => ?_, fun hlow hi => ?_, fun hi => ?_⟩, fun u t => step_paramLaw⟩
  · refine (congrArg Host.Outcome.next (h.served (owner := readOnly _) rfl rfl rfl)).trans ?_
    rw [paramAnswer_of_le hi, paramItems_payload]
    rfl
  · refine (congrArg Host.Outcome.next (h.served (owner := readOnly _) rfl rfl rfl)).trans ?_
    rw [paramAnswer_of_lt hi]
    rfl
  · have howner := ownSetParam_of_le (s := s.beginService l) (w := w) (hi.le.trans (by decide)) rfl
    rw [if_neg (not_le.mpr hi)] at howner
    refine (congrArg Host.Outcome.next (h.served howner)).trans ?_
    rw [hreply]
    rfl
  · have howner := ownSetParam_of_le (s := s.beginService l) (w := w) hi rfl
    rw [if_pos hlow] at howner
    refine (congrArg Host.Outcome.next (h.served howner)).trans ?_
    rw [hreply]
    rfl
  · exact congrArg Host.Outcome.next (h.served (ownSetParam_of_lt hi))

end Sys2Proof.Machine
end

section
/-! PROOFS. One sample event of the Collection Supervisor (R161, R163, R164, R166, R169, R172, R173): the arc watch, the marks, and O55. -/

set_option Elab.async false

namespace Sys2Proof.Machine

/-! ### The arc watch of one slot (R172, R173) -/

section ArcWatch
variable {role : Role} {brk : BrkState} {mean sample : Nat} {bs : List Nat}

/-- A slot at rest: a lost current starts the dropout (R172). -/
theorem arcWatch_of_rest : arcWatch role brk mean sample none bs =
    (if sample < 5 ∧ role = .collect ∧ brk = .closed ∧ 50 ≤ mean then some 50000 else none, bs) := by
  simp only [arcWatch]
  split_ifs <;> rfl

theorem arcWatch_of_lost (t : Nat) (h : sample < 5) : arcWatch role brk mean sample (some t) bs = (some t, bs) := if_pos h

/-- The current back within the dropout: an arc (R172). -/
theorem arcWatch_of_back (t : Nat) (h : 5 ≤ sample) : arcWatch role brk mean sample (some t) bs = (none, addArc bs) :=
  if_neg (not_lt.mpr h)

end ArcWatch

/-! ### The histories and the total (R161, R163) -/

theorem senseSample_eq (amps : Nat) : senseSample amps = ⟨min 4000 amps, decide (4000 ≤ amps)⟩ := by
  unfold senseSample
  split
  next h => simp [h]
  next h => simp [h, Nat.le_of_not_le h]

theorem meanOf_cons (x : Sample) (xs : List Sample) : meanOf (x :: xs) = (x.amps + (xs.map (fun y => y.amps)).sum) / 20 := by
  rw [meanOf, List.map_cons, List.sum_cons]

/-- A sum over those that a test picks. -/
theorem sum_map_ite_zero {α : Type} (p : α → Bool) (f : α → Nat) (l : List α) :
    (l.map fun a => if p a then f a else 0).sum = ((l.filter p).map f).sum := by
  induction l with
  | nil => rfl
  | cons a l ih => cases h : p a <;> simp [h, ih]

/-- The total is the sum of the means of the COLLECT slots (R163). -/
theorem Csu.totalNow_eq (c : Csu) : c.totalNow =
    ((allSlots.filter (fun k => decide (c.roles.get k = .collect))).map (fun k => c.mean.get k)).sum := by
  rw [← sum_map_ite_zero]
  simp only [decide_eq_true_eq]
  rfl

/-! ### The marks and what they set going (R163, R164, R166, R169) -/

theorem Csu.marksNow_iff {c : Csu} {k : SlotId} :
    c.marksNow.get k = true ↔ c.roles.get k = .collect ∧ c.limit.get k < c.mean.get k := by
  simp [Csu.marksNow, overOf]

/-- Over-limit on the values held (R163). -/
def Csu.overNow (c : Csu) : Bool := c.marksNow.any id

/-- The Collection Supervisor once the marks are taken, and a rise or a fall of over-limit has acted on OVER and on the overload
timer (R163, R166, R169). -/
def State.csuMarked (s : State) : Csu :=
  let c : Csu := { s.csu with overMark := s.csu.marksNow, overLimit := s.csu.overNow }
  if s.csu.overNow = s.csu.overLimit then c
  else if s.csu.overNow then { c with width := some (s.troWidth * 1000), half := some (s.troWidth * 500), overReason := .timing,
                                      overload := some (s.overloadTime * 1000), seen := { c.seen with ovr := true } }
  else { c with overload := none }

theorem State.marksUpdate_eq (s : State) : s.marksUpdate = State.troUpdate { s with csu := s.csuMarked } := by
  unfold State.marksUpdate State.csuMarked
  simp only
  rw [← Csu.overNow]
  split_ifs <;> rfl

theorem State.marksUpdate_csu (s : State) : s.marksUpdate.csu = { s.csuMarked with tro := s.csuMarked.troLevel } := by
  rw [State.marksUpdate_eq, State.troUpdate_csu]

section Marked
variable {s : State}

/-- Whatever over-limit does, the marks leave what a sample has measured and the reasons of others. -/
theorem State.csuMarked_eq (s : State) : s.csuMarked = { s.csu with
    overMark := s.csu.marksNow, overLimit := s.csu.overNow, width := s.csuMarked.width, half := s.csuMarked.half,
    overReason := s.csuMarked.overReason, overload := s.csuMarked.overload, seen := s.csuMarked.seen } := by
  unfold State.csuMarked
  split_ifs <;> rfl

theorem State.csuMarked_of_same (h : s.csu.overNow = s.csu.overLimit) :
    s.csuMarked = { s.csu with overMark := s.csu.marksNow, overLimit := s.csu.overNow } := if_pos h

theorem State.csuMarked_of_rise (hnow : s.csu.overNow = true) (hbefore : s.csu.overLimit = false) : s.csuMarked = { s.csu with
    overMark := s.csu.marksNow, overLimit := s.csu.overNow, width := some (s.troWidth * 1000), half := some (s.troWidth * 500),
    overReason := .timing, overload := some (s.overloadTime * 1000), seen := { s.csu.seen with ovr := true } } := by
  simp only [State.csuMarked, hnow, hbefore]
  rfl

theorem State.csuMarked_of_fall (hnow : s.csu.overNow = false) (hbefore : s.csu.overLimit = true) :
    s.csuMarked = { s.csu with overMark := s.csu.marksNow, overLimit := s.csu.overNow, overload := none } := by
  simp only [State.csuMarked, hnow, hbefore]
  rfl

end Marked

theorem Csu.troLevel_iff {c : Csu} : c.troLevel = true ↔ c.seqHeld = true ∨ c.demandHeld = true ∨ c.overReason ≠ .idle := by
  simp [Csu.troLevel, or_assoc]

/-- TRO_ON rises with TRO (R164). -/
theorem State.troUpdate_troOn {s : State} (hnow : s.troUpdate.csu.tro = true) (hbefore : s.csu.tro = false) :
    FlagSet.has s.troUpdate.fnu.flags .troOn = true := by
  rw [State.troUpdate_csu] at hnow
  rw [State.troUpdate, State.has_raiseIf_iff]
  exact .inr (by simpa [hbefore] using hnow)

/-! ### The sample event -/

/-- A sample event before anything is handed on. -/
def State.sampled (amps : PerSlot Nat) (s : State) : State := State.marksUpdate { s with csu := s.csu.sampleAll amps }

theorem exec_csuSample {s : State} (hrun : s.inReset = false) (amps : PerSlot Nat) :
    exec (.csuSample amps) s = .next ((s.sampled amps).reportTotal.handOn) :=
  congrArg Host.Outcome.next (whenRunning_of_running hrun _)

/-- Settles O55: the arc watches, histories, means and the total by `Csu.sampleAll`, then the marks, and TRO with its flag. -/
theorem sampleEventByItsOrder : Obligations.SampleEventByItsOrder := by
  intro s amps hrun
  set u : State := { s with csu := s.csu.sampleAll amps } with hu
  have hcsu : (s.sampled amps).csu = { u.csuMarked with tro := u.csuMarked.troLevel } := u.marksUpdate_csu
  have hkept : u.Kept (s.sampled amps) := u.marksUpdate_kept
  have hover : (s.sampled amps).csu.overLimit = u.csu.overNow := by rw [hcsu, u.csuMarked_eq]
  have hmark : (s.sampled amps).csu.overMark = u.csu.marksNow := by rw [hcsu, u.csuMarked_eq]
  have hdropout : (s.sampled amps).csu.dropout = u.csu.dropout := by rw [hcsu, u.csuMarked_eq]
  have hmean (k : SlotId) : u.csu.mean.get k = meanOf (u.csu.hist.get k) := by simp [hu, Csu.sampleAll]
  have hhist (k : SlotId) : u.csu.hist.get k = senseSample (amps.get k) :: (s.csu.hist.get k).take 19 := by simp [hu, Csu.sampleAll]
  have hwatch (k : SlotId) : (u.csu.dropout.get k, u.csu.buckets.get k) = arcWatch (s.csu.roles.get k) s.csu.brk (s.csu.mean.get k)
      (min 4000 (amps.get k)) (s.csu.dropout.get k) (s.csu.buckets.get k) := by
    simp [hu, Csu.sampleAll, senseSample_eq]
  refine ⟨s.sampled amps, exec_csuSample hrun amps, fun k => ⟨?_, ?_, fun hw => ?_, fun hw ha => ?_, fun hw ha => ?_, ?_⟩, ?_, ?_,
    fun hnow hbefore => ?_, fun hnow hbefore => ?_, fun hsame => ?_, ?_, ?_, hkept.overloadLatch, hkept.sample, hkept.limit,
    State.marksUpdate_pe _, State.marksUpdate_teq _, State.marksUpdate_psq _, State.marksUpdate_bki _, State.marksUpdate_slots _,
    State.marksUpdate_cs _, State.marksUpdate_icu _, State.marksUpdate_lsu _⟩
  · rw [hkept.hist, hhist, senseSample_eq]
  · rw [hkept.mean, hmean, hhist, meanOf_cons, senseSample_eq]
  · have hnone := Option.not_isSome_iff_eq_none.mp hw
    rw [hkept.buckets, hdropout]
    simpa [hnone, arcWatch_of_rest, and_comm] using hwatch k
  · obtain ⟨t, ht⟩ := Option.isSome_iff_exists.mp hw
    rw [hkept.buckets, hdropout]
    simpa [ht, arcWatch_of_lost t ha] using hwatch k
  · obtain ⟨t, ht⟩ := Option.isSome_iff_exists.mp hw
    rw [hkept.buckets, hdropout]
    have hback := hwatch k
    rw [ht, arcWatch_of_back t ha, Prod.mk.injEq] at hback
    exact ⟨hback.1, fun b bs hbs => by rw [hback.2, hbs]; rfl⟩
  · rw [hmark, hkept.mean, Csu.marksNow_iff]
    rfl
  · rw [hover, hmark]
    exact PerSlot.any_iff
  · rw [hkept.mean, hcsu, u.csuMarked_eq]
    exact u.csu.totalNow_eq
  · rw [hover] at hnow
    rw [hcsu, State.csuMarked_of_rise hnow hbefore]
    exact ⟨rfl, rfl, rfl, rfl, rfl⟩
  · rw [hover] at hnow
    rw [hcsu, State.csuMarked_of_fall hnow hbefore]
    exact ⟨rfl, rfl, rfl⟩
  · rw [hover] at hsame
    rw [hcsu, State.csuMarked_of_same hsame]
    exact ⟨rfl, rfl⟩
  · rw [hcsu, Csu.troLevel_iff, u.csuMarked_eq]
    rfl
  · rw [State.sampled, State.marksUpdate_eq]
    exact fun hnow hbefore => State.troUpdate_troOn hnow (by rw [State.csuMarked_eq]; exact hbefore)

end Sys2Proof.Machine
end

section
/-! PROOFS. CLEAR_TRO and the timers of the Collection Supervisor (R164, R166 to R169, R172, R173): O56. -/

set_option Elab.async false

namespace Sys2Proof.Machine

/-! ### TRO when only OVER ends or begins (R164) -/

/-- TRO_ON at a rise of TRO over the level `before` (R164). -/
def State.troOnSince (before : Bool) (t : State) : State := t.raiseIf (t.csu.tro && !before) .troOn

theorem State.troUpdate_of_level {s : State} {level : Bool} (h : s.csu.troLevel = level) :
    s.troUpdate = State.troOnSince s.csu.tro { s with csu := { s.csu with tro := level } } := h ▸ rfl

theorem Csu.troLevel_of_idle {c : Csu} (h : c.overReason = .idle) : c.troLevel = (c.seqHeld || c.demandHeld) := by
  simp [Csu.troLevel, h]

theorem Csu.troLevel_of_extended {c : Csu} (h : c.overReason = .extended) : c.troLevel = true := by simp [Csu.troLevel, h]

/-- The TRO_ON flag and the start of a service do not meet. -/
theorem State.beginService_troOnSince (before : Bool) (l : Link) (t : State) :
    (t.troOnSince before).beginService l = (t.beginService l).troOnSince before := by
  unfold State.troOnSince State.raiseIf
  rw [State.beginService_csu]
  split <;> rfl

/-! ### CLEAR_TRO's owner, row by row (R168) -/

section ClearTro
variable {s : State} (p : List Byte)

theorem ownClearTro_of_extended (hover : s.csu.overReason = .extended) (hlimit : s.csu.overLimit = false) : ownClearTro p s =
    (State.troOnSince s.csu.tro { s with csu := { s.csu with overReason := .idle, tro := s.csu.seqHeld || s.csu.demandHeld } },
      some ⟨.ok, [.wide 1 1]⟩) := by
  have hrow : ownClearTro p s = (State.troUpdate { s with csu := { s.csu with overReason := .idle } }, some ⟨.ok, [.wide 1 1]⟩) := by
    simp only [ownClearTro, hover, hlimit]
  rw [hrow, State.troUpdate_of_level (Csu.troLevel_of_idle rfl)]

theorem ownClearTro_of_timing_over (hover : s.csu.overReason = .timing) (hlimit : s.csu.overLimit = true) :
    ownClearTro p s = ({ s with csu := s.csu.startWidth s.troWidth }, some ⟨.ok, [.wide 1 2]⟩) := by
  simp only [ownClearTro, hover, hlimit]

theorem ownClearTro_of_nothing (h : s.csu.overReason = .idle ∨ s.csu.overReason = .timing ∧ s.csu.overLimit = false) :
    ownClearTro p s = (s, some ⟨.ok, [.wide 1 0]⟩) := by
  obtain hover | ⟨hover, hlimit⟩ := h
  · simp only [ownClearTro, hover]
  · simp only [ownClearTro, hover, hlimit]

end ClearTro

/-! ### The timers, case by case (R166, R167, R169) -/

section Timers
variable {s : State} (hrun : s.inReset = false)
include hrun

theorem exec_widthHalfPoint_of_over (hhalf : s.csu.half.isSome = true) (hover : s.csu.overReason = .timing)
    (hlimit : s.csu.overLimit = true) :
    exec .widthHalfPoint s = .next { s with csu := s.csu.startWidth s.troWidth } :=
  congrArg Host.Outcome.next ((whenRunning_of_running hrun _).trans ((if_pos hhalf).trans (if_pos ⟨hover, hlimit⟩)))

theorem exec_widthHalfPoint_of_within (hhalf : s.csu.half.isSome = true) (hlimit : s.csu.overLimit = false) :
    exec .widthHalfPoint s = .next { s with csu := { s.csu with half := none } } :=
  congrArg Host.Outcome.next ((whenRunning_of_running hrun _).trans ((if_pos hhalf).trans (if_neg (by simp [hlimit]))))

/-- The end of the width: OVER takes its next reason, and TRO follows (R164, R167). -/
theorem exec_widthTimerEnd_of_running (hwidth : s.csu.width.isSome = true) : exec .widthTimerEnd s =
    .next (State.troUpdate { s with csu := { s.csu with
      width := none, half := none, overReason := if s.troExtend then .extended else .idle } }) :=
  congrArg Host.Outcome.next ((whenRunning_of_running hrun _).trans (if_pos hwidth))

theorem exec_widthTimerEnd_of_extend (hwidth : s.csu.width.isSome = true) (hextend : s.param 0x11 = 1) : exec .widthTimerEnd s =
    .next (State.troOnSince s.csu.tro { s with csu := { s.csu with
      width := none, half := none, overReason := .extended, tro := true } }) := by
  rw [exec_widthTimerEnd_of_running hrun hwidth, if_pos (by rw [State.troExtend, hextend]; rfl),
    State.troUpdate_of_level (Csu.troLevel_of_extended rfl)]

theorem exec_widthTimerEnd_of_end (hwidth : s.csu.width.isSome = true) (hextend : s.param 0x11 = 0) : exec .widthTimerEnd s =
    .next (State.troOnSince s.csu.tro { s with csu := { s.csu with
      width := none, half := none, overReason := .idle, tro := s.csu.seqHeld || s.csu.demandHeld } }) := by
  rw [exec_widthTimerEnd_of_running hrun hwidth, if_neg (by rw [State.troExtend, hextend]; decide),
    State.troUpdate_of_level (Csu.troLevel_of_idle rfl)]

theorem exec_overloadTimerExpiry_of_latched (hoverload : s.csu.overload.isSome = true) (hlatch : s.csu.overloadLatch = true) :
    exec .overloadTimerExpiry s = .next { s with csu := { s.csu with overload := none } } :=
  congrArg Host.Outcome.next ((whenRunning_of_running hrun _).trans ((if_pos hoverload).trans (if_pos hlatch)))

theorem exec_overloadTimerExpiry_of_unlatched (hoverload : s.csu.overload.isSome = true) (hlatch : s.csu.overloadLatch = false) :
    exec .overloadTimerExpiry s =
      .next (({ s with csu := { s.csu with overload := none, overloadLatch := true } }.raise .overload).handOn) :=
  congrArg Host.Outcome.next ((whenRunning_of_running hrun _).trans ((if_pos hoverload).trans (if_neg (by simp [hlatch]))))

end Timers

/-- Settles O56: the rows of CLEAR_TRO by its owner's cases, and each timer by its own. -/
theorem currentTimersAndClearTro : Obligations.CurrentTimersAndClearTro := by
  intro s hrun
  refine ⟨fun l h => ⟨fun hover hlimit => ?_, fun hover hlimit => ?_, fun hnothing => ?_⟩,
    fun hhalf => ⟨exec_widthHalfPoint_of_over hrun hhalf, exec_widthHalfPoint_of_within hrun hhalf⟩,
    fun hwidth => ⟨exec_widthTimerEnd_of_extend hrun hwidth, exec_widthTimerEnd_of_end hrun hwidth⟩,
    fun hoverload => ⟨exec_overloadTimerExpiry_of_latched hrun hoverload, exec_overloadTimerExpiry_of_unlatched hrun hoverload⟩,
    fun k => congrArg Host.Outcome.next (whenRunning_of_running hrun _), congrArg Host.Outcome.next (whenRunning_of_running hrun _)⟩
  · have howner := ownClearTro_of_extended (s := s.beginService l) [] hover hlimit
    refine (congrArg Host.Outcome.next (h.served howner)).trans ?_
    have hbegin := State.beginService_troOnSince s.csu.tro l
      { s with csu := { s.csu with overReason := .idle, tro := s.csu.seqHeld || s.csu.demandHeld } }
    exact congrArg (fun t => Host.Outcome.next (State.replied l 0x3C [0x00, 0x01] t)) hbegin.symm
  · exact congrArg Host.Outcome.next (h.served (ownClearTro_of_timing_over (s := s.beginService l) [] hover hlimit))
  · exact congrArg Host.Outcome.next (h.served (ownClearTro_of_nothing (s := s.beginService l) [] hnothing))

end Sys2Proof.Machine
end

section
/-! PROOFS. Rises of flags (R178): what one rise does to the flags and the notices pending, and the operations that do nothing else to the
Flag and Notice Unit, the hand-over among them. -/

set_option Elab.async false

namespace Sys2Proof.Machine

/-! ### Flags risen

`x.Raised y`: y is x after some flags rose, one after another, and nothing else happened to the unit. Whatever the blocks do to the Flag
and Notice Unit they do by `Fnu.raise`, so what a rise does (R178) is said once, and each operation has one lemma. -/

/-- The second record comes from the first by rises of flags alone (R178). -/
def Fnu.Raised : Fnu → Fnu → Prop := Relation.ReflTransGen fun x y => ∃ f, y = x.raise f

namespace Fnu.Raised
variable {x y : Fnu}

/-- A rise leaves the masks (R181). -/
theorem mask (h : x.Raised y) : y.mask = x.mask := by
  induction h with
  | refl => rfl
  | tail _ hstep ih =>
    obtain ⟨f, rfl⟩ := hstep
    rw [Fnu.raise_mask, ih]

/-- A rise clears no flag (R178). -/
theorem flags (h : x.Raised y) {f : Flag} (hf : FlagSet.has x.flags f = true) : FlagSet.has y.flags f = true := by
  induction h with
  | refl => exact hf
  | tail _ hstep ih =>
    obtain ⟨g, rfl⟩ := hstep
    exact Fnu.raise_keeps _ _ _ ih

end Fnu.Raised

/-- A rise clears no pending (R178). -/
theorem Fnu.raise_notice_keeps (x : Fnu) (f : Flag) {l : Link} (h : x.notice.get l = true) :
    (x.raise f).notice.get l = true := by
  unfold Fnu.raise
  split
  · exact h
  · cases l <;> simp_all [PerLink.get]

/-- A clear flag that rises sets the pending of each link whose mask enables it (R178). -/
theorem Fnu.raise_notice_of_enabled (x : Fnu) {f : Flag} {l : Link} (hclear : FlagSet.has x.flags f = false)
    (hmask : FlagSet.has (x.mask.get l) f = true) : (x.raise f).notice.get l = true := by
  simp only [Fnu.raise, hclear]
  cases l <;> simp_all [PerLink.get]

/-- The table of R176 gives each flag a number of its own. -/
theorem Flag.num_injective : Function.Injective Flag.num := by
  have hnum : Flag.num = Flag.ctorIdx := funext fun f => by cases f <;> rfl
  rw [hnum]
  exact Function.LeftInverse.injective Flag.ofNat_ctorIdx

/-- Of the flags a rise changes its own alone (R178). -/
theorem Fnu.eq_of_raise_has {x : Fnu} {f g : Flag} (hclear : FlagSet.has x.flags f = false)
    (hset : FlagSet.has (x.raise g).flags f = true) : g = f := by
  by_contra hne
  rw [Fnu.raise_has_of_num_ne _ (Flag.num_injective.ne hne), hclear] at hset
  exact Bool.false_ne_true hset

/-- A flag that has risen has left the pending set of each link whose mask enables it (R178). -/
theorem Fnu.Raised.notice {x y : Fnu} (h : x.Raised y) {f : Flag} {l : Link} (hclear : FlagSet.has x.flags f = false)
    (hset : FlagSet.has y.flags f = true) (hmask : FlagSet.has (x.mask.get l) f = true) : y.notice.get l = true := by
  induction h with
  | refl => simp [hclear] at hset
  | @tail z _ hbefore hstep ih =>
    obtain ⟨g, rfl⟩ := hstep
    cases hz : FlagSet.has z.flags f with
    | true => exact Fnu.raise_notice_keeps _ _ (ih hz)
    | false =>
      obtain rfl := Fnu.eq_of_raise_has hz hset
      exact Fnu.raise_notice_of_enabled _ hz (by rw [Fnu.Raised.mask hbefore]; exact hmask)

/-! ### Operations that do nothing but raise -/

/-- An operation does nothing to the Flag and Notice Unit but raise flags (R178). -/
def State.Raises (s t : State) : Prop := s.fnu.Raised t.fnu

/-- An operation that leaves the unit as it is. -/
theorem State.Raises.same {s t : State} (h : t.fnu = s.fnu := by rfl) : s.Raises t := by
  rw [State.Raises, h]
  exact .refl

theorem State.Raises.trans {s t u : State} (h : s.Raises t) (g : t.Raises u) : s.Raises u :=
  Relation.ReflTransGen.trans h g

@[simp] theorem State.Raises.refl (s : State) : s.Raises s := .same

/-- An operation made only where a condition holds. -/
theorem State.Raises.andThen {s t u : State} {c : Prop} [Decidable c] (h : s.Raises t) (g : t.Raises u) :
    s.Raises (if c then u else t) := by
  split
  · exact h.trans g
  · exact h

/-- A fold of operations that each do nothing but raise does nothing else. -/
theorem State.foldl_raises {α : Type} {f : State → α → State} (hf : ∀ (u : State) (a : α), u.Raises (f u a)) (as : List α)
    (s : State) : s.Raises (as.foldl f s) := by
  induction as generalizing s with
  | nil => exact .refl s
  | cons a as ih => exact (hf s a).trans (ih _)

@[simp] theorem State.raise_raises (s : State) (f : Flag) : s.Raises (s.raise f) := .single ⟨f, rfl⟩

@[simp] theorem State.raiseIf_raises (s : State) (c : Bool) (f : Flag) : s.Raises (s.raiseIf c f) := by
  unfold State.raiseIf
  split <;> simp

@[simp] theorem State.raiseAll_raises (s : State) (fs : List Flag) : s.Raises (s.raiseAll fs) := by
  induction fs generalizing s with
  | nil => exact .refl s
  | cons f fs ih => exact (s.raise_raises f).trans (ih _)

/-! #### TRO and the Breaker Interface -/

@[simp] theorem State.troUpdate_raises (s : State) : s.Raises s.troUpdate := .trans .same (State.raiseIf_raises _ _ _)

@[simp] theorem State.marksUpdate_raises (s : State) : s.Raises s.marksUpdate := by
  simp only [State.marksUpdate]
  refine .trans ?_ (State.troUpdate_raises _)
  split_ifs <;> exact .same

@[simp] theorem State.brkEnterOpen_raises (s : State) : s.Raises s.brkEnterOpen := .trans .same (State.troUpdate_raises _)

@[simp] theorem State.brkEnterOpening_raises (s : State) : s.Raises s.brkEnterOpening := by
  simp only [State.brkEnterOpening]
  split
  · exact .same
  · exact .trans .same (State.brkEnterOpen_raises _)

@[simp] theorem State.openNow_raises (s : State) : s.Raises s.openNow := by
  unfold State.openNow
  split <;> simp

@[simp] theorem State.openBySequencer_raises (s : State) : s.Raises s.openBySequencer := s.openNow_raises

@[simp] theorem State.rampEnd_raises (s : State) : s.Raises s.rampEnd := by
  unfold State.rampEnd
  split <;> simp

@[simp] theorem State.rampReport_raises (s : State) : s.Raises s.rampReport := by
  unfold State.rampReport
  split <;> simp

@[simp] theorem State.rampStart_raises (s : State) : s.Raises s.rampStart := by
  have h : s.Raises { s with bki := { s.bki with ramp := ms s.tRamp } }.holdDemand := .trans .same (State.troUpdate_raises _)
  simp only [State.rampStart]
  split
  · exact h.trans (State.rampEnd_raises _)
  · exact h.trans (State.rampReport_raises _)

@[simp] theorem State.rampAbandon_raises (s : State) : s.Raises s.rampAbandon := by
  unfold State.rampAbandon
  split
  · exact .trans .same (State.troUpdate_raises _)
  · simp

@[simp] theorem State.writeDemand_raises (s : State) (d : Demand) : s.Raises (s.writeDemand d) := by
  rw [State.writeDemand_eq]
  refine .trans (t := s.demandWritten d) .same ?_
  unfold State.powerWritten
  (repeat' split) <;> simp

@[simp] theorem State.wrongTest_raises (s : State) : s.Raises s.wrongTest := .trans .same (State.raiseIf_raises _ _ _)

@[simp] theorem State.interlock_raises (s : State) : s.Raises s.interlock := by
  unfold State.interlock
  split
  · split <;> exact .same
  · split
    · exact .same
    · exact .trans .same (State.brkEnterOpening_raises _)
  · split <;> simp
  · exact .same
  · exact .same

@[simp] theorem State.latchBrkFault_raises (s : State) : s.Raises s.latchBrkFault := .trans .same (State.raiseIf_raises _ _ _)

@[simp] theorem State.brkEnterFailed_raises (s : State) (kind : FailKind) : s.Raises (s.brkEnterFailed kind) :=
  .trans (.trans .same (State.troUpdate_raises _)) (State.latchBrkFault_raises _)

@[simp] theorem State.auxMade_raises (s : State) : s.Raises s.auxMade := by
  unfold State.auxMade
  split
  · exact .same
  all_goals simp

@[simp] theorem State.externalTrip_raises (s : State) : s.Raises s.externalTrip := by
  have h : s.Raises (s.brkEnterOpen.raise .brkTrip) := s.brkEnterOpen_raises.trans (State.raise_raises _ _)
  simp only [State.externalTrip]
  split
  · exact h.trans (.trans .same (State.latchBrkFault_raises _))
  · exact h.trans .same

@[simp] theorem State.auxReleased_raises (s : State) : s.Raises s.auxReleased := by
  unfold State.auxReleased
  split <;> simp

@[simp] theorem State.closeTimeout_raises (s : State) : s.Raises s.closeTimeout := by
  unfold State.closeTimeout
  split <;> simp

@[simp] theorem State.openTimeout_raises (s : State) : s.Raises s.openTimeout := by
  unfold State.openTimeout
  split <;> simp

@[simp] theorem State.openCheckEnd_raises (s : State) : s.Raises s.openCheckEnd := by
  unfold State.openCheckEnd
  split_ifs
  · exact .same
  · simp
  · simp

/-! #### The Configuration Selector and the queue -/

@[simp] theorem State.evaluate_raises (s : State) : s.Raises s.evaluate :=
  (State.Raises.trans .same (State.raiseIf_raises _ _ _)).trans ((State.raiseIf_raises _ _ _).trans (.same (State.holdOrDeliver_fnu _ _)))

@[simp] theorem State.csReact_raises (s : State) : s.Raises s.csReact := by
  unfold State.csReact
  split <;> simp

@[simp] theorem State.csRelease_raises (s : State) (next : Option LineSystem) : s.Raises (s.csRelease next) := by
  unfold State.csRelease
  split
  · exact .same s.deliverPending_fnu
  · exact ((s.writeDemand_raises _).trans (State.csReact_raises _)).trans (.same (State.deliverPending_fnu _))

@[simp] theorem State.recordClose_raises (s : State) (e : Entry) (r : CloseResult) (last : Option Step) :
    s.Raises (s.recordClose e r last) :=
  .trans .same (State.raiseAll_raises _ _)

@[simp] theorem State.planClosed_raises (s : State) : s.Raises s.planClosed := by
  have hseq : s.Raises (if s.psq.seqHeld then s.releaseSeq else s) :=
    .andThen (.refl s) (.trans .same (State.troUpdate_raises _))
  have hholds (u : State) : u.Raises (if u.psq.slotHold = .none then u else u.releaseHolds) := by
    split <;> exact .same
  exact (hseq.trans (hholds _)).trans .same

@[simp] theorem State.closeEntry_raises (s : State) (e : Entry) (r : CloseResult) (last : Option Step) :
    s.Raises (s.closeEntry e r last) := by
  unfold State.closeEntry
  split_ifs
  · exact ((s.recordClose_raises e r last).trans (State.planClosed_raises _)).trans (.same (by simp))
  · simp
  · simp

@[simp] theorem State.skipPassed_raises (s : State) (e : Entry) : s.Raises (s.skipPassed e) := by
  unfold State.skipPassed
  split <;> simp

@[simp] theorem State.skipAll_raises (s : State) : s.Raises s.skipAll := State.foldl_raises State.skipPassed_raises _ s

@[simp] theorem State.zoneTest_raises (s : State) (e : Entry) : s.Raises (s.zoneTest e) := by
  unfold State.zoneTest
  split_ifs
  · simp
  · simp
  · simp
  · exact .same
  · simp

@[simp] theorem State.zonesAll_raises (s : State) : s.Raises s.zonesAll := State.foldl_raises State.zoneTest_raises _ s

@[simp] theorem State.closeReversed_raises (s : State) (e : Entry) : s.Raises (s.closeReversed e) := by
  unfold State.closeReversed
  split <;> simp

@[simp] theorem State.closeAllReversed_raises (s : State) : s.Raises s.closeAllReversed :=
  (State.foldl_raises State.closeReversed_raises _ s).trans .same

/-! #### The Passage Sequencer -/

@[simp] theorem State.closeActive_raises (s : State) (r : CloseResult) (last : Option Step) :
    s.Raises (s.closeActive r last) := by
  unfold State.closeActive
  split
  · exact (s.raiseIf_raises _ _).trans (State.closeEntry_raises _ _ _ _)
  · simp

@[simp] theorem State.abortWith_raises (s : State) (r : AbortReason) (last : Option Step) : s.Raises (s.abortWith r last) :=
  s.closeActive_raises _ _

@[simp] theorem State.startStep_raises (s : State) (st : Step) : s.Raises (s.startStep st) := by
  cases st with
  | ramp => exact .same (by simp only [State.startStep, apply_ite State.fnu, ite_self])
  | openBrk => exact .trans .same (State.openBySequencer_raises _)
  | reraise =>
    rw [State.startStep_reraise]
    exact .trans (t := s.begun .reraise) .same ((State.csRelease_raises _ s.psq.nextSystem).trans .same)
  | lower | coast | confirm => exact .same

@[simp] theorem State.advance_raises (n : Nat) (c : Cause) (s : State) : s.Raises (State.advance n c s) := by
  induction n generalizing c s with
  | zero => exact .refl s
  | succ n ih =>
    unfold State.advance
    split
    · simp
    · exact (s.startStep_raises _).trans (ih _ _)
    · simp
    · exact .trans (t := s.setHolds .fast) .same (State.abortWith_raises _ _ _)

@[simp] theorem State.psqReact_raises (s : State) : s.Raises s.psqReact := by
  unfold State.psqReact
  split <;> simp

@[simp] theorem State.reportTotal_raises (s : State) : s.Raises s.reportTotal := by
  simp only [State.reportTotal]
  exact .andThen s.rampReport_raises (State.advance_raises _ _ _)

@[simp] theorem State.psqRampExpiry_raises (s : State) : s.Raises s.psqRampExpiry := by
  unfold State.psqRampExpiry
  exact .andThen (.refl s) ((s.startStep_raises _).trans (State.advance_raises _ _ _))

@[simp] theorem State.confirmExpiry_raises (s : State) : s.Raises s.confirmExpiry := by
  unfold State.confirmExpiry
  split_ifs <;> simp

@[simp] theorem State.activate_raises (s : State) (e : Entry) : s.Raises (s.activate e) :=
  ((State.Raises.trans .same (State.troUpdate_raises _)).trans (State.startStep_raises _ _)).trans (State.advance_raises _ _ _)

@[simp] theorem State.deadlineTests_raises (s : State) (deadline : Pos) : s.Raises (s.deadlineTests deadline) := by
  simp only [State.deadlineTests]
  split
  · have hopen (em : Bool) : s.Raises (if s.bki.state = .opened then s
        else { s with psq := { s.psq with emergency := em } }.openNow) := by
      split
      · simp
      · exact .trans .same (State.openNow_raises _)
    split
    · exact ((hopen _).trans .same).trans (State.abortWith_raises _ _ _)
    · exact hopen _
  · simp

@[simp] theorem State.psqUpdate_raises (s : State) : s.Raises s.psqUpdate := by
  unfold State.psqUpdate
  split
  · simp
  · split
    · simp
    · exact (((State.Raises.andThen .same (.same (by simp))).andThen (State.activate_raises _ _)).trans
        (State.deadlineTests_raises _ _)).andThen (State.advance_raises _ _ _)

/-! #### Handing on -/

@[simp] theorem State.iceLevelUpdate_raises (s : State) : s.Raises s.iceLevelUpdate := .trans .same (State.raiseIf_raises _ _ _)

@[simp] theorem State.icuReact_raises (s : State) : s.Raises s.icuReact := .trans .same (State.iceLevelUpdate_raises _)

@[simp] theorem State.csuReact_raises (s : State) : s.Raises s.csuReact := by
  have hinputs : s.Raises s.csuInputs := .trans .same (State.marksUpdate_raises _)
  simp only [State.csuReact]
  split
  · exact hinputs
  · exact hinputs.trans (State.reportTotal_raises _)

@[simp] theorem State.bkiReact_raises (s : State) : s.Raises s.bkiReact := by
  simp only [State.bkiReact]
  exact .andThen (s.wrongTest_raises.trans (State.interlock_raises _)) (State.abortWith_raises _ _ _)

@[simp] theorem State.settle_raises (s : State) : s.Raises s.settle :=
  ((s.icuReact_raises.trans (State.csReact_raises _)).trans (State.csuReact_raises _)).trans (State.bkiReact_raises _)

@[simp] theorem State.rounds_raises (n : Nat) (s : State) : s.Raises (State.rounds n s) := by
  induction n generalizing s with
  | zero => exact .refl s
  | succ n ih =>
    have hround : s.Raises s.round := .trans (.trans .same (State.psqReact_raises _)) (State.settle_raises _)
    exact hround.trans (ih _)

/-- Handing on does nothing to the Flag and Notice Unit but raise flags (R178). -/
@[simp] theorem State.handOn_raises (s : State) : s.Raises s.handOn :=
  (s.settle_raises.trans (State.rounds_raises _ _)).trans (.same (State.pointsTidy_fnu _))

@[simp] theorem State.estimateUpdate_raises (s : State) : s.Raises s.estimateUpdate :=
  ((s.psqUpdate_raises.trans (State.skipAll_raises _)).trans (State.zonesAll_raises _)).trans (State.handOn_raises _)

/-! ### The other events that raise flags -/

@[simp] theorem State.slotEvent_raises (s : State) (k : SlotId) (r : Slot × List Flag) : s.Raises (s.slotEvent k r) :=
  .trans (.trans .same (State.raiseAll_raises _ _)) (State.handOn_raises _)

@[simp] theorem State.setPe_raises (s : State) (p : Pe) : s.Raises (s.setPe p) := .trans .same (State.raiseIf_raises _ _ _)

@[simp] theorem State.report_raises (s : State) (pos : Pos) (v u : Nat) : s.Raises (s.report pos v u) := by
  rw [State.report_eq]
  exact ((s.raiseIf_raises _ _).trans (State.setPe_raises _ _)).trans (State.estimateUpdate_raises _)

@[simp] theorem State.windowComplete_raises (s : State) (p : Option Nat) (a : Bool) : s.Raises (s.windowComplete p a) := by
  rw [State.Raises, State.windowComplete_fnu]
  exact ((State.raiseIf_raises _ _ _).trans (State.raiseIf_raises _ _ _)).trans (State.raiseIf_raises _ _ _)

@[simp] theorem State.crossing_raises (s : State) : s.Raises s.crossing := by
  simp only [State.crossing]
  split_ifs
  · simp
  · exact .trans .same (State.windowComplete_raises _ _ _)
  · exact .same

@[simp] theorem State.gateEnded_raises (s : State) : s.Raises s.gateEnded := by
  have hscan (u : State) : u.Raises u.scanComplete := by
    rw [State.Raises, State.scanComplete_fnu]
    exact ((State.raiseIf_raises _ _ _).trans (State.raiseIf_raises _ _ _)).trans (State.raiseIf_raises _ _ _)
  simp only [State.gateEnded]
  split
  · exact .trans .same ((hscan _).trans (State.handOn_raises _))
  · exact .same

/-! #### The links and the holder of command -/

@[simp] theorem State.setHolder_raises (s : State) (h : Option Link) (p : Option Nat) : s.Raises (s.setHolder h p) :=
  .trans .same (State.raiseIf_raises _ _ _)

@[simp] theorem State.applySel_raises (s : State) (lvl : SelLevel) : s.Raises (s.applySel lvl) := by
  cases lvl <;> exact .trans .same (State.setHolder_raises _ _ _)

@[simp] theorem State.applyTake_raises (s : State) (l : Link) (prio : Nat) : s.Raises (s.applyTake l prio) := by
  unfold State.applyTake
  split
  · exact (s.setHolder_raises _ _).trans .same
  · exact .same

@[simp] theorem State.applyPass_raises (s : State) (l : Link) : s.Raises (s.applyPass l) := by
  unfold State.applyPass
  split <;> simp

/-- An operation made only where there is something to apply. -/
theorem State.Raises.elim {α : Type} {s t : State} {f : α → State} (h : s.Raises t) (hf : ∀ a, t.Raises (f a)) (o : Option α) :
    s.Raises (o.elim t f) := by
  cases o with
  | none => exact h
  | some a => exact h.trans (hf a)

@[simp] theorem State.applyParts_raises (s : State) : s.Raises s.applyParts := by
  have hnone : s.Raises s.changeTaken := .same
  have hsel := hnone.elim (State.applySel_raises _) s.lif.selChange
  have htake := hsel.elim (fun p => State.applyTake_raises _ p.1 p.2) s.lif.take
  rw [State.applyParts_eq]
  exact htake.elim (State.applyPass_raises _) s.lif.pass

@[simp] theorem State.deferredPass_fnu (s : State) : s.deferredPass.fnu = s.fnu := by
  simp only [State.deferredPass]
  (repeat' split) <;> rfl

@[simp] theorem State.changeEffect_raises (s : State) : s.Raises s.changeEffect := by
  simp only [State.changeEffect]
  exact .andThen (.refl s) (.andThen (s.applyParts_raises.trans (.same (State.deferredPass_fnu _))) (State.applyParts_raises _))

@[simp] theorem State.makePass_fnu (s : State) (l : Link) : (s.makePass l).fnu = s.fnu := by
  unfold State.makePass
  split <;> rfl

@[simp] theorem State.holderHandOn_raises (s : State) (before : Option Link) : s.Raises (s.holderHandOn before) := by
  unfold State.holderHandOn
  split <;> simp

@[simp] theorem State.linkAlive_raises (s : State) (l : Link) : s.Raises (s.linkAlive l) := by
  simp only [State.linkAlive]
  exact .andThen .same (.trans (.same (State.makePass_fnu _ _)) (State.changeEffect_raises _))

@[simp] theorem State.takeFrame_raises (s : State) (l : Link) (bs : List Byte) : s.Raises (s.takeFrame l bs) := by
  simp only [State.takeFrame]
  split_ifs
  · exact .same
  · exact .trans .same (State.raise_raises _ _)
  · exact .same

@[simp] theorem State.frameComplete_raises (s : State) (l : Link) (bs : List Byte) : s.Raises (s.frameComplete l bs) := by
  simp only [State.frameComplete]
  split
  · exact .trans .same (((State.linkAlive_raises _ l).trans (State.takeFrame_raises _ _ _)).trans (State.holderHandOn_raises _ _))
  · exact .trans .same (State.raise_raises _ _)

@[simp] theorem State.receive_raises (s : State) (l : Link) (b : Byte) : s.Raises (s.receive l b) := by
  simp only [State.receive]
  split
  · split <;> exact .same
  · split_ifs
    · exact .same
    · simp
    · exact .same

@[simp] theorem State.linkSilent_raises (s : State) (l : Link) : s.Raises (s.linkSilent? l) := by
  simp only [State.linkSilent?]
  exact .andThen .same (.andThen (State.raise_raises _ _) (.trans (.same (State.makePass_fnu _ _)) (State.changeEffect_raises _)))

@[simp] theorem State.powerIfSilent_raises (s : State) : s.Raises s.powerIfSilent := by
  unfold State.powerIfSilent
  split <;> simp

end Sys2Proof.Machine
end

section
/-! PROOFS. What a command can make of the flags, the masks and the notices pending (R178, R179, R181, R182, R197): the inversion
`exec_changesFnu` for all 81 commands, and O59. -/

set_option Elab.async false

namespace Sys2Proof.Machine

/-! ### Every command -/

theorem State.Raises.handOn {s t : State} (h : s.Raises t) : s.Raises t.handOn := h.trans (State.handOn_raises _)

/-- An owner that does nothing to the Flag and Notice Unit but raise flags. -/
def OwnerRaises (owner : List Byte → State → State × Option Answer) : Prop := ∀ p (s : State), s.Raises (owner p s).1

theorem ownReportPosition_raises : OwnerRaises ownReportPosition := fun _ s => by
  simp only [ownReportPosition]
  exact s.report_raises _ _ _

theorem ownReverse_raises : OwnerRaises ownReverse := fun _ s => by
  unfold ownReverse
  split
  · dsimp only
    exact .handOn (.trans .same (State.closeAllReversed_raises _))
  · exact .refl s

theorem ownPostEvent_raises : OwnerRaises ownPostEvent := fun p s => by
  unfold ownPostEvent
  split
  · dsimp only
    exact .handOn .same
  · exact .refl s
  · exact .refl s

theorem ownCancelEvent_raises : OwnerRaises ownCancelEvent := fun p s => by
  unfold ownCancelEvent
  split
  · exact .refl s
  · split
    · exact .refl s
    · dsimp only
      exact .handOn (s.closeEntry_raises _ _ _)

theorem ownResumeQueue_raises : OwnerRaises ownResumeQueue := fun _ s => by
  unfold ownResumeQueue
  split
  · dsimp only
    exact .handOn .same
  · exact .refl s

theorem ownSetSlot_raises : OwnerRaises ownSetSlot := fun p s => by
  unfold ownSetSlot
  split
  · split_ifs
    · exact .refl s
    · exact .refl s
    · dsimp only
      exact .handOn (.trans .same (State.evaluate_raises _))
  · exact .refl s
  · exact .refl s

theorem ownUnlockSlot_raises : OwnerRaises ownUnlockSlot := fun p s => by
  unfold ownUnlockSlot
  split
  · exact .refl s
  · split_ifs
    · exact .refl s
    · exact .refl s
    · dsimp only
      exact .handOn (.trans .same (State.evaluate_raises _))

theorem ownSetDemand_raises : OwnerRaises ownSetDemand := fun p s => by
  unfold ownSetDemand
  split
  · exact .refl s
  · dsimp only
    exact .handOn (s.writeDemand_raises _)

theorem ownWriteRule_raises : OwnerRaises ownWriteRule := fun p s => by
  simp only [ownWriteRule]
  split
  · exact .refl s
  · split
    · exact .refl s
    · dsimp only
      exact .handOn (.trans .same (State.evaluate_raises _))

theorem ownClearTro_raises : OwnerRaises ownClearTro := fun _ s => by
  unfold ownClearTro
  split
  · exact .trans .same (State.troUpdate_raises _)
  all_goals exact .same

theorem ownReadCurrent_raises (l : Link) : OwnerRaises (ownReadCurrent l) := fun _ s => by
  unfold ownReadCurrent
  split <;> exact .same

theorem ownClearFault_raises : OwnerRaises ownClearFault := fun p s => by
  unfold ownClearFault
  split
  · exact .refl s
  · next x _ =>
    split_ifs
    · exact .refl s
    · exact .refl s
    · dsimp only
      exact .handOn (.same (by cases x <;> rfl))

theorem ownTakeCommand_raises (l : Link) : OwnerRaises (ownTakeCommand l) := fun p s => by
  simp only [ownTakeCommand]
  split_ifs
  · exact .refl s
  · exact .refl s
  · exact .same
  · exact .trans (.trans .same (State.changeEffect_raises _)) (State.holderHandOn_raises _ _)
  · exact .refl s

theorem ownSetParam_raises : OwnerRaises ownSetParam := fun p s => by
  simp only [ownSetParam]
  split
  · exact .refl s
  · exact .andThen (t := State.storeParam _ _ s) .same (State.handOn_raises _)

theorem whenRunning_raises {f : State → State} (hf : ∀ u : State, u.Raises (f u)) (s : State) : s.Raises (whenRunning f s) := by
  unfold whenRunning
  split
  · exact .refl s
  · exact hf s

/-- Serving a request does nothing but raise flags where its owner does (R189). -/
theorem execServe_raises {owner : List Byte → State → State × Option Answer} (howner : OwnerRaises owner) (l : Link) (r : Req)
    (s : State) : s.Raises (whenRunning (fun u => u.serve l r owner) s) :=
  whenRunning_raises (fun u => State.serve_keeps (P := u.Raises) (fun _ _ h => h) (fun p v h => h.trans (howner p v)) (.refl u)) s

/-- The flags of a set cleared (R179). -/
def Fnu.clear (x : FlagSet) (u : Fnu) : Fnu := { u with flags := u.flags &&& ~~~x }

theorem Fnu.clear_zero (u : Fnu) : u.clear 0#26 = u := by rw [Fnu.clear, BitVec.not_zero, BitVec.and_allOnes]

theorem Fnu.clear_clear (u : Fnu) (x y : FlagSet) : (u.clear x).clear y = u.clear (x ||| y) := by
  simp [Fnu.clear, BitVec.not_or, BitVec.and_assoc]

/-- The mask of one link replaced (R181). -/
def Fnu.setMask (l : Link) (x : FlagSet) (u : Fnu) : Fnu := { u with mask := u.mask.set l x }

theorem Fnu.setMask_self (u : Fnu) (l : Link) : u.setMask l (u.mask.get l) = u := by cases l <;> rfl

theorem Fnu.setMask_setMask (u : Fnu) (l : Link) (x y : FlagSet) : (u.setMask l x).setMask l y = u.setMask l y := by
  simp [Fnu.setMask]

/-- The pending of one link cleared, as a notice is taken for it (R182). -/
def Fnu.takeNotice (l : Link) (u : Fnu) : Fnu := { u with notice := u.notice.set l false }

/-- CLEAR_FLAGS clears a set of flags, none where it is refused (R179). -/
theorem State.serve_clearFlags_fnu (s : State) (l : Link) : ∃ x, (s.serve l .clearFlags ownClearFlags).fnu = s.fnu.clear x := by
  refine State.serve_keeps (P := fun u => ∃ x, u.fnu = s.fnu.clear x) (fun _ _ h => h) (fun p u hu => ?_) ⟨_, s.fnu.clear_zero.symm⟩
  unfold ownClearFlags
  split
  · exact hu
  · next y _ =>
    obtain ⟨x, hx⟩ := hu
    exact ⟨x ||| y, by rw [← Fnu.clear_clear, ← hx]; rfl⟩

/-- SET_NOTICE_MASK gives its own link a mask, the one held where it is refused (R181). -/
theorem State.serve_setNoticeMask_fnu (s : State) (l : Link) :
    ∃ x, (s.serve l .setNoticeMask (ownSetNoticeMask l)).fnu = s.fnu.setMask l x := by
  refine State.serve_keeps (P := fun u => ∃ x, u.fnu = s.fnu.setMask l x) (fun _ _ h => h) (fun p u hu => ?_)
    ⟨_, (s.fnu.setMask_self l).symm⟩
  unfold ownSetNoticeMask
  split
  · exact hu
  · next y _ =>
    obtain ⟨x, hx⟩ := hu
    exact ⟨y, by rw [← Fnu.setMask_setMask _ _ x, ← hx]; rfl⟩

/-- An IDLE transmitter that starts the next frame takes a notice or leaves the unit (R182, R190). -/
theorem State.startNext_fnu (s : State) (l : Link) :
    (s.startNext l).fnu = s.fnu ∨ (s.startNext l).fnu = s.fnu.takeNotice l := by
  unfold State.startNext
  split
  · exact .inl rfl
  · split
    · exact .inr rfl
    · exact .inl rfl
  · exact .inl rfl
  · exact .inl rfl

/-- The command resets the part in this state (R197). -/
def State.ResetBy (s : State) (c : Instr) : Prop :=
  (∃ p, c = .powerOn p) ∨ c = .rstNLow ∨ (∃ x b, c = .rstNRise x b) ∨ (s.inReset = true ∧ ∃ i, c = .inputRawChange i) ∨
    ∃ l, c = .frameSent l ∧ s.lif.resetDue = some l

/-- What a command can make of the Flag and Notice Unit: some flags rise, a notice is taken, a set of flags is cleared, a mask is
replaced, or the part is reset (R178, R179, R181, R182, R197). -/
inductive ChangesFnu (s : State) : Instr → Fnu → Prop
  | raised {c : Instr} {y : Fnu} (h : s.fnu.Raised y) : ChangesFnu s c y
  | noticeTaken {c : Instr} (l : Link) (h : c = .frameSent l ∨ c = .noticeStart l) : ChangesFnu s c (s.fnu.takeNotice l)
  | cleared (l : Link) (x : FlagSet) : ChangesFnu s (.clearFlags l) (s.fnu.clear x)
  | masked (l : Link) (x : FlagSet) : ChangesFnu s (.setNoticeMask l) (s.fnu.setMask l x)
  | reset {c : Instr} (h : s.ResetBy c) : ChangesFnu s c .reset

theorem ChangesFnu.same {s : State} {c : Instr} {y : Fnu} (h : y = s.fnu := by rfl) : ChangesFnu s c y := h ▸ .raised .refl

theorem State.frameEnd_changesFnu (s : State) (l : Link) : ChangesFnu s (.frameSent l) (s.frameEnd l).fnu := by
  have hnext {u : State} (hu : u.fnu = s.fnu) : ChangesFnu s (.frameSent l) (u.startNext l).fnu := by
    obtain h | h := u.startNext_fnu l
    · exact .same (h.trans hu)
    · rw [h, hu]
      exact .noticeTaken l (.inl rfl)
  unfold State.frameEnd
  split
  · exact .same
  · exact hnext rfl
  · split
    next hdue => exact .reset (.inr (.inr (.inr (.inr ⟨l, rfl, hdue⟩))))
    next => exact hnext rfl

theorem whenRunning_changesFnu {s : State} {c : Instr} {f : State → State} (hf : ChangesFnu s c (f s).fnu) :
    ChangesFnu s c (whenRunning f s).fnu := by
  unfold whenRunning
  split
  · exact .same
  · exact hf

/-- What a command can make of the Flag and Notice Unit. -/
theorem exec_changesFnu {c : Instr} {s t : State} (he : exec c s = .next t) : ChangesFnu s c t.fnu := by
  cases c with
  -- resets
  | powerOn pins => cases he; exact .reset (.inl ⟨pins, rfl⟩)
  | rstNLow => cases he; exact .reset (.inr (.inl rfl))
  | rstNRise sel baud =>
    cases he
    split
    · exact .reset (.inr (.inr (.inl ⟨sel, baud, rfl⟩)))
    · exact .same
  | inputRawChange i =>
    cases he
    split
    next hreset => exact .reset (.inr (.inr (.inr (.inl ⟨hreset, i, rfl⟩))))
    next => exact .same (by cases i <;> rfl)
  -- the commands that set the unit
  | frameSent l => cases he; exact whenRunning_changesFnu (s.frameEnd_changesFnu l)
  | noticeStart l =>
    cases he
    refine whenRunning_changesFnu ?_
    split
    · exact .noticeTaken l (.inr rfl)
    · exact .same
  | clearFlags l =>
    cases he
    refine whenRunning_changesFnu ?_
    obtain ⟨x, hx⟩ := s.serve_clearFlags_fnu l
    exact hx ▸ .cleared l x
  | setNoticeMask l =>
    cases he
    refine whenRunning_changesFnu ?_
    obtain ⟨x, hx⟩ := s.serve_setNoticeMask_fnu l
    exact hx ▸ .masked l x
  -- the other requests
  | readPosition | readQueue | readClosed | readLine | readSlot | readRule | readTarget | readBreaker | readPassage
  | readIce | getFlags | getStatus | readParam | resetPart =>
    cases he; exact .raised (execServe_raises (fun _ _ => .same) _ _ s)
  | reportPosition => cases he; exact .raised (execServe_raises ownReportPosition_raises _ _ s)
  | reverse => cases he; exact .raised (execServe_raises ownReverse_raises _ _ s)
  | postEvent => cases he; exact .raised (execServe_raises ownPostEvent_raises _ _ s)
  | cancelEvent => cases he; exact .raised (execServe_raises ownCancelEvent_raises _ _ s)
  | resumeQueue => cases he; exact .raised (execServe_raises ownResumeQueue_raises _ _ s)
  | setSlot => cases he; exact .raised (execServe_raises ownSetSlot_raises _ _ s)
  | unlockSlot => cases he; exact .raised (execServe_raises ownUnlockSlot_raises _ _ s)
  | setDemand => cases he; exact .raised (execServe_raises ownSetDemand_raises _ _ s)
  | writeRule => cases he; exact .raised (execServe_raises ownWriteRule_raises _ _ s)
  | clearTro => cases he; exact .raised (execServe_raises ownClearTro_raises _ _ s)
  | readCurrent l => cases he; exact .raised (execServe_raises (ownReadCurrent_raises l) _ _ s)
  | clearFault => cases he; exact .raised (execServe_raises ownClearFault_raises _ _ s)
  | takeCommand l => cases he; exact .raised (execServe_raises (ownTakeCommand_raises l) _ _ s)
  | setParam => cases he; exact .raised (execServe_raises ownSetParam_raises _ _ s)
  -- the links
  | frameReceived l b => cases he; exact .raised (whenRunning_raises (fun u => by split <;> simp) s)
  | byteReceived l b stopBitError =>
    cases he
    refine .raised (whenRunning_raises (fun u => ?_) s)
    split
    · split <;> exact .same
    · simp
  | rxGapTimeout | unknownReq =>
    cases he
    refine .raised (whenRunning_raises (fun u => ?_) s)
    (repeat' split) <;> exact .same
  | commandChangeEffect =>
    cases he
    exact .raised (whenRunning_raises (fun u => u.changeEffect_raises.trans (State.holderHandOn_raises _ _)) s)
  | selAcceptedChange =>
    cases he
    exact .raised (whenRunning_raises (fun u => .andThen (.refl u)
      (.trans (.trans .same (State.changeEffect_raises _)) (State.holderHandOn_raises _ _))) s)
  | silenceTimerExpiry l =>
    cases he
    exact .raised (whenRunning_raises (fun u => .andThen (.refl u)
      (((u.linkSilent_raises l).trans (State.powerIfSilent_raises _)).handOn)) s)
  -- a slot's events
  | downSwitchMade | downSwitchOpen | contactMade | contactLost | autodropTrip | autodropRelease | dsfMade | dsfReleased
  | raiseTimerExpiry | lowerTimerExpiry | retryTimerExpiry | contactLossTimerExpiry | travelTimerExpiry =>
    cases he
    exact .raised (whenRunning_raises (fun u => by split <;> simp) s)
  -- the estimate, the line and the passage
  | positionRefresh =>
    cases he
    refine .raised (whenRunning_raises (fun u => ?_) s)
    split
    · exact .same
    · exact (u.setPe_raises _).trans (State.estimateUpdate_raises _)
  | lsZcRise =>
    cases he
    refine .raised (whenRunning_raises (fun u => ?_) s)
    split
    · exact .refl u
    · exact u.crossing_raises.handOn
  | periodOverflow => cases he; exact .raised (whenRunning_raises (fun u => (u.windowComplete_raises _ _).handOn) s)
  | psqRampTimerExpiry =>
    cases he; exact .raised (whenRunning_raises (fun u => .andThen (.refl u) u.psqRampExpiry_raises.handOn) s)
  | confirmTimerExpiry =>
    cases he; exact .raised (whenRunning_raises (fun u => .andThen (.refl u) u.confirmExpiry_raises.handOn) s)
  -- the breaker
  | bkiRampTimerExpiry => cases he; exact .raised (whenRunning_raises (fun u => .andThen (.refl u) u.rampEnd_raises.handOn) s)
  | auxMade =>
    cases he
    refine .raised (whenRunning_raises (fun u => ?_) s)
    split
    · exact .refl u
    · exact .handOn (.trans .same (State.auxMade_raises _))
  | auxReleased =>
    cases he
    refine .raised (whenRunning_raises (fun u => ?_) s)
    split
    · exact .refl u
    · exact .handOn (.trans .same (State.auxReleased_raises _))
  | closeTimeout => cases he; exact .raised (whenRunning_raises (fun u => .andThen (.refl u) u.closeTimeout_raises.handOn) s)
  | openTimeout => cases he; exact .raised (whenRunning_raises (fun u => .andThen (.refl u) u.openTimeout_raises.handOn) s)
  | openCheckEnd => cases he; exact .raised (whenRunning_raises (fun u => .andThen (.refl u) u.openCheckEnd_raises.handOn) s)
  | recloseDelayExpiry => cases he; exact .raised (whenRunning_raises (fun u => .andThen (.refl u) (.handOn .same)) s)
  -- the Ice Unit and the Collection Supervisor
  | gateEnd => cases he; exact .raised (whenRunning_raises State.gateEnded_raises s)
  | scanCompletion => cases he; exact .raised (whenRunning_raises (fun u => .andThen (.refl u) u.gateEnded_raises) s)
  | fallTimerExpiry =>
    cases he
    exact .raised (whenRunning_raises (fun u => .andThen (.refl u) (.handOn (.trans .same (State.iceLevelUpdate_raises _)))) s)
  | csuSample amps =>
    cases he
    exact .raised (whenRunning_raises (fun u =>
      .handOn (.trans (.trans .same (State.marksUpdate_raises _)) (State.reportTotal_raises _))) s)
  | widthTimerEnd =>
    cases he; exact .raised (whenRunning_raises (fun u => .andThen (.refl u) (.trans .same (State.troUpdate_raises _))) s)
  | overloadTimerExpiry =>
    cases he
    refine .raised (whenRunning_raises (fun u => ?_) s)
    split_ifs
    · exact .same
    · exact .handOn (.trans .same (State.raise_raises _ _))
    · exact .refl u
  | bucketTurnover => cases he; exact .raised (whenRunning_raises (fun u => .handOn .same) s)
  | widthHalfPoint =>
    cases he
    refine .raised (whenRunning_raises (fun u => ?_) s)
    split_ifs <;> exact .same
  -- events that touch no other block
  | lsMagSample | heaterDriveEdge | dropoutTimerExpiry | tripWindowExpiry | rfcCxRisingEdge =>
    cases he; exact .raised (whenRunning_raises (fun _ => .same) s)

/-! ### What every step keeps -/

section Clauses
variable {s : State} {c : Instr} {y : Fnu} (h : ChangesFnu s c y)
include h

/-- A flag falls at CLEAR_FLAGS and at a reset (R179, R197). -/
theorem ChangesFnu.of_fall {f : Flag} (hset : FlagSet.has s.fnu.flags f = true) (hclear : FlagSet.has y.flags f = false) :
    (∃ l, c = .clearFlags l) ∨ s.ResetBy c := by
  cases h with
  | raised hraised => exact absurd (hraised.flags hset) (by simp [hclear])
  | noticeTaken => exact absurd hset (by simpa [Fnu.takeNotice] using hclear)
  | cleared l => exact .inl ⟨l, rfl⟩
  | masked => exact absurd hset (by simpa [Fnu.setMask] using hclear)
  | reset hreset => exact .inr hreset

/-- A mask changes at SET_NOTICE_MASK of its own link and at a reset (R181, R197). -/
theorem ChangesFnu.of_mask_ne {l : Link} (hne : y.mask.get l ≠ s.fnu.mask.get l) : c = .setNoticeMask l ∨ s.ResetBy c := by
  cases h with
  | raised hraised => exact absurd (by rw [hraised.mask]) hne
  | noticeTaken | cleared => exact absurd rfl hne
  | masked k =>
    obtain rfl | rfl := Link.eq_or_eq_other l k
    · exact .inl rfl
    · exact absurd (PerLink.get_set_other _ _ _) hne
  | reset hreset => exact .inr hreset

/-- A flag that rises leaves the pending set of each link whose mask enables it (R178). -/
theorem ChangesFnu.notice_of_rise {f : Flag} {l : Link} (hclear : FlagSet.has s.fnu.flags f = false)
    (hset : FlagSet.has y.flags f = true) (hmask : FlagSet.has (s.fnu.mask.get l) f = true) : y.notice.get l = true := by
  cases h with
  | raised hraised => exact hraised.notice hclear hset hmask
  | noticeTaken | masked => exact absurd hset (by simpa [Fnu.takeNotice, Fnu.setMask] using hclear)
  | cleared _ x =>
    have hclear' : s.fnu.flags.getLsbD f.num = false := hclear
    simp [FlagSet.has, Fnu.clear, hclear'] at hset
  | reset => simp [FlagSet.has, Fnu.reset] at hset

end Clauses

@[simp] theorem State.elapse_fnu (n : Nat) (s : State) : (s.elapse n).fnu = s.fnu := by
  unfold State.elapse
  split <;> rfl

/-- Settles O59: the clock leaves the unit, and a command changes it in one of the ways of `ChangesFnu`. -/
theorem flagsFallOnlyWhenCleared : Obligations.FlagsFallOnlyWhenCleared := by
  intro s t h
  unfold step at h
  split at h
  next =>
    cases h
    simp only [State.elapse_fnu]
    exact ⟨fun f hset hclear => absurd hset (by simp [hclear]), fun l hne => absurd rfl hne,
      fun f l hclear hset => absurd hset (by simp [hclear])⟩
  next c rest hp =>
    have hchanges : ChangesFnu { s with pending := rest } c t.fnu := exec_changesFnu h
    have hresets (hby : s.ResetBy c) : s.resets := ⟨c, by rw [hp]; rfl, hby⟩
    refine ⟨fun f hset hclear => ?_, fun l hne => ?_, fun f l hclear hset hmask => hchanges.notice_of_rise hclear hset hmask⟩
    · obtain ⟨l, rfl⟩ | hby := hchanges.of_fall hset hclear
      · exact .inl ⟨l, by rw [hp]; rfl⟩
      · exact .inr (hresets hby)
    · obtain rfl | hby := hchanges.of_mask_ne hne
      · exact .inl (by rw [hp]; rfl)
      · exact .inr (hresets hby)

end Sys2Proof.Machine
end

section
/-! PROOFS. The transmitter where a frame ends and where a notice starts (R182, R189, R190): O11. -/

set_option Elab.async false

namespace Sys2Proof.Machine

theorem State.updLink_updLink (s : State) (l : Link) (f g : LinkState → LinkState) :
    (s.updLink l f).updLink l g = s.updLink l fun x => g (f x) := by
  simp [State.updLink]

/-- The state once a notice is taken for a link, its pending cleared (R182). -/
def State.noticeTaken (l : Link) (s : State) : State := { s with fnu := s.fnu.takeNotice l }

/-- The notice of the contents held is sent, whatever else happened to the link (R182, R190). -/
theorem State.startNotice_updLink (s : State) (l : Link) (f : LinkState → LinkState) : (s.updLink l f).startNotice l =
    (s.noticeTaken l).updLink l fun x => { f x with tx := .notice (mkFrame 0xFF (summaryBytes s)) } :=
  State.updLink_updLink (s.noticeTaken l) l f fun x => { x with tx := .notice (mkFrame 0xFF (summaryBytes s)) }

section NextFrame
variable {s : State} {l : Link} {f : LinkState → LinkState}

/-- What follows a frame whose end leaves the transmitter IDLE, and the ready reply as it was: the ready reply first (R190). -/
theorem State.startNext_of_ready {g : List Byte} (htx : (f (s.linkOf l)).tx = .idle)
    (hkeeps : (f (s.linkOf l)).ready = (s.linkOf l).ready) (hready : (s.linkOf l).ready = some g) :
    (s.updLink l f).startNext l = s.updLink l fun x => { f x with tx := .reply g, ready := none } := by
  simp only [State.startNext, State.linkOf_updLink, htx, hkeeps, hready, State.updLink_updLink]

/-- Without a ready reply a pending notice (R190). -/
theorem State.startNext_of_notice (htx : (f (s.linkOf l)).tx = .idle)
    (hkeeps : (f (s.linkOf l)).ready = (s.linkOf l).ready) (hready : (s.linkOf l).ready = none)
    (hnotice : s.fnu.notice.get l = true) : (s.updLink l f).startNext l =
      (s.noticeTaken l).updLink l fun x => { f x with tx := .notice (mkFrame 0xFF (summaryBytes s)) } := by
  simp only [State.startNext, State.linkOf_updLink, htx, hkeeps, hready, State.updLink_fnu, hnotice, if_true,
    State.startNotice_updLink]

/-- Without either the transmitter stays IDLE (R190). -/
theorem State.startNext_of_none (htx : (f (s.linkOf l)).tx = .idle)
    (hkeeps : (f (s.linkOf l)).ready = (s.linkOf l).ready) (hready : (s.linkOf l).ready = none)
    (hnotice : s.fnu.notice.get l = false) : (s.updLink l f).startNext l = s.updLink l f := by
  simp only [State.startNext, State.linkOf_updLink, htx, hkeeps, hready, State.updLink_fnu, hnotice, Bool.false_eq_true, if_false]

end NextFrame

/-- The end of a reply without a reset due ends its service and removes its request (R189, R190, R197). -/
theorem State.frameEnd_of_reply {s : State} {l : Link} {f : List Byte} (htx : (s.linkOf l).tx = .reply f)
    (hdue : s.lif.resetDue ≠ some l) : s.frameEnd l =
      (s.updLink l fun x => { x with tx := .idle, serving := false, buffer := x.buffer.tail }).startNext l := by
  simp only [State.frameEnd, htx, hdue, if_false]

theorem State.frameEnd_of_notice {s : State} {l : Link} {f : List Byte} (htx : (s.linkOf l).tx = .notice f) :
    s.frameEnd l = (s.updLink l fun x => { x with tx := .idle }).startNext l := by
  simp only [State.frameEnd, htx]

/-- Settles O11: the end of a reply and the end of a notice leave the transmitter IDLE, and `State.startNext` says what is sent next. -/
theorem transmitterFollowsItsTable : Obligations.TransmitterFollowsItsTable := by
  intro s l hrun contents taken done
  have hcontents : summaryBytes s = contents := rfl
  have hsent {f : LinkState → LinkState} {t : State} (hend : s.frameEnd l = (s.updLink l f).startNext l)
      (hnext : (s.updLink l f).startNext l = t) : exec (.frameSent l) s = .next t :=
    congrArg Host.Outcome.next ((whenRunning_of_running hrun _).trans (hend.trans hnext))
  rw [← hcontents]
  refine ⟨fun f htx hdue => ?_, fun f htx => ?_, fun htx hready hnotice => ?_⟩
  · have hend := State.frameEnd_of_reply htx hdue
    exact ⟨fun g hready => hsent hend (State.startNext_of_ready rfl rfl hready),
      fun hready hnotice => hsent hend (State.startNext_of_none rfl rfl hready hnotice),
      fun hready hnotice => hsent hend (State.startNext_of_notice rfl rfl hready hnotice)⟩
  · have hend := State.frameEnd_of_notice htx
    exact ⟨fun g hready => hsent hend (State.startNext_of_ready rfl rfl hready),
      fun hready hnotice => hsent hend (State.startNext_of_none rfl rfl hready hnotice),
      fun hready hnotice => hsent hend (State.startNext_of_notice rfl rfl hready hnotice)⟩
  · have hstart : (s.linkOf l).tx = .idle ∧ (s.linkOf l).ready.isNone = true ∧ s.fnu.notice.get l = true :=
      ⟨htx, by rw [hready]; rfl, hnotice⟩
    exact congrArg Host.Outcome.next ((whenRunning_of_running hrun _).trans (if_pos hstart))

end Sys2Proof.Machine
end

section
/-! PROOFS. The part while RST_N is held low (R55, R197), and the receiver byte by byte (R187): O5 and O7. -/

set_option Elab.async false

namespace Sys2Proof.Machine

/-! ### The part while RST_N is held low -/

theorem whenRunning_of_held {s : State} (h : s.inReset = true) (f : State → State) : whenRunning f s = s := if_pos h

/-- Only power, RST_N and the raw levels reach a part held in reset (R197). -/
theorem exec_of_held {s : State} {c : Instr} (h : s.inReset = true) (hpower : ∀ p, c ≠ .powerOn p) (hlow : c ≠ .rstNLow)
    (hrise : ∀ x b, c ≠ .rstNRise x b) (hraw : ∀ i, c ≠ .inputRawChange i) : exec c s = .next s := by
  cases c with
  | powerOn p => exact absurd rfl (hpower p)
  | rstNLow => exact absurd rfl hlow
  | rstNRise x b => exact absurd rfl (hrise x b)
  | inputRawChange i => exact absurd rfl (hraw i)
  | _ => exact congrArg Host.Outcome.next (whenRunning_of_held h _)

/-- The raw levels of one slot. -/
def Slot.pins (x : Slot) : SlotPins := ⟨x.down.raw, x.contact.raw, x.add.raw, x.dsf.raw⟩

@[simp] theorem PerSlot.map_set {α β : Type} (f : α → β) (p : PerSlot α) (k : SlotId) (x : α) :
    (p.set k x).map f = (p.map f).set k (f x) := by cases k <;> rfl

theorem State.pins_slots (s : State) : s.pins.slots = s.slots.map Slot.pins := rfl

theorem State.updSlot_pins (s : State) (k : SlotId) (f : Slot → Slot) :
    (s.updSlot k f).pins = { s.pins with slots := s.pins.slots.set k (f (s.slots.get k)).pins } := by
  simp [State.pins, State.updSlot, Slot.pins]

/-- A level fed to a filter is its raw level from then on (R55, R191). -/
@[simp] theorem Filter.feed_raw (f : Filter) (b : Bool) (n : Nat) : (f.feed b n).raw = b := by
  unfold Filter.feed
  split
  · assumption
  · rfl

@[simp] theorem SelFilter.feed_raw (f : SelFilter) (lvl : SelLevel) : (f.feed lvl).raw = lvl := by
  unfold SelFilter.feed
  split
  · assumption
  · rfl

/-- The levels at the pins with one of them changed (R55, R191). -/
def levelAt (p : Pins) : RawInput → Pins
  | .dn k b => { p with slots := p.slots.set k { p.slots.get k with dn := b } }
  | .ct k b => { p with slots := p.slots.set k { p.slots.get k with ct := b } }
  | .add k b => { p with slots := p.slots.set k { p.slots.get k with add := b } }
  | .dsf k b => { p with slots := p.slots.set k { p.slots.get k with dsf := b } }
  | .aux b => { p with aux := b }
  | .sel x => { p with sel := x }

theorem State.rawLevel_pins (s : State) (i : RawInput) : (s.rawLevel i).pins = levelAt s.pins i := by
  cases i with
  | dn k b | ct k b | add k b | dsf k b =>
    simp [State.rawLevel, State.updSlot_pins, State.pins_slots, levelAt, Slot.pins]
  | aux b | sel x => simp [State.rawLevel, State.pins, levelAt]

/-- Settles O5: no other command acts, and a raw level resets the part again at the levels then present (log 20). -/
theorem heldInResetNothingActs : Obligations.HeldInResetNothingActs := by
  intro s c hin
  refine ⟨exec_of_held hin, fun i => ⟨{ (s.rawLevel i).resetPart with inReset := true }, ?_, rfl, ?_, ?_⟩⟩
  · exact congrArg Host.Outcome.next (if_pos hin)
  · cases i <;> rfl
  · have hreset := (s.rawLevel i).resetPart_atReset.withInReset true
    rw [State.rawLevel_pins] at hreset
    cases i <;> exact hreset

/-! ### The receiver, byte by byte (R187) -/

section Receiver
variable {s : State} {l : Link} {b : Byte} {bs : List Byte}

theorem exec_byteReceived (hrun : s.inReset = false) : exec (.byteReceived l b false) s = .next (s.receive l b) :=
  congrArg Host.Outcome.next (whenRunning_of_running hrun _)

theorem exec_byteReceived_stopBit (hrun : s.inReset = false) : exec (.byteReceived l b true) s = .next
    (match (s.linkOf l).rx with
      | .hunting => s
      | .inFrame _ => s.updLink l LinkState.discard) :=
  congrArg Host.Outcome.next (whenRunning_of_running hrun _)

/-- The bytes of a frame taken so far, with the 2 ms gap restarted (R187). -/
def State.inFrameWith (l : Link) (bs : List Byte) (s : State) : State :=
  s.updLink l fun x => { x with rx := .inFrame bs, gap := some 2000 }

/-- Only SYNC begins a frame (R187). -/
theorem State.receive_of_hunting (h : (s.linkOf l).rx = .hunting) :
    s.receive l b = if b = 0xA5#8 then s.inFrameWith l [] else s := by
  simp only [State.receive, h]
  rfl

/-- The LEN byte of a frame, where it has been stored (R199). -/
theorem field_len (h : 2 ≤ bs.length) : field bs 1 1 = (bs.getD 1 0).toNat := field_one h

theorem field_len_append (h : 2 ≤ bs.length) (cs : List Byte) : field (bs ++ cs) 1 1 = (bs.getD 1 0).toNat := by
  rw [field_len (by rw [List.length_append]; omega), List.getD_append _ _ _ _ h]

/-- The byte that comes second is the LEN byte (R199). -/
theorem field_len_second (h : bs.length = 1) : field (bs ++ [b]) 1 1 = b.toNat := by
  rw [field_len (by simp [h]), List.getD_append_right _ _ _ _ h.le, h]
  rfl

/-- A LEN byte above 56 discards the frame (R187). -/
theorem State.receive_discards (h : (s.linkOf l).rx = .inFrame bs) (hlen : bs.length = 1) (hb : 56 < b.toNat) :
    s.receive l b = s.updLink l LinkState.discard := by
  simp only [State.receive, h]
  exact if_pos ⟨by simp [hlen], by rwa [field_len_second hlen]⟩

/-- The byte that may follow these in a frame, short of its last one: TYPE, a LEN byte up to 56, a byte of the payload or the
first of the check (R187, R199). -/
def StoredNext (bs : List Byte) (b : Byte) : Prop :=
  bs = [] ∨ (bs.length = 1 ∧ b.toNat ≤ 56) ∨ (2 ≤ bs.length ∧ bs.length < (bs.getD 1 0).toNat + 3)

theorem State.receive_stores (h : (s.linkOf l).rx = .inFrame bs) (hnext : StoredNext bs b) :
    s.receive l b = s.inFrameWith l (bs ++ [b]) := by
  simp only [State.receive, h, frameTotal, List.length_append, List.length_singleton]
  obtain rfl | ⟨hlen, hb⟩ | ⟨hlen, hmore⟩ := hnext
  · rfl
  · have hno := field_len_second (b := b) hlen
    rw [if_neg (by omega), if_neg (by omega)]
    rfl
  · have hfield := field_len_append hlen [b]
    rw [if_neg (by omega), if_neg (by omega)]
    rfl

/-- The last check byte completes the frame (R187). -/
theorem State.receive_completes (h : (s.linkOf l).rx = .inFrame bs) (hlen : 3 ≤ bs.length)
    (htotal : bs.length = (bs.getD 1 0).toNat + 3) : s.receive l b = s.frameComplete l (bs ++ [b]) := by
  have hfield := field_len_append (show 2 ≤ bs.length by omega) [b]
  simp only [State.receive, h, frameTotal, List.length_append, List.length_singleton]
  rw [if_neg (by omega), if_pos (by omega)]

end Receiver

/-- Settles O7: hunting, within a frame, and at the end of the gap. -/
theorem receiverTakesBytes : Obligations.ReceiverTakesBytes := by
  intro s l b hrun discarded
  have hdiscarded : s.updLink l LinkState.discard = discarded := rfl
  rw [← hdiscarded]
  refine ⟨fun hrx => ⟨fun hb => ?_, ?_, ?_⟩, fun bs hrx => ⟨?_, fun hlen hb => ?_, fun hnext => ?_⟩, fun hgap => ?_⟩
  · rw [exec_byteReceived hrun, State.receive_of_hunting hrx, if_neg hb]
  · rw [exec_byteReceived hrun, State.receive_of_hunting hrx, if_pos rfl]
    rfl
  · rw [exec_byteReceived_stopBit hrun, hrx]
  · rw [exec_byteReceived_stopBit hrun, hrx]
  · rw [exec_byteReceived hrun, State.receive_discards hrx hlen hb]
  · rw [exec_byteReceived hrun, State.receive_stores hrx hnext]
    rfl
  · exact congrArg Host.Outcome.next ((whenRunning_of_running hrun _).trans (if_pos hgap))

end Sys2Proof.Machine
end

section
/-! PROOFS. A change of command: what it leaves of the links, the pass that was put off, the moment of effect, and its parts (R191 to
R194). -/

set_option Elab.async false

namespace Sys2Proof.Machine

/-! ### What a change of command leaves of the links -/

/-- Of each link only what its transmitter sends, and what stands ready for it, may have changed. -/
def State.SendsOnly (s t : State) : Prop :=
  ∀ k, t.linkOf k = { s.linkOf k with tx := (t.linkOf k).tx, ready := (t.linkOf k).ready }

theorem State.SendsOnly.refl (s : State) : s.SendsOnly s := fun _ => rfl

theorem State.SendsOnly.trans {s t u : State} (h : s.SendsOnly t) (g : t.SendsOnly u) : s.SendsOnly u := fun k =>
  (g k).trans (congrArg (fun x : LinkState => { x with tx := (u.linkOf k).tx, ready := (u.linkOf k).ready }) (h k))

theorem State.SendsOnly.serving {s t : State} (h : s.SendsOnly t) (k : Link) : (t.linkOf k).serving = (s.linkOf k).serving := by
  rw [h k]

/-- An operation by which a pending change takes effect: the holder, its priority, the level in force and the transmitters
(R191 to R193). -/
structure State.Recommands (s t : State) : Prop where
  links : s.SendsOnly t := by exact fun _ => rfl
  lif : t.lif = { s.lif with
    link := t.lif.link, selInForce := t.lif.selInForce, holder := t.lif.holder, prio := t.lif.prio } := by rfl

theorem State.Recommands.trans {s t u : State} (h : s.Recommands t) (g : t.Recommands u) : s.Recommands u where
  links := h.links.trans g.links
  lif := by rw [g.lif, h.lif]

/-- An operation made only where there is something to apply. -/
theorem State.Recommands.elim {α : Type} {s t : State} {f : α → State} (h : s.Recommands t) (hf : ∀ a, t.Recommands (f a))
    (o : Option α) : s.Recommands (o.elim t f) := by
  cases o with
  | none => exact h
  | some a => exact h.trans (hf a)

theorem State.setHolder_recommands (s : State) (h : Option Link) (p : Option Nat) : s.Recommands (s.setHolder h p) where
  links k := by rw [State.linkOf, State.setHolder_lif, State.linkOf]
  lif := by rw [State.setHolder_lif]

theorem State.replied_recommands (s : State) (l : Link) (code : Nat) (p : List Byte) : s.Recommands (s.replied l code p) where
  links k := by
    obtain rfl | rfl := Link.eq_or_eq_other k l
    · rw [State.replied, State.linkOf_updLink]
      split <;> rfl
    · rw [State.replied, State.linkOf_updLink_other]

theorem State.applySel_recommands (s : State) (lvl : SelLevel) : s.Recommands (s.applySel lvl) := by
  cases lvl <;> exact .trans {} (State.setHolder_recommands _ _ _)

theorem State.applyTake_recommands (s : State) (l : Link) (prio : Nat) : s.Recommands (s.applyTake l prio) := by
  simp only [State.applyTake, State.sendReply_eq_replied]
  split
  · exact (s.setHolder_recommands _ _).trans (State.replied_recommands _ _ _ _)
  · exact s.replied_recommands _ _ _

theorem State.applyPass_recommands (s : State) (l : Link) : s.Recommands (s.applyPass l) := by
  unfold State.applyPass
  split
  · exact s.setHolder_recommands _ _
  · exact {}

/-- The pending level applied, where there is one (R191, R193). -/
def State.levelApplied (s : State) : State := s.lif.selChange.elim s.changeTaken fun lvl => s.changeTaken.applySel lvl

theorem State.levelApplied_recommands (s : State) : s.changeTaken.Recommands s.levelApplied :=
  State.Recommands.elim {} (State.applySel_recommands _) s.lif.selChange

theorem State.applyParts_recommands (s : State) : s.changeTaken.Recommands s.applyParts := by
  rw [State.applyParts_eq]
  exact (s.levelApplied_recommands.elim (fun p => State.applyTake_recommands _ p.1 p.2) s.lif.take).elim
    (State.applyPass_recommands _) s.lif.pass

theorem State.applyParts_sendsOnly (s : State) : s.SendsOnly s.applyParts := s.applyParts_recommands.links

/-- With its parts applied no change is pending. -/
theorem State.applyParts_cleared (s : State) : s.applyParts.lif.take = none ∧ s.applyParts.lif.selChange = none ∧
    s.applyParts.lif.pass = none ∧ s.applyParts.lif.passDeferred = s.lif.passDeferred ∧ s.applyParts.lif.sel = s.lif.sel := by
  rw [s.applyParts_recommands.lif]
  exact ⟨rfl, rfl, rfl, rfl, rfl⟩

/-! ### The pass that was put off (log 19) -/

/-- What makes a pass on silence due: SEL OPEN, the holder SILENT and the other link LIVE (R193, R194). -/
def State.PassesTo (k : Link) (s : State) : Prop :=
  s.lif.sel.acc = .opened ∧ s.lif.holder = some k.other ∧ (s.linkOf k.other).live = false ∧ (s.linkOf k).live = true

@[simp] theorem Link.other_other (l : Link) : l.other.other = l := by cases l <;> rfl

theorem Lif.holderSilent_iff {x : Lif} {h : Link} (hh : x.holder = some h) :
    x.holderSilent = true ↔ (x.link.get h).live = false := by
  simp [Lif.holderSilent, hh]

theorem State.deferredPass_of_made {s : State} {k : Link} (hdefer : s.lif.passDeferred = true) (h : s.PassesTo k) :
    s.deferredPass = { s with lif := { s.lif with passDeferred := false, pass := some k } } := by
  obtain ⟨hacc, hholder, hsilent, hlive⟩ := h
  have hother : (s.linkOf k.other.other).live = true := by rwa [Link.other_other]
  simp only [State.deferredPass, hdefer, hholder]
  rw [if_pos ⟨hacc, (Lif.holderSilent_iff hholder).mpr hsilent, hother⟩, Link.other_other]

theorem State.deferredPass_of_lapsed {s : State} (h : ∀ k, ¬ s.PassesTo k) :
    s.deferredPass = { s with lif := { s.lif with passDeferred := false } } := by
  unfold State.deferredPass
  split
  next h' _ hholder =>
    refine if_neg fun ⟨hacc, hsilent, hlive⟩ => h h'.other ⟨hacc, ?_, ?_, hlive⟩
    · rwa [Link.other_other]
    · rw [Link.other_other]
      exact (Lif.holderSilent_iff hholder).mp hsilent
  · rfl
  · rfl

theorem State.deferredPass_lif (s : State) :
    s.deferredPass.lif = { s.lif with pass := s.deferredPass.lif.pass, passDeferred := false } := by
  unfold State.deferredPass
  split
  · split <;> rfl
  · rfl
  · rfl

theorem State.deferredPass_sendsOnly (s : State) : s.SendsOnly s.deferredPass := fun k => by
  rw [State.linkOf, State.deferredPass_lif]
  rfl

/-! ### The moment of effect -/

/-- A change that alone is due has its parts applied. -/
theorem State.changeEffect_of_settled {s : State} (hdefer : s.lif.passDeferred = false) :
    s.changeEffect = if s.lif.changeDue = true then s.applyParts else s := by
  obtain ⟨htake, hsel, hpass, hdefer', -⟩ := s.applyParts_cleared
  have hover : s.applyParts.lif.changeDue = false := by simp [Lif.changeDue, Lif.changePending, htake, hsel, hpass]
  simp only [State.changeEffect, State.deferredPass_of_not_deferred (hdefer'.trans hdefer), hover, Bool.false_eq_true, if_false]

theorem State.changeEffect_of_due {s : State} (hdue : s.lif.changeDue = true) (hdefer : s.lif.passDeferred = false) :
    s.changeEffect = s.applyParts := by rw [State.changeEffect_of_settled hdefer, if_pos hdue]

/-- What a change leaves for later is a change of its own: the pass that was put off (log 19). -/
theorem State.changeEffect_of_deferred {s : State} (hdue : s.lif.changeDue = true) :
    s.changeEffect = s.applyParts.deferredPass.changeEffect := by
  have hdefer : s.applyParts.deferredPass.lif.passDeferred = false := by rw [State.deferredPass_lif]
  rw [State.changeEffect_of_settled hdefer]
  simp only [State.changeEffect, hdue, if_true]

theorem State.changeEffect_sendsOnly (s : State) : s.SendsOnly s.changeEffect := by
  have hparts := s.applyParts_sendsOnly.trans (State.deferredPass_sendsOnly _)
  simp only [State.changeEffect]
  split
  · split
    · exact hparts.trans (State.applyParts_sendsOnly _)
    · exact hparts
  · exact .refl s

theorem State.makePass_sendsOnly (s : State) (l : Link) : s.SendsOnly (s.makePass l) := by
  unfold State.makePass
  split <;> exact .refl s

/-! ### A change of holder handed on -/

theorem State.holderHandOn_of_eq {s : State} {h : Option Link} (hh : s.lif.holder = h) : s.holderHandOn h = s := if_pos hh

@[simp] theorem State.holderHandOn_lif (s : State) (h : Option Link) : (s.holderHandOn h).lif = s.lif := by
  unfold State.holderHandOn
  split
  · rfl
  · exact s.handOn_framed.lif

theorem State.holderHandOn_flags {s : State} {f : Flag} (hf : FlagSet.has s.fnu.flags f = true) (h : Option Link) :
    FlagSet.has (s.holderHandOn h).fnu.flags f = true :=
  Fnu.Raised.flags (State.holderHandOn_raises s h) hf

@[simp] theorem State.holderHandOn_linkOf (s : State) (h : Option Link) (k : Link) : (s.holderHandOn h).linkOf k = s.linkOf k := by
  rw [State.linkOf, State.holderHandOn_lif, State.linkOf]

/-- HANDOVER rises where another holder is written (R191, R193). -/
theorem State.setHolder_handover {s : State} {h : Option Link} (hne : h ≠ s.lif.holder) (p : Option Nat) :
    FlagSet.has (s.setHolder h p).fnu.flags .handover = true := by
  rw [State.setHolder, decide_eq_true hne]
  exact State.raiseIf_has _ _

/-! ### The parts of a change -/

/-- The holder a level names; OPEN keeps the holder (R191). -/
def holderNamed (lvl : SelLevel) (h : Option Link) : Option Link :=
  match lvl with
  | .low => some .a
  | .high => some .b
  | .opened => h

/-- The priority with a level: none where it names the holder, 1 for a holder that OPEN keeps (R191). -/
def prioNamed (lvl : SelLevel) (h : Option Link) : Option Nat :=
  match lvl with
  | .low => none
  | .high => none
  | .opened => h.map fun _ => 1

theorem State.applySel_eq (s : State) (lvl : SelLevel) : s.applySel lvl =
    State.setHolder (holderNamed lvl s.lif.holder) (prioNamed lvl s.lif.holder)
      { s with lif := { s.lif with selInForce := lvl } } := by cases lvl <;> rfl

section Parts
variable {s : State} {l : Link} {q : Nat} {lvl : SelLevel}

theorem State.levelApplied_of_none (h : s.lif.selChange = none) : s.levelApplied = s.changeTaken := by rw [State.levelApplied, h]; rfl

theorem State.levelApplied_of_some (h : s.lif.selChange = some lvl) : s.levelApplied = s.changeTaken.applySel lvl := by
  rw [State.levelApplied, h]; rfl

theorem State.levelApplied_lif (h : s.lif.selChange = some lvl) : s.levelApplied.lif = { s.changeTaken.lif with
    selInForce := lvl, holder := holderNamed lvl s.lif.holder, prio := prioNamed lvl s.lif.holder } := by
  rw [State.levelApplied_of_some h, State.applySel_eq, State.setHolder_lif]
  rfl

theorem State.levelApplied_selInForce (s : State) : s.levelApplied.lif.selInForce = s.lif.selChange.getD s.lif.selInForce := by
  cases h : s.lif.selChange with
  | none => rw [State.levelApplied_of_none h]; rfl
  | some lvl => rw [State.levelApplied_lif h]; rfl

/-- Where the level in force is OPEN afterwards, the holder is kept (R191). -/
theorem State.levelApplied_holder_of_opened (h : s.lif.selChange.getD s.lif.selInForce = .opened) :
    s.levelApplied.lif.holder = s.lif.holder := by
  cases hsel : s.lif.selChange with
  | none => rw [State.levelApplied_of_none hsel]; rfl
  | some lvl =>
    rw [hsel] at h
    rw [State.levelApplied_lif hsel, show lvl = .opened from h]
    rfl

theorem State.levelApplied_linkOf (s : State) (k : Link) : s.levelApplied.linkOf k = s.linkOf k := by
  cases h : s.lif.selChange with
  | none => rw [State.levelApplied_of_none h]; rfl
  | some lvl => rw [State.linkOf, State.levelApplied_lif h]; rfl

/-- HANDOVER rises where the level names another holder (R191). -/
theorem State.levelApplied_handover (h : s.lif.selChange = some lvl) (hne : holderNamed lvl s.lif.holder ≠ s.lif.holder) :
    FlagSet.has s.levelApplied.fnu.flags .handover = true := by
  rw [State.levelApplied_of_some h, State.applySel_eq]
  refine State.setHolder_handover ?_ _
  exact hne

theorem State.applyParts_of_level (ht : s.lif.take = none) (hp : s.lif.pass = none) : s.applyParts = s.levelApplied := by
  rw [State.applyParts_eq, ht, hp]
  rfl

theorem State.applyParts_of_take (ht : s.lif.take = some (l, q)) (hp : s.lif.pass = none) :
    s.applyParts = s.levelApplied.applyTake l q := by
  rw [State.applyParts_eq, ht, hp]
  rfl

theorem holderCode_mod (h : Option Link) : holderCode h % 4 = holderCode h := by
  rcases h with - | l
  · rfl
  · cases l <;> rfl

/-- The payload of a TAKE_COMMAND reply: the status, then the holder and its priority in one byte (R192; log 10). -/
theorem State.takeAnswer_payload (s : State) (st : Status) : (s.takeAnswer st).payload =
    [byte st.code, byte (holderCode s.lif.holder + 4 * (s.lif.prio.getD 0 % 8))] := by
  simp [State.takeAnswer, Lif.holderItems, Answer.payload, pack, holderCode_mod, Nat.mul_comm]

/-- With SEL OPEN a granted take makes its link the holder (R192). -/
theorem State.applyTake_of_opened (h : s.lif.selInForce = .opened) : s.applyTake l q =
    (s.setHolder (some l) (some q)).replied l 0x50 [0x00, byte (holderCode (some l) + 4 * (q % 8))] := by
  simp only [State.applyTake, h, if_true, State.sendReply_eq_replied, State.takeAnswer_payload, State.setHolder_lif]
  rfl

/-- With SEL driven it is answered FIXED_SEL (R192, R193). -/
theorem State.applyTake_of_driven (h : s.lif.selInForce ≠ .opened) : s.applyTake l q =
    s.replied l 0x50 [0x0F, byte (holderCode s.lif.holder + 4 * (s.lif.prio.getD 0 % 8))] := by
  simp only [State.applyTake, h, if_false, State.sendReply_eq_replied, State.takeAnswer_payload]
  rfl

/-- What a reply makes of its link rests on that link alone. -/
theorem State.replied_linkOf_congr {t : State} (h : t.linkOf l = s.linkOf l) (code : Nat) (p : List Byte) :
    (t.replied l code p).linkOf l = (s.replied l code p).linkOf l := by
  simp only [State.replied, State.linkOf_updLink, h]

/-- A take that its own service alone holds up is due (R193). -/
theorem Lif.changeDue_of_take {x : Lif} (ht : x.take = some (l, q)) (ho : (x.link.get l.other).serving = false) :
    x.changeDue = true := by
  cases l <;> simp_all [Lif.changeDue, Lif.changePending, Lif.idleForChange, Link.other]

end Parts

end Sys2Proof.Machine
end

section
/-! PROOFS. A level, a take and a pass in effect, the commands at which they take effect, and the rows of TAKE_COMMAND (R191 to R194): O13
and O12. -/

set_option Elab.async false

namespace Sys2Proof.Machine

/-! ### A level in effect, and a take in effect -/

section Effects
variable {s : State} {l k : Link} {q : Nat} {lvl : SelLevel}

/-- The state behind a level that took effect, with no other change pending (R191, R193). -/
structure State.LevelInEffect (lvl : SelLevel) (before : Option Link) (t : State) : Prop where
  selInForce : t.lif.selInForce = lvl
  selChange : t.lif.selChange = none
  pass : t.lif.pass = none
  holder : t.lif.holder = holderNamed lvl before
  prio : t.lif.prio = prioNamed lvl before
  handover : t.lif.holder ≠ before → FlagSet.has t.fnu.flags .handover = true

theorem State.applyParts_levelInEffect (ht : s.lif.take = none) (hp : s.lif.pass = none) (hsel : s.lif.selChange = some lvl) :
    s.applyParts.LevelInEffect lvl s.lif.holder := by
  obtain ⟨-, hselChange, hpass, -⟩ := s.applyParts_cleared
  have hparts := State.applyParts_of_level ht hp
  have hlif := hparts ▸ State.levelApplied_lif hsel
  refine ⟨by rw [hlif], hselChange, hpass, by rw [hlif], by rw [hlif], fun hne => ?_⟩
  rw [hlif] at hne
  rw [hparts]
  exact State.levelApplied_handover hsel hne

/-- The state behind a take that took effect with SEL OPEN, and its reply OK on its way (R192, R193). -/
structure State.TakenBy (l : Link) (q : Nat) (s t : State) : Prop where
  holder : t.lif.holder = some l
  prio : t.lif.prio = some q
  selInForce : t.lif.selInForce = .opened
  link : t.linkOf l = (s.replied l 0x50 [0x00, byte (holderCode (some l) + 4 * (q % 8))]).linkOf l
  handover : s.lif.holder ≠ some l → FlagSet.has t.fnu.flags .handover = true

theorem State.applyParts_takenBy (ht : s.lif.take = some (l, q)) (hp : s.lif.pass = none)
    (hopen : s.lif.selChange.getD s.lif.selInForce = .opened) : s.TakenBy l q s.applyParts := by
  have hforce := s.levelApplied_selInForce.trans hopen
  have hlif := State.setHolder_lif s.levelApplied (some l) (some q)
  have hlink : (s.levelApplied.setHolder (some l) (some q)).linkOf l = s.linkOf l := by
    rw [State.linkOf, hlif]
    exact s.levelApplied_linkOf l
  rw [State.applyParts_of_take ht hp, State.applyTake_of_opened hforce]
  refine ⟨congrArg Lif.holder hlif, congrArg Lif.prio hlif, (congrArg Lif.selInForce hlif).trans hforce,
    State.replied_linkOf_congr hlink _ _, fun hne => State.setHolder_handover ?_ _⟩
  rw [State.levelApplied_holder_of_opened hopen]
  exact hne.symm

/-- The state behind a take that a driven level came before: the level's holder, and the reply FIXED_SEL (R192, R193). -/
structure State.TakeRefused (l : Link) (lvl : SelLevel) (s t : State) : Prop where
  holder : t.lif.holder = holderNamed lvl s.lif.holder
  prio : t.lif.prio = none
  selInForce : t.lif.selInForce = lvl
  link : t.linkOf l = (s.replied l 0x50 [0x0F, byte (holderCode (holderNamed lvl s.lif.holder))]).linkOf l
  handover : holderNamed lvl s.lif.holder ≠ s.lif.holder → FlagSet.has t.fnu.flags .handover = true

theorem State.applyParts_takeRefused (ht : s.lif.take = some (l, q)) (hp : s.lif.pass = none) (hsel : s.lif.selChange = some lvl)
    (hdriven : lvl ≠ .opened) : s.TakeRefused l lvl s.applyParts := by
  have hlif := State.levelApplied_lif hsel
  have hprio : prioNamed lvl s.lif.holder = none := by
    cases lvl with
    | opened => exact absurd rfl hdriven
    | low | high => rfl
  rw [hprio] at hlif
  have hforce : s.levelApplied.lif.selInForce ≠ .opened := by rwa [hlif]
  rw [State.applyParts_of_take ht hp, State.applyTake_of_driven hforce, hlif]
  exact ⟨congrArg Lif.holder hlif, congrArg Lif.prio hlif, congrArg Lif.selInForce hlif,
    State.replied_linkOf_congr (s.levelApplied_linkOf l) _ _, State.levelApplied_handover hsel⟩

/-- A pass put off whose conditions do not hold lapses, and nothing is left pending (log 19). -/
theorem State.changeEffect_of_lapsed (hdue : s.lif.changeDue = true) (hno : ∀ k, ¬ s.applyParts.PassesTo k) :
    s.changeEffect = { s.applyParts with lif := { s.applyParts.lif with passDeferred := false } } := by
  obtain ⟨htake, hsel, hpass, -⟩ := s.applyParts_cleared
  rw [State.changeEffect_of_deferred hdue, State.deferredPass_of_lapsed hno]
  exact State.changeEffect_of_not_due (by simp [Lif.changeDue, Lif.changePending, htake, hsel, hpass])

/-- A pass that was put off becomes pending where its conditions hold, as the only change (log 19). -/
theorem State.changeEffect_of_made (hdue : s.lif.changeDue = true) (hdefer : s.lif.passDeferred = true)
    (hpass : s.applyParts.PassesTo k) : s.changeEffect =
      State.changeEffect { s.applyParts with lif := { s.applyParts.lif with passDeferred := false, pass := some k } } := by
  obtain ⟨-, -, -, hdefer', -⟩ := s.applyParts_cleared
  rw [State.changeEffect_of_deferred hdue, State.deferredPass_of_made (hdefer'.trans hdefer) hpass]

/-- With no request under service it takes effect in turn (R193, R194; log 19). -/
theorem State.changeEffect_of_made_idle (hdue : s.lif.changeDue = true) (hdefer : s.lif.passDeferred = true)
    (hpass : s.applyParts.PassesTo k) (hidle : ∀ j, (s.linkOf j).serving = false) : s.changeEffect =
      State.passedTo k { s.applyParts with lif := { s.applyParts.lif with passDeferred := false, pass := some k } } := by
  obtain ⟨htake, hsel, -⟩ := s.applyParts_cleared
  obtain ⟨-, hholder, hsilent, hlive⟩ := id hpass
  have hserving (j : Link) : (s.applyParts.linkOf j).serving = false := (s.applyParts_sendsOnly.serving j).trans (hidle j)
  rw [State.changeEffect_of_made hdue hdefer hpass]
  refine State.changeEffect_of_pass (Lif.changeDue_of_idle ?_ hserving) htake hsel rfl rfl ?_ hlive
  · simp [Lif.changePending]
  · exact (Lif.holderSilent_iff hholder).mpr hsilent

/-- A request under service keeps it pending (R193). -/
theorem State.changeEffect_of_made_serving (hdue : s.lif.changeDue = true) (hdefer : s.lif.passDeferred = true)
    (hpass : s.applyParts.PassesTo k) {j : Link} (hserving : (s.linkOf j).serving = true) : s.changeEffect =
      { s.applyParts with lif := { s.applyParts.lif with passDeferred := false, pass := some k } } := by
  obtain ⟨htake, -⟩ := s.applyParts_cleared
  have hserving' : (s.applyParts.linkOf j).serving = true := (s.applyParts_sendsOnly.serving j).trans hserving
  rw [State.changeEffect_of_made hdue hdefer hpass]
  exact State.changeEffect_of_not_due (Lif.not_changeDue_of_serving (k := j) hserving' (by simp [htake]))

/-- A pass that is pending alone lapses where the holder is LIVE or its link SILENT (R193, R194). -/
theorem State.changeEffect_of_pass_lapsed (hdue : s.lif.changeDue = true) (ht : s.lif.take = none) (hsel : s.lif.selChange = none)
    (hp : s.lif.pass = some k) (hdefer : s.lif.passDeferred = false)
    (hno : ¬ (s.lif.holderSilent = true ∧ (s.linkOf k).live = true)) :
    s.changeEffect = { s with lif := { s.lif with pass := none } } := by
  have htaken : s.changeTaken = { s with lif := { s.lif with pass := none } } := by rw [State.changeTaken, ← ht, ← hsel]
  rw [State.changeEffect_of_due hdue hdefer, State.applyParts_eq, ht, hsel, hp, ← htaken]
  exact if_neg hno

end Effects

/-! ### The commands at which a change takes effect -/

section Commands
variable {s : State} {l k : Link} {q : Nat} {lvl : SelLevel}

theorem exec_commandChangeEffect (hrun : s.inReset = false) :
    exec .commandChangeEffect s = .next (s.changeEffect.holderHandOn s.lif.holder) :=
  congrArg Host.Outcome.next (whenRunning_of_running hrun _)

theorem exec_commandChangeEffect_of_not_due (hrun : s.inReset = false) (hdue : s.lif.changeDue = false) :
    exec .commandChangeEffect s = .next s := by
  rw [exec_commandChangeEffect hrun, State.changeEffect_of_not_due hdue, State.holderHandOn_of_eq rfl]

/-- The state with an accepted level pending (R191, R193). -/
def State.levelPending (lvl : SelLevel) (s : State) : State :=
  { s with lif := { s.lif with sel := ⟨lvl, lvl, none⟩, selChange := some lvl, pass := none } }

theorem exec_selAcceptedChange (hrun : s.inReset = false) (hwait : s.lif.sel.wait.isSome = true) :
    exec .selAcceptedChange s = .next (s.selAccepted.holderHandOn s.lif.holder) :=
  congrArg Host.Outcome.next ((whenRunning_of_running hrun _).trans (if_pos hwait))

/-- A level other than the one in force is made pending (R193). -/
theorem State.selAccepted_of_ne (hraw : s.lif.sel.raw = lvl) (hne : lvl ≠ s.lif.selInForce) (hdefer : s.lif.passDeferred = false) :
    s.selAccepted = (s.levelPending lvl).changeEffect := by
  subst hraw
  have hkeeps (b : Bool) : (s.lif.passDeferred && b) = s.lif.passDeferred := by rw [hdefer]; rfl
  simp only [State.selAccepted, State.levelPending, hne, hkeeps, decide_false, Bool.false_eq_true, if_false]

/-- Back at the level in force, the pending level lapses, and with no take nothing is left pending (R193; log 19). -/
theorem State.selAccepted_of_eq (hraw : s.lif.sel.raw = lvl) (heq : lvl = s.lif.selInForce) (ht : s.lif.take = none) :
    s.selAccepted = { s with lif := { s.lif with
      sel := ⟨lvl, lvl, none⟩, selChange := none, pass := none, passDeferred := false } } := by
  subst hraw
  simp only [State.selAccepted, heq, ht, decide_true, if_true, Bool.not_true, Option.isSome_none, Bool.or_self, Bool.and_false]
  rw [State.changeEffect_of_not_due (by simp [Lif.changeDue, Lif.changePending])]

/-- What holds of a level in effect holds once it is handed on. -/
theorem State.LevelInEffect.handedOn {t : State} {before : Option Link} (h : t.LevelInEffect lvl before) (h' : Option Link) :
    (t.holderHandOn h').LevelInEffect lvl before where
  selInForce := by rw [State.holderHandOn_lif, h.selInForce]
  selChange := by rw [State.holderHandOn_lif, h.selChange]
  pass := by rw [State.holderHandOn_lif, h.pass]
  holder := by rw [State.holderHandOn_lif, h.holder]
  prio := by rw [State.holderHandOn_lif, h.prio]
  handover := by
    rw [State.holderHandOn_lif]
    exact fun hne => State.holderHandOn_flags (h.handover hne) _

/-- The mark of a pass that was put off is no part of it. -/
theorem State.LevelInEffect.withDeferred {t : State} {before : Option Link} (h : t.LevelInEffect lvl before) (b : Bool) :
    State.LevelInEffect lvl before { t with lif := { t.lif with passDeferred := b } } :=
  ⟨h.selInForce, h.selChange, h.pass, h.holder, h.prio, h.handover⟩

/-- An accepted level takes effect at once where no request is under service (R191, R193). -/
theorem selAcceptedChange_applies (hrun : s.inReset = false) (ht : s.lif.take = none) (hraw : s.lif.sel.raw = lvl)
    (hwait : s.lif.sel.wait.isSome = true) (hne : lvl ≠ s.lif.selInForce) (hdefer : s.lif.passDeferred = false)
    (hidle : ∀ l, (s.linkOf l).serving = false) :
    ∃ t, exec .selAcceptedChange s = .next t ∧ t.LevelInEffect lvl s.lif.holder ∧ t.lif.sel = ⟨lvl, lvl, none⟩ := by
  have hdue : (s.levelPending lvl).lif.changeDue = true := Lif.changeDue_of_idle (by simp [Lif.changePending, State.levelPending]) hidle
  obtain ⟨-, -, -, -, hsel⟩ := (s.levelPending lvl).applyParts_cleared
  have happlied := State.applyParts_levelInEffect (s := s.levelPending lvl) ht rfl rfl
  have heffect := (State.selAccepted_of_ne hraw hne hdefer).trans (State.changeEffect_of_due hdue hdefer)
  exact ⟨_, (exec_selAcceptedChange hrun hwait).trans (by rw [heffect]), happlied.handedOn _, by rw [State.holderHandOn_lif, hsel]; rfl⟩

/-- A pending level takes effect where no request is under service (R191, R193). -/
theorem commandChangeEffect_applies (hrun : s.inReset = false) (hdue : s.lif.changeDue = true) (ht : s.lif.take = none)
    (hp : s.lif.pass = none) (hsel : s.lif.selChange = some lvl) (hdefer : s.lif.passDeferred = false) :
    ∃ t, exec .commandChangeEffect s = .next t ∧ t.LevelInEffect lvl s.lif.holder := by
  refine ⟨_, exec_commandChangeEffect hrun, .handedOn ?_ _⟩
  rw [State.changeEffect_of_due hdue hdefer]
  exact State.applyParts_levelInEffect ht hp hsel

/-- What makes a pass due behind a change is judged on the holder that the change left (R193; log 19). -/
theorem State.applyParts_passesTo_iff : s.applyParts.PassesTo k ↔ s.lif.sel.acc = .opened ∧
    s.applyParts.lif.holder = some k.other ∧ (s.linkOf k.other).live = false ∧ (s.linkOf k).live = true := by
  obtain ⟨-, -, -, -, hsel⟩ := s.applyParts_cleared
  rw [State.PassesTo, hsel, s.applyParts_supervised.live, s.applyParts_supervised.live]

/-- Behind a level only a holder that OPEN keeps can pass command on. -/
theorem State.applyParts_passesTo_iff_of_level (ht : s.lif.take = none) (hp : s.lif.pass = none) (hsel : s.lif.selChange = some lvl)
    (hacc : s.lif.sel.acc = lvl) : s.applyParts.PassesTo k ↔
      lvl = .opened ∧ s.lif.holder = some k.other ∧ (s.linkOf k.other).live = false ∧ (s.linkOf k).live = true := by
  rw [State.applyParts_passesTo_iff, hacc, (State.applyParts_levelInEffect ht hp hsel).holder]
  refine and_congr_right fun hopen => ?_
  rw [hopen]
  rfl

/-- A level with no pass behind it (R191, R193). -/
theorem commandChangeEffect_applies_deferred (hrun : s.inReset = false) (hdue : s.lif.changeDue = true) (ht : s.lif.take = none)
    (hp : s.lif.pass = none) (hsel : s.lif.selChange = some lvl) (hno : ∀ k, ¬ s.applyParts.PassesTo k) :
    ∃ t, exec .commandChangeEffect s = .next t ∧ t.lif.passDeferred = false ∧ t.LevelInEffect lvl s.lif.holder := by
  have heffect := State.changeEffect_of_lapsed hdue hno
  refine ⟨_, exec_commandChangeEffect hrun, by rw [State.holderHandOn_lif, heffect], .handedOn ?_ _⟩
  rw [heffect]
  exact (State.applyParts_levelInEffect ht hp hsel).withDeferred false

/-- Command passed to a link, and nothing left pending (R193, R194). -/
structure State.PassInEffect (k : Link) (t : State) : Prop where
  holder : t.lif.holder = some k
  prio : t.lif.prio = some 1
  selChange : t.lif.selChange = none
  pass : t.lif.pass = none
  handover : FlagSet.has t.fnu.flags .handover = true

theorem State.passedTo_lif (s : State) (k : Link) :
    (s.passedTo k).lif = { s.changeTaken.lif with holder := some k, prio := some 1 } := State.setHolder_lif _ _ _

theorem State.passedTo_inEffect (h : s.lif.holder ≠ some k) (before : Option Link) :
    ((s.passedTo k).holderHandOn before).PassInEffect k := by
  have hlif := (State.holderHandOn_lif (s.passedTo k) before).trans (s.passedTo_lif k)
  exact ⟨by rw [hlif], by rw [hlif], by rw [hlif]; rfl, by rw [hlif]; rfl, State.holderHandOn_flags (State.passedTo_handover h) _⟩

/-- A level with a pass behind it: OPEN keeps the holder, and command passes at once from it (R191, R193; log 19). -/
theorem commandChangeEffect_applies_passes (hrun : s.inReset = false) (ht : s.lif.take = none) (hp : s.lif.pass = none)
    (hsel : s.lif.selChange = some lvl) (hdefer : s.lif.passDeferred = true) (hidle : ∀ l, (s.linkOf l).serving = false)
    (hpass : s.applyParts.PassesTo k) : ∃ t, exec .commandChangeEffect s = .next t ∧ t.lif.passDeferred = false ∧
      t.lif.selInForce = lvl ∧ t.PassInEffect k := by
  have hdue := Lif.changeDue_of_idle (x := s.lif) (by simp [Lif.changePending, hsel]) hidle
  obtain ⟨-, hholder, -⟩ := id hpass
  have hne : s.applyParts.lif.holder ≠ some k := by simp [hholder, Link.other_ne]
  have heffect := State.changeEffect_of_made_idle hdue hdefer hpass hidle
  refine ⟨_, exec_commandChangeEffect hrun, ?_, ?_, ?_⟩
  · rw [State.holderHandOn_lif, heffect, State.passedTo_lif]
    rfl
  · rw [State.holderHandOn_lif, heffect, State.passedTo_lif]
    exact (State.applyParts_levelInEffect ht hp hsel).selInForce
  · rw [heffect]
    refine State.passedTo_inEffect ?_ _
    exact hne

/-- A take in effect, with the parts applied and nothing behind it (R192, R193). -/
theorem State.changeEffect_of_take (ht : s.lif.take = some (l, q)) (ho : (s.linkOf l.other).serving = false)
    (hdefer : s.lif.passDeferred = false) : s.changeEffect = s.applyParts :=
  State.changeEffect_of_due (Lif.changeDue_of_take ht ho) hdefer

/-- Behind a take its own link is the holder that may pass command on (log 19). -/
theorem State.applyParts_passesTo_iff_of_take (ht : s.lif.take = some (l, q)) (hp : s.lif.pass = none)
    (hopen : s.lif.selChange.getD s.lif.selInForce = .opened) (hacc : s.lif.sel.acc = .opened) :
    s.applyParts.PassesTo k ↔ k = l.other ∧ (s.linkOf l).live = false ∧ (s.linkOf l.other).live = true := by
  rw [State.applyParts_passesTo_iff, (State.applyParts_takenBy ht hp hopen).holder]
  obtain rfl | rfl := Link.eq_or_eq_other k l
  · simp [(Link.other_ne k).symm]
  · simp [hacc]

end Commands

/-- A level, alone or with a pass put off behind it: the first part of O13. -/
theorem levelTakesEffect {s : State} {lvl : SelLevel} (hrun : s.inReset = false) (ht : s.lif.take = none)
    (hsel : s.lif.selChange = some lvl) (hp : s.lif.pass = none) (hidle : ∀ l, (s.linkOf l).serving = false)
    (hdefer : s.lif.passDeferred = true) (hacc : s.lif.sel.acc = lvl) :
    ∃ t, exec .commandChangeEffect s = .next t ∧ t.lif.passDeferred = false ∧
      (lvl ≠ .opened ∨ s.lif.holder = none → t.LevelInEffect lvl s.lif.holder) ∧
      (∀ h, lvl = .opened → s.lif.holder = some h → t.lif.selInForce = lvl ∧ t.lif.selChange = none ∧ t.lif.pass = none ∧
        t.lif.prio = some 1 ∧
        ((s.linkOf h).live = false → (s.linkOf h.other).live = true →
          t.lif.holder = some h.other ∧ FlagSet.has t.fnu.flags .handover = true) ∧
        ((s.linkOf h).live = true ∨ (s.linkOf h.other).live = false → t.lif.holder = some h)) := by
  have hpasses {k : Link} := State.applyParts_passesTo_iff_of_level (k := k) ht hp hsel hacc
  by_cases hpass : ∃ k, s.applyParts.PassesTo k
  · obtain ⟨k, hk⟩ := hpass
    obtain ⟨hopen, hholder, hsilent, hlive⟩ := hpasses.mp hk
    obtain ⟨t, hexec, hmark, hforce, h⟩ := commandChangeEffect_applies_passes hrun ht hp hsel hdefer hidle hk
    refine ⟨t, hexec, hmark, fun hno => ?_, fun j _ hj => ?_⟩
    · simp [hopen, hholder] at hno
    · obtain rfl : k.other = j := Option.some.inj (hholder.symm.trans hj)
      rw [Link.other_other]
      exact ⟨hforce, h.selChange, h.pass, h.prio, fun _ _ => ⟨h.holder, h.handover⟩, fun hno => by simp [hsilent, hlive] at hno⟩
  · have hdue := Lif.changeDue_of_idle (x := s.lif) (by simp [Lif.changePending, hsel]) hidle
    obtain ⟨t, hexec, hmark, h⟩ := commandChangeEffect_applies_deferred hrun hdue ht hp hsel (not_exists.mp hpass)
    refine ⟨t, hexec, hmark, fun _ => h, fun j hopen hj => ⟨h.selInForce, h.selChange, h.pass, ?_, fun hsilent hlive => ?_, fun _ => ?_⟩⟩
    · rw [h.prio, hopen, hj]
      rfl
    · exact absurd ⟨j.other, hpasses.mpr ⟨hopen, by simpa using hj, by simpa using hsilent, hlive⟩⟩ hpass
    · rw [h.holder, hopen, hj]
      rfl

/-- A take with a pass put off behind it, while its own request is still under service: part of O13. -/
theorem takeLeavesDeferredPass {s : State} {l : Link} {q : Nat} (hrun : s.inReset = false) (ht : s.lif.take = some (l, q))
    (hp : s.lif.pass = none) (ho : (s.linkOf l.other).serving = false) (hserving : (s.linkOf l).serving = true)
    (hdefer : s.lif.passDeferred = true) (hopen : s.lif.selChange.getD s.lif.selInForce = .opened) (hacc : s.lif.sel.acc = .opened) :
    ∃ t, exec .commandChangeEffect s = .next t ∧ t.lif.holder = some l ∧ t.lif.prio = some q ∧ t.lif.take = none ∧
      t.lif.passDeferred = false ∧
      ((s.linkOf l).live = false ∧ (s.linkOf l.other).live = true → t.lif.pass = some l.other) ∧
      ((s.linkOf l).live = true ∨ (s.linkOf l.other).live = false → t.lif.pass = none) := by
  have hdue := Lif.changeDue_of_take ht ho
  have htaken := State.applyParts_takenBy ht hp hopen
  obtain ⟨htake, -, hnone, -⟩ := s.applyParts_cleared
  have hpasses {k : Link} := State.applyParts_passesTo_iff_of_take (k := k) ht hp hopen hacc
  refine ⟨_, exec_commandChangeEffect hrun, ?_⟩
  rw [State.holderHandOn_lif]
  by_cases hpass : (s.linkOf l).live = false ∧ (s.linkOf l.other).live = true
  · rw [State.changeEffect_of_made_serving hdue hdefer (hpasses.mpr ⟨rfl, hpass⟩) hserving]
    exact ⟨htaken.holder, htaken.prio, htake, rfl, fun _ => rfl, fun hno => by simp [hpass] at hno⟩
  · rw [State.changeEffect_of_lapsed hdue fun k hk => hpass (hpasses.mp hk).right]
    exact ⟨htaken.holder, htaken.prio, htake, rfl, fun hyes => absurd hyes hpass, fun _ => hnone⟩

section Clauses
variable {s : State} {l k : Link} {q : Nat} {lvl : SelLevel}

/-- A level accepted while a request is under service waits for it (R193). -/
theorem selAcceptedChange_waits (hrun : s.inReset = false) (ht : s.lif.take = none) (hraw : s.lif.sel.raw = lvl)
    (hwait : s.lif.sel.wait.isSome = true) (hne : lvl ≠ s.lif.selInForce) (hdefer : s.lif.passDeferred = false)
    (hserving : (s.linkOf k).serving = true) : exec .selAcceptedChange s = .next (s.levelPending lvl) := by
  have hdue := Lif.not_changeDue_of_serving (x := (s.levelPending lvl).lif) hserving (by simp [State.levelPending, ht])
  rw [exec_selAcceptedChange hrun hwait, State.selAccepted_of_ne hraw hne hdefer, State.changeEffect_of_not_due hdue]
  exact congrArg Host.Outcome.next (State.holderHandOn_of_eq rfl)

/-- A level back at the one in force (R193). -/
theorem selAcceptedChange_lapses (hrun : s.inReset = false) (ht : s.lif.take = none) (hraw : s.lif.sel.raw = lvl)
    (hwait : s.lif.sel.wait.isSome = true) (heq : lvl = s.lif.selInForce) :
    exec .selAcceptedChange s = .next { s with lif := { s.lif with
      sel := ⟨lvl, lvl, none⟩, selChange := none, pass := none, passDeferred := false } } := by
  rw [exec_selAcceptedChange hrun hwait, State.selAccepted_of_eq hraw heq ht]
  exact congrArg Host.Outcome.next (State.holderHandOn_of_eq rfl)

/-- A take of command with SEL OPEN (R192, R193). -/
theorem takeTakesEffect (hrun : s.inReset = false) (ht : s.lif.take = some (l, q)) (hp : s.lif.pass = none)
    (ho : (s.linkOf l.other).serving = false) (hdefer : s.lif.passDeferred = false)
    (hopen : s.lif.selChange.getD s.lif.selInForce = .opened) :
    ∃ t, exec .commandChangeEffect s = .next t ∧ t.lif.holder = some l ∧ t.lif.prio = some q ∧
      t.lif.take = none ∧ t.lif.selChange = none ∧ t.lif.pass = none ∧ t.lif.selInForce = .opened ∧
      t.linkOf l = (s.replied l 0x50 [0x00, byte (holderCode (some l) + 4 * (q % 8))]).linkOf l ∧
      (s.lif.holder ≠ some l → FlagSet.has t.fnu.flags .handover = true) := by
  have h := State.applyParts_takenBy ht hp hopen
  obtain ⟨htake, hsel, hpass, -⟩ := s.applyParts_cleared
  refine ⟨_, exec_commandChangeEffect hrun, ?_⟩
  rw [State.holderHandOn_lif, State.holderHandOn_linkOf, State.changeEffect_of_take ht ho hdefer]
  exact ⟨h.holder, h.prio, htake, hsel, hpass, h.selInForce, h.link, fun hne => State.holderHandOn_flags (h.handover hne) _⟩

/-- A take that a driven level comes before (R192, R193). -/
theorem takeIsRefused {h : Link} (hrun : s.inReset = false) (ht : s.lif.take = some (l, q)) (hp : s.lif.pass = none)
    (ho : (s.linkOf l.other).serving = false) (hdefer : s.lif.passDeferred = false) (hsel : s.lif.selChange = some lvl)
    (hdriven : lvl ≠ .opened) (hnamed : holderNamed lvl s.lif.holder = some h) :
    ∃ t, exec .commandChangeEffect s = .next t ∧ t.lif.holder = some h ∧ t.lif.prio = none ∧
      t.lif.take = none ∧ t.lif.selChange = none ∧ t.lif.pass = none ∧ t.lif.selInForce = lvl ∧
      t.linkOf l = (s.replied l 0x50 [0x0F, byte (holderCode (some h))]).linkOf l ∧
      (s.lif.holder ≠ some h → FlagSet.has t.fnu.flags .handover = true) := by
  have hr := State.applyParts_takeRefused ht hp hsel hdriven
  obtain ⟨htake, hselChange, hpass, -⟩ := s.applyParts_cleared
  refine ⟨_, exec_commandChangeEffect hrun, ?_⟩
  rw [State.holderHandOn_lif, State.holderHandOn_linkOf, State.changeEffect_of_take ht ho hdefer, ← hnamed]
  exact ⟨hr.holder, hr.prio, htake, hselChange, hpass, hr.selInForce, hr.link,
    fun hne => State.holderHandOn_flags (hr.handover hne.symm) _⟩

/-- A pass on silence, from a SILENT holder to a LIVE link (R193, R194). -/
theorem passTakesEffect {h : Link} (hrun : s.inReset = false) (hdue : s.lif.changeDue = true) (ht : s.lif.take = none)
    (hsel : s.lif.selChange = none) (hdefer : s.lif.passDeferred = false) (hp : s.lif.pass = some l) (hh : s.lif.holder = some h)
    (hsilent : (s.linkOf h).live = false) (hlive : (s.linkOf l).live = true) :
    ∃ t, exec .commandChangeEffect s = .next t ∧ t.PassInEffect l := by
  have hne : s.lif.holder ≠ some l := by
    rw [hh]
    rintro ⟨⟩
    simp [hsilent] at hlive
  have heffect := State.changeEffect_of_pass hdue ht hsel hp hdefer ((Lif.holderSilent_iff hh).mpr hsilent) hlive
  exact ⟨_, (exec_commandChangeEffect hrun).trans (by rw [heffect]), State.passedTo_inEffect hne _⟩

/-- A pass whose holder is LIVE again, or whose link is SILENT (R193, R194). -/
theorem passLapses {h : Link} (hrun : s.inReset = false) (hdue : s.lif.changeDue = true) (ht : s.lif.take = none)
    (hsel : s.lif.selChange = none) (hdefer : s.lif.passDeferred = false) (hp : s.lif.pass = some l) (hh : s.lif.holder = some h)
    (hno : (s.linkOf h).live = true ∨ (s.linkOf l).live = false) :
    exec .commandChangeEffect s = .next { s with lif := { s.lif with pass := none } } := by
  have hlapses : ¬ (s.lif.holderSilent = true ∧ (s.linkOf l).live = true) := by
    rintro ⟨hsilent, hlive⟩
    have hsilent' : (s.linkOf h).live = false := (Lif.holderSilent_iff hh).mp hsilent
    simp [hsilent', hlive] at hno
  rw [exec_commandChangeEffect hrun, State.changeEffect_of_pass_lapsed hdue ht hsel hp hdefer hlapses]
  exact congrArg Host.Outcome.next (State.holderHandOn_of_eq rfl)

/-- Any change but the pending take's own waits for a request under service (R193). -/
theorem commandChangeEffect_waits (hrun : s.inReset = false) (hserving : (s.linkOf k).serving = true)
    (ht : ∀ q, s.lif.take ≠ some (k, q)) : exec .commandChangeEffect s = .next s :=
  exec_commandChangeEffect_of_not_due hrun (Lif.not_changeDue_of_serving hserving ht)

end Clauses

/-- Settles O13: a level, a take, and a pass, each at the moment when no request under service holds it up. -/
theorem commandChangesTakeEffect : Obligations.CommandChangesTakeEffect := by
  refine ⟨?_, ?_, ?_⟩
  · intro s lvl hrun ht named applied
    have happlied {t : State} (h : t.LevelInEffect lvl s.lif.holder) : applied t :=
      ⟨h.selInForce, h.selChange, h.pass, h.holder, h.prio, h.handover⟩
    refine ⟨fun hraw hwait hne hdefer => ⟨fun hidle => ?_, fun ⟨k, hk⟩ => selAcceptedChange_waits hrun ht hraw hwait hne hdefer hk⟩,
      fun hraw hwait heq => selAcceptedChange_lapses hrun ht hraw hwait heq,
      fun hsel hp hidle => ⟨fun hdefer => ?_, fun hdefer hacc => ?_⟩,
      fun hsel ⟨k, hk⟩ => commandChangeEffect_waits hrun hk (by simp [ht])⟩
    · obtain ⟨t, hexec, h, hsel⟩ := selAcceptedChange_applies hrun ht hraw hwait hne hdefer hidle
      exact ⟨t, hexec, happlied h, hsel⟩
    · have hdue := Lif.changeDue_of_idle (x := s.lif) (by simp [Lif.changePending, hsel]) hidle
      obtain ⟨t, hexec, h⟩ := commandChangeEffect_applies hrun hdue ht hp hsel hdefer
      exact ⟨t, hexec, happlied h⟩
    · obtain ⟨t, hexec, hmark, hlevel, hholder⟩ := levelTakesEffect hrun ht hsel hp hidle hdefer hacc
      exact ⟨t, hexec, hmark, fun h => happlied (hlevel h), hholder⟩
  · intro s l q hrun ht hp replied
    refine ⟨fun hserving => commandChangeEffect_waits hrun hserving (by simp [ht, (Link.other_ne l).symm]),
      fun ho hdefer lvl hlvl => ⟨?_, fun h hsome hnamed => ?_⟩,
      fun ho hserving hdefer hsel hforce hacc => takeLeavesDeferredPass hrun ht hp ho hserving hdefer (by rw [hsel]; exact hforce) hacc⟩
    · rintro rfl
      exact takeTakesEffect hrun ht hp ho hdefer hlvl
    · obtain ⟨level, hsel⟩ := Option.isSome_iff_exists.mp hsome
      obtain rfl : level = lvl := by rwa [hsel] at hlvl
      obtain ⟨rfl, rfl⟩ | ⟨rfl, rfl⟩ := hnamed <;> exact takeIsRefused hrun ht hp ho hdefer hsel nofun rfl
  · intro s l hrun ht hsel hdefer hp
    refine ⟨fun hidle => ?_, fun ⟨k, hk⟩ => commandChangeEffect_waits hrun hk (by simp [ht])⟩
    have hdue := Lif.changeDue_of_idle (x := s.lif) (by simp [Lif.changePending, hp]) hidle
    refine ⟨fun h hh hsilent hlive => ?_, fun h hh hno => passLapses hrun hdue ht hsel hdefer hp hh hno⟩
    obtain ⟨t, hexec, hpassed⟩ := passTakesEffect hrun hdue ht hsel hdefer hp hh hsilent hlive
    exact ⟨t, hexec, hpassed.holder, hpassed.prio, hpassed.pass, hpassed.handover⟩

/-! ### TAKE_COMMAND (R192) -/

/-- The request's priority exceeds what the holder has, or there is no holder that is LIVE (R192). -/
def State.Exceeds (n : Nat) (s : State) : Prop :=
  s.lif.holder = none ∨ (∃ h, s.lif.holder = some h ∧ (s.linkOf h).live = false) ∨ s.lif.prio.getD 0 < n

theorem Lif.holderSilent_iff_exists (x : Lif) :
    x.holderSilent = true ↔ ∃ h, x.holder = some h ∧ (x.link.get h).live = false := by
  cases hh : x.holder <;> simp [Lif.holderSilent, hh]

theorem State.exceeds_iff {s : State} {n : Nat} :
    (s.lif.holder = none ∨ s.lif.holderSilent = true ∨ s.lif.prio.getD 0 < n) ↔ s.Exceeds n := by
  rw [Lif.holderSilent_iff_exists]
  rfl

theorem State.beginService_linkOf_live (s : State) (l k : Link) : ((s.beginService l).linkOf k).live = (s.linkOf k).live := by
  obtain rfl | rfl := Link.eq_or_eq_other k l
  · rw [State.beginService, State.linkOf_updLink]
  · rw [State.beginService, State.linkOf_updLink_other]

/-- The service of the request itself makes no difference to it. -/
theorem State.beginService_exceeds {s : State} {l : Link} {n : Nat} : (s.beginService l).Exceeds n ↔ s.Exceeds n := by
  simp only [State.Exceeds, State.beginService_linkOf_live]
  rfl

section TakeCommand
variable {s : State} {l : Link} {b : Byte}

/-- The rows of R192 in their order, over the byte of the request. -/
theorem ownTakeCommand_eq : ownTakeCommand l [b] s =
    if s.lif.sel.acc ≠ .opened then (s, some (s.takeAnswer .fixedSel))
    else if b.toNat < 1 ∨ 7 < b.toNat then (s, some (s.takeAnswer .badValue))
    else if s.lif.holder = some l then
      ({ s with lif := { s.lif with prio := some b.toNat } },
        some (State.takeAnswer { s with lif := { s.lif with prio := some b.toNat } } .ok))
    else if s.lif.holder = none ∨ s.lif.holderSilent = true ∨ s.lif.prio.getD 0 < b.toNat then
      ((State.changeEffect { s with lif := { s.lif with take := some (l, b.toNat) } }).holderHandOn s.lif.holder, none)
    else (s, some (s.takeAnswer .busy)) := by
  have hfield : field [b] 0 1 = b.toNat := field_one (p := [b]) (by simp)
  simp only [ownTakeCommand, hfield]

theorem ownTakeCommand_of_driven (h : s.lif.sel.acc ≠ .opened) : ownTakeCommand l [b] s = (s, some (s.takeAnswer .fixedSel)) := by
  rw [ownTakeCommand_eq, if_pos h]

theorem ownTakeCommand_of_bad (hopen : s.lif.sel.acc = .opened) (hb : b.toNat < 1 ∨ 7 < b.toNat) :
    ownTakeCommand l [b] s = (s, some (s.takeAnswer .badValue)) := by
  rw [ownTakeCommand_eq, if_neg (not_not_intro hopen), if_pos hb]

variable (hopen : s.lif.sel.acc = .opened) (h1 : 1 ≤ b.toNat) (h7 : b.toNat ≤ 7)
include hopen h1 h7

theorem ownTakeCommand_of_holder (hh : s.lif.holder = some l) : ownTakeCommand l [b] s =
    ({ s with lif := { s.lif with prio := some b.toNat } },
      some (State.takeAnswer { s with lif := { s.lif with prio := some b.toNat } } .ok)) := by
  rw [ownTakeCommand_eq, if_neg (not_not_intro hopen), if_neg (by omega), if_pos hh]

theorem ownTakeCommand_of_busy (hne : s.lif.holder ≠ some l) (hno : ¬ s.Exceeds b.toNat) :
    ownTakeCommand l [b] s = (s, some (s.takeAnswer .busy)) := by
  rw [ownTakeCommand_eq, if_neg (not_not_intro hopen), if_neg (by omega), if_neg hne, if_neg (mt State.exceeds_iff.mp hno)]

theorem ownTakeCommand_of_granted (hne : s.lif.holder ≠ some l) (hyes : s.Exceeds b.toNat) : ownTakeCommand l [b] s =
    ((State.changeEffect { s with lif := { s.lif with take := some (l, b.toNat) } }).holderHandOn s.lif.holder, none) := by
  rw [ownTakeCommand_eq, if_neg (not_not_intro hopen), if_neg (by omega), if_neg hne, if_pos (State.exceeds_iff.mpr hyes)]

end TakeCommand

section Take
variable {s : State} {l : Link} {b : Byte}

/-- A row that answers, with the holder and its priority behind the status (R192; log 10). -/
theorem exec_takeCommand_of_answer {t : State} {st : Status} (h : s.Starts l .takeCommand [b])
    (ho : ownTakeCommand l [b] (s.beginService l) = (t, some (t.takeAnswer st))) : exec (.takeCommand l) s =
      .next (t.replied l 0x50 [byte st.code, byte (holderCode t.lif.holder + 4 * (t.lif.prio.getD 0 % 8))]) := by
  refine (congrArg Host.Outcome.next (h.served rfl rfl ho)).trans ?_
  rw [State.takeAnswer_payload]
  rfl

/-- The request under service, with its take granted (R192). -/
def State.takeGranted (l : Link) (n : Nat) (s : State) : State :=
  State.beginService l { s with lif := { s.lif with take := some (l, n) } }

theorem State.takeGranted_linkOf_other (s : State) (l : Link) (n : Nat) : (s.takeGranted l n).linkOf l.other = s.linkOf l.other :=
  State.linkOf_updLink_other _ _ _

/-- The row of a granted take: it takes effect when it is due, and its reply follows (R192, R193). -/
theorem exec_takeCommand_of_granted (h : s.Starts l .takeCommand [b]) (hopen : s.lif.sel.acc = .opened) (h1 : 1 ≤ b.toNat)
    (h7 : b.toNat ≤ 7) (hne : s.lif.holder ≠ some l) (hyes : s.Exceeds b.toNat) : exec (.takeCommand l) s =
      .next ((s.takeGranted l b.toNat).changeEffect.holderHandOn s.lif.holder) := by
  have howner := ownTakeCommand_of_granted (s := s.beginService l) (l := l) hopen h1 h7 hne (State.beginService_exceeds.mpr hyes)
  refine congrArg Host.Outcome.next ?_
  rw [whenRunning_of_running h.running, State.serve_of_starts h rfl rfl, State.serveOwner, howner]
  rfl

end Take

/-- Settles O12: the rows of R192 in their order; a granted take waits, or takes effect at once. -/
theorem takeCommandByItsTable : Obligations.TakeCommandByItsTable := by
  intro s l b h held exceeds
  refine ⟨fun hdriven => ?_, fun hopen hbad => ?_, fun hopen h1 h7 hh => ?_, fun hopen h1 h7 hne hno => ?_,
    fun hopen h1 h7 hne hyes => ⟨fun hserving => ?_, fun hserving hforce hdefer => ?_⟩⟩
  · exact exec_takeCommand_of_answer h (ownTakeCommand_of_driven (s := s.beginService l) hdriven)
  · exact exec_takeCommand_of_answer h (ownTakeCommand_of_bad (s := s.beginService l) hopen hbad)
  · have hprio : holderCode (some l) + 4 * b.toNat = holderCode s.lif.holder + 4 * (b.toNat % 8) := by
      rw [hh, Nat.mod_eq_of_lt (by omega)]
    rw [hprio]
    exact exec_takeCommand_of_answer h (ownTakeCommand_of_holder (s := s.beginService l) hopen h1 h7 hh)
  · have hno' : ¬ (s.beginService l).Exceeds b.toNat := mt State.beginService_exceeds.mp hno
    exact exec_takeCommand_of_answer h (ownTakeCommand_of_busy (s := s.beginService l) hopen h1 h7 hne hno')
  · rw [← s.takeGranted_linkOf_other l b.toNat] at hserving
    have hown : ∀ q, (s.takeGranted l b.toNat).lif.take ≠ some (l.other, q) := by
      simp [State.takeGranted, (Link.other_ne l).symm]
    rw [exec_takeCommand_of_granted h hopen h1 h7 hne hyes,
      State.changeEffect_of_not_due (Lif.not_changeDue_of_serving hserving hown)]
    exact congrArg Host.Outcome.next (State.holderHandOn_of_eq rfl)
  · rw [← s.takeGranted_linkOf_other l b.toNat] at hserving
    have hforce' : (s.takeGranted l b.toNat).lif.selChange.getD (s.takeGranted l b.toNat).lif.selInForce = .opened :=
      (congrArg (fun x : Option SelLevel => x.getD s.lif.selInForce) h.noLevel).trans hforce
    have ht := State.applyParts_takenBy (s := s.takeGranted l b.toNat) rfl h.noPass hforce'
    have hmod : holderCode (some l) + 4 * b.toNat = holderCode (some l) + 4 * (b.toNat % 8) := by
      rw [Nat.mod_eq_of_lt (by omega)]
    obtain ⟨htake, -⟩ := (s.takeGranted l b.toNat).applyParts_cleared
    refine ⟨_, exec_takeCommand_of_granted h hopen h1 h7 hne hyes, ?_⟩
    rw [State.holderHandOn_lif, State.holderHandOn_linkOf, State.changeEffect_of_take rfl hserving hdefer, hmod]
    exact ⟨ht.holder, ht.prio, htake, State.holderHandOn_flags (ht.handover hne) _, ht.link⟩

end Sys2Proof.Machine
end

section
/-! PROOFS. The last check byte of a frame and the bytes of a request frame (R187 to R189, R193, R194, R199): O8 and O6. -/

set_option Elab.async false

namespace Sys2Proof.Machine

/-! ### A frame that is complete -/

section Complete
variable {s : State} {l : Link} {b : Byte} {bs : List Byte}

/-- FRAME_RECEIVED acts where the last check byte is due (R187). -/
theorem exec_frameReceived (hrun : s.inReset = false) (hrx : (s.linkOf l).rx = .inFrame bs) (hlen : 3 ≤ bs.length)
    (htotal : bs.length = (bs.getD 1 0).toNat + 3) : exec (.frameReceived l b) s = .next (s.frameComplete l (bs ++ [b])) := by
  have hlast : s.lastByteNext l = true := by
    simp only [State.lastByteNext, hrx, frameTotal, field_len (show 2 ≤ bs.length by omega)]
    simp only [Bool.and_eq_true, decide_eq_true_eq]
    omega
  exact congrArg Host.Outcome.next ((whenRunning_of_running hrun _).trans ((if_pos hlast).trans (State.receive_completes hrx hlen htotal)))

/-- The last two bytes of a frame are its check (R188, R199). -/
theorem checkOk_iff (h : 2 ≤ bs.length) :
    checkOk bs = true ↔ be (bs.drop (bs.length - 2)) = (check (bs.take (bs.length - 2))).toNat := by
  have hlast : (bs.drop (bs.length - 2)).take 2 = bs.drop (bs.length - 2) := List.take_of_length_le (by rw [List.length_drop]; omega)
  simp only [checkOk, field, hlast, decide_eq_true_eq]

/-- The receiver hunting again at the end of a frame (R187). -/
def State.received (l : Link) (s : State) : State := s.updLink l fun x => { x with rx := .hunting, gap := none }

/-- A frame whose check does not match (R187). -/
theorem State.frameComplete_of_bad (h : ¬ checkOk bs = true) : s.frameComplete l bs = (s.updLink l fun x =>
    { x with rx := .hunting, gap := none, counters := { x.counters with checkErrors := x.counters.checkErrors + 1 } }).raise .linkErr := by
  simp only [State.frameComplete, h, Bool.false_eq_true, if_false, State.updLink_updLink]

/-- A frame whose check matches: the link alive, and the frame taken (R189, R194). -/
def State.frameTaken (l : Link) (bs : List Byte) (s : State) : State := ((s.received l).linkAlive l).takeFrame l bs

theorem State.frameComplete_of_ok (h : checkOk bs = true) :
    s.frameComplete l bs = (s.frameTaken l bs).holderHandOn s.lif.holder := if_pos h

end Complete

/-! ### The link alive (R194) -/

section Alive
variable {s : State} {l : Link}

/-- The link LIVE, with its supervision started again (R194). -/
def State.alive (l : Link) (s : State) : State :=
  s.updLink l fun x => { x with live := true, silence := some (s.linkSilent * 1000), since := 0 }

/-- A link that becomes LIVE while the other holds command and is SILENT, with SEL OPEN (R193, R194). -/
def State.TakesOver (l : Link) (s : State) : Prop :=
  (s.linkOf l).live = false ∧ s.lif.sel.acc = .opened ∧ s.lif.holder = some l.other ∧ (s.linkOf l.other).live = false

theorem State.alive_linkOf (s : State) (l : Link) : (s.alive l).linkOf l =
    { s.linkOf l with live := true, silence := some (s.linkSilent * 1000), since := 0 } := State.linkOf_updLink _ _ _

theorem State.alive_linkOf_other (s : State) (l : Link) : (s.alive l).linkOf l.other = s.linkOf l.other :=
  State.linkOf_updLink_other _ _ _

theorem State.alive_serving (s : State) (l k : Link) : ((s.alive l).linkOf k).serving = (s.linkOf k).serving := by
  obtain rfl | rfl := Link.eq_or_eq_other k l
  · rw [State.alive_linkOf]
  · rw [State.alive_linkOf_other]

/-- Beside a link that is LIVE the holder is SILENT only where it is the other (R194). -/
theorem State.alive_holderSilent : (s.alive l).lif.holderSilent = true ↔
    s.lif.holder = some l.other ∧ (s.linkOf l.other).live = false := by
  rw [Lif.holderSilent_iff_exists]
  constructor
  · rintro ⟨h, hh, hsilent⟩
    have hsilent' : ((s.alive l).linkOf h).live = false := hsilent
    obtain rfl | rfl := Link.eq_or_eq_other h l
    · rw [State.alive_linkOf] at hsilent'
      cases hsilent'
    · rw [State.alive_linkOf_other] at hsilent'
      exact ⟨hh, hsilent'⟩
  · rintro ⟨hh, hsilent⟩
    exact ⟨l.other, hh, (congrArg LinkState.live (s.alive_linkOf_other l)).trans hsilent⟩

theorem State.linkAlive_of_not (h : ¬ s.TakesOver l) : s.linkAlive l = s.alive l :=
  if_neg fun ⟨hwas, hacc, hsilent⟩ => h ⟨hwas, hacc, State.alive_holderSilent.mp hsilent⟩

theorem State.linkAlive_of_takesOver (h : s.TakesOver l) : s.linkAlive l = ((s.alive l).makePass l).changeEffect := by
  obtain ⟨hwas, hacc, hholder, hsilent⟩ := h
  exact if_pos ⟨hwas, hacc, State.alive_holderSilent.mpr ⟨hholder, hsilent⟩⟩

theorem State.linkAlive_sendsOnly (s : State) (l : Link) : (s.alive l).SendsOnly (s.linkAlive l) := by
  by_cases h : s.TakesOver l
  · rw [State.linkAlive_of_takesOver h]
    exact (State.makePass_sendsOnly _ _).trans (State.changeEffect_sendsOnly _)
  · rw [State.linkAlive_of_not h]
    exact .refl _

/-- With nothing else pending and no request under service command passes at once (R193, R194). -/
theorem State.linkAlive_of_idle (h : s.TakesOver l) (ht : s.lif.take = none) (hsel : s.lif.selChange = none)
    (hdefer : s.lif.passDeferred = false) (hidle : ∀ k, (s.linkOf k).serving = false) :
    s.linkAlive l = State.passedTo l { s.alive l with lif := { (s.alive l).lif with pass := some l } } := by
  obtain ⟨-, -, hholder, hsilent⟩ := id h
  have hserving (k : Link) : ((s.alive l).linkOf k).serving = false := (s.alive_serving l k).trans (hidle k)
  have hlive : ((s.alive l).linkOf l).live = true := by rw [State.alive_linkOf]
  rw [State.linkAlive_of_takesOver h, State.makePass_of_free (s := s.alive l) ht hsel]
  refine State.changeEffect_of_pass (Lif.changeDue_of_idle ?_ hserving) ht hsel rfl hdefer
    (State.alive_holderSilent.mpr ⟨hholder, hsilent⟩) hlive
  simp [Lif.changePending]

/-- A request under service keeps the pass pending (R193). -/
theorem State.linkAlive_of_serving {k : Link} (h : s.TakesOver l) (ht : s.lif.take = none) (hsel : s.lif.selChange = none)
    (hserving : (s.linkOf k).serving = true) :
    s.linkAlive l = { s.alive l with lif := { (s.alive l).lif with pass := some l } } := by
  have hserving' : ((s.alive l).linkOf k).serving = true := (s.alive_serving l k).trans hserving
  have ht' : (s.alive l).lif.take = none := ht
  rw [State.linkAlive_of_takesOver h, State.makePass_of_free ht' hsel]
  exact State.changeEffect_of_not_due (Lif.not_changeDue_of_serving (k := k) hserving' (by simp [ht']))

end Alive

/-! ### The frame taken (R189) -/

section Taken
variable {s : State} {l : Link} {bs : List Byte}

theorem field_type (h : bs ≠ []) : field bs 0 1 = (bs.getD 0 0).toNat := field_one (List.length_pos_iff.mpr h)

/-- A frame that is no request is discarded (R189). -/
theorem State.takeFrame_of_high (hbs : bs ≠ []) (h : 128 ≤ (bs.getD 0 0).toNat) : s.takeFrame l bs =
    s.updLink l fun x => { x with counters := { x.counters with discards := x.counters.discards + 1 } } := by
  unfold State.takeFrame
  rw [field_type hbs]
  exact if_pos h

/-- A request that finds the buffer full is an overrun (R189). -/
theorem State.takeFrame_of_full (hbs : bs ≠ []) (h : (bs.getD 0 0).toNat < 128) (hfull : 2 ≤ (s.linkOf l).buffer.length) :
    s.takeFrame l bs = (s.updLink l fun x =>
      { x with counters := { x.counters with overruns := x.counters.overruns + 1 } }).raise .linkErr := by
  unfold State.takeFrame
  rw [field_type hbs]
  exact (if_neg (by omega)).trans (if_pos hfull)

/-- Any other is buffered (R189). -/
theorem State.takeFrame_of_room (hbs : bs ≠ []) (h : (bs.getD 0 0).toNat < 128) (hroom : (s.linkOf l).buffer.length ≤ 1) :
    s.takeFrame l bs = s.updLink l fun x =>
      { x with buffer := (s.linkOf l).buffer ++ [⟨(bs.getD 0 0).toNat, (bs.drop 2).take (field bs 1 1)⟩],
               counters := { x.counters with accepted := x.counters.accepted + 1 } } := by
  unfold State.takeFrame
  rw [field_type hbs]
  exact (if_neg (by omega)).trans (if_neg (by omega))

/-- Of the Link Interface a frame taken changes its link alone. -/
theorem State.takeFrame_lif (s : State) (l : Link) (bs : List Byte) :
    (s.takeFrame l bs).lif = { s.lif with link := (s.takeFrame l bs).lif.link } := by
  simp only [State.takeFrame]
  split_ifs <;> rfl

/-- And of that link its buffer and its counters. -/
theorem State.takeFrame_linkOf (s : State) (l : Link) (bs : List Byte) : (s.takeFrame l bs).linkOf l = { s.linkOf l with
    buffer := ((s.takeFrame l bs).linkOf l).buffer, counters := ((s.takeFrame l bs).linkOf l).counters } := by
  simp only [State.takeFrame]
  split_ifs
  · rw [State.linkOf_updLink]
  · rw [State.linkOf, State.raise_lif, ← State.linkOf, State.linkOf_updLink]
  · rw [State.linkOf_updLink]

end Taken

section FrameTaken
variable {s : State} {l : Link} {bs : List Byte}

/-- The link that a valid frame finds: hunting, LIVE, and supervised anew, with its buffer and counters as they were (R187, R194). -/
theorem State.received_linkAlive_linkOf (s : State) (l : Link) : ((s.received l).linkAlive l).linkOf l = { s.linkOf l with
    rx := .hunting, gap := none, live := true, silence := some (s.linkSilent * 1000), since := 0,
    tx := (((s.received l).linkAlive l).linkOf l).tx, ready := (((s.received l).linkAlive l).linkOf l).ready } := by
  have halive : ((s.received l).alive l).linkOf l = { s.linkOf l with
      rx := .hunting, gap := none, live := true, silence := some (s.linkSilent * 1000), since := 0 } := by
    rw [State.alive_linkOf, State.received, State.linkOf_updLink]
    rfl
  rw [(s.received l).linkAlive_sendsOnly l l, halive]

theorem State.frameTaken_linkOf (s : State) (l : Link) (bs : List Byte) : ((s.frameTaken l bs).linkOf l).rx = .hunting ∧
    ((s.frameTaken l bs).linkOf l).gap = none ∧ ((s.frameTaken l bs).linkOf l).live = true ∧
    ((s.frameTaken l bs).linkOf l).since = 0 ∧ ((s.frameTaken l bs).linkOf l).silence = some (s.linkSilent * 1000) := by
  rw [State.frameTaken, State.takeFrame_linkOf, State.received_linkAlive_linkOf]
  exact ⟨rfl, rfl, rfl, rfl, rfl⟩

theorem State.frameTaken_of_high (hbs : bs ≠ []) (h : 128 ≤ (bs.getD 0 0).toNat) :
    ((s.frameTaken l bs).linkOf l).buffer = (s.linkOf l).buffer ∧ ((s.frameTaken l bs).linkOf l).counters =
      { (s.linkOf l).counters with discards := (s.linkOf l).counters.discards + 1 } := by
  rw [State.frameTaken, State.takeFrame_of_high hbs h, State.linkOf_updLink, State.received_linkAlive_linkOf]
  exact ⟨rfl, rfl⟩

theorem State.frameTaken_of_full (hbs : bs ≠ []) (h : (bs.getD 0 0).toNat < 128) (hfull : 2 ≤ (s.linkOf l).buffer.length) :
    ((s.frameTaken l bs).linkOf l).buffer = (s.linkOf l).buffer ∧ ((s.frameTaken l bs).linkOf l).counters =
      { (s.linkOf l).counters with overruns := (s.linkOf l).counters.overruns + 1 } ∧
      FlagSet.has (s.frameTaken l bs).fnu.flags .linkErr = true := by
  have hfound : 2 ≤ (((s.received l).linkAlive l).linkOf l).buffer.length := by rwa [State.received_linkAlive_linkOf]
  rw [State.frameTaken, State.takeFrame_of_full hbs h hfound, State.linkOf, State.raise_lif, ← State.linkOf, State.linkOf_updLink,
    State.received_linkAlive_linkOf]
  exact ⟨rfl, rfl, Fnu.raise_has _ _⟩

theorem State.frameTaken_of_room (hbs : bs ≠ []) (h : (bs.getD 0 0).toNat < 128) (hroom : (s.linkOf l).buffer.length ≤ 1) :
    ((s.frameTaken l bs).linkOf l).buffer = (s.linkOf l).buffer ++ [⟨(bs.getD 0 0).toNat, (bs.drop 2).take (field bs 1 1)⟩] ∧
      ((s.frameTaken l bs).linkOf l).counters =
        { (s.linkOf l).counters with accepted := (s.linkOf l).counters.accepted + 1 } := by
  have hfound : (((s.received l).linkAlive l).linkOf l).buffer.length ≤ 1 := by rwa [State.received_linkAlive_linkOf]
  rw [State.frameTaken, State.takeFrame_of_room hbs h hfound, State.linkOf_updLink, State.received_linkAlive_linkOf]
  exact ⟨rfl, rfl⟩

theorem State.received_linkOf_other (s : State) (l : Link) : (s.received l).linkOf l.other = s.linkOf l.other :=
  State.linkOf_updLink_other _ _ _

theorem State.received_serving (s : State) (l k : Link) : ((s.received l).linkOf k).serving = (s.linkOf k).serving := by
  obtain rfl | rfl := Link.eq_or_eq_other k l
  · rw [State.received, State.linkOf_updLink]
  · rw [State.received_linkOf_other]

/-- The receiver has no part in a pass on silence. -/
theorem State.received_takesOver : (s.received l).TakesOver l ↔ s.TakesOver l := by
  rw [State.TakesOver, State.received_linkOf_other, State.received, State.linkOf_updLink]
  rfl

/-- Without a pass the holder, its priority and what is pending stay (R194). -/
theorem State.frameTaken_of_not_takesOver (h : ¬ s.TakesOver l) : (s.frameTaken l bs).lif.holder = s.lif.holder ∧
    (s.frameTaken l bs).lif.prio = s.lif.prio ∧ (s.frameTaken l bs).lif.pass = s.lif.pass := by
  rw [State.frameTaken, State.takeFrame_lif, State.linkAlive_of_not (mt State.received_takesOver.mp h)]
  exact ⟨rfl, rfl, rfl⟩

/-- A pass that takes effect at once (R193, R194). -/
theorem State.frameTaken_of_idle (h : s.TakesOver l) (ht : s.lif.take = none) (hsel : s.lif.selChange = none)
    (hdefer : s.lif.passDeferred = false) (hidle : ∀ k, (s.linkOf k).serving = false) : (s.frameTaken l bs).PassInEffect l := by
  obtain ⟨-, -, hholder, -⟩ := id h
  have hne : s.lif.holder ≠ some l := by simp [hholder, Link.other_ne]
  have halive := State.linkAlive_of_idle (State.received_takesOver.mpr h) ht hsel hdefer fun k => (s.received_serving l k).trans (hidle k)
  have hflag : FlagSet.has ((s.received l).linkAlive l).fnu.flags .handover = true := by
    rw [halive]
    refine State.passedTo_handover ?_
    exact hne
  have hlif : (s.frameTaken l bs).lif = { ((s.received l).linkAlive l).lif with link := (s.frameTaken l bs).lif.link } :=
    State.takeFrame_lif _ _ _
  rw [halive, State.passedTo_lif] at hlif
  refine ⟨?_, ?_, ?_, ?_, Fnu.Raised.flags (State.takeFrame_raises _ _ _) hflag⟩ <;> rw [hlif] <;> rfl

/-- A pass that waits for a request under service (R193). -/
theorem State.frameTaken_of_serving {k : Link} (h : s.TakesOver l) (ht : s.lif.take = none) (hsel : s.lif.selChange = none)
    (hserving : (s.linkOf k).serving = true) : (s.frameTaken l bs).lif.holder = some l.other ∧
      (s.frameTaken l bs).lif.prio = s.lif.prio ∧ (s.frameTaken l bs).lif.pass = some l := by
  obtain ⟨-, -, hholder, -⟩ := id h
  have hserving' : ((s.received l).linkOf k).serving = true := (s.received_serving l k).trans hserving
  rw [State.frameTaken, State.takeFrame_lif, State.linkAlive_of_serving (State.received_takesOver.mpr h) ht hsel hserving']
  exact ⟨hholder, rfl, rfl⟩

end FrameTaken

/-- Settles O8: the check, the link alive, the frame taken, and the pass it may bring. -/
theorem lastByteTakesTheFrame : Obligations.LastByteTakesTheFrame := by
  intro s l b bs hrun hrx hlen htotal x body sent
  have hexec := exec_frameReceived (b := b) hrun hrx hlen htotal
  have hnil : bs ++ [b] ≠ [] := by simp
  have hlast : (bs ++ [b]).length - 2 = bs.length - 1 := by rw [List.length_append, List.length_singleton]; omega
  have hok : checkOk (bs ++ [b]) = true ↔ be sent = (check body).toNat := by
    rw [checkOk_iff (by simp; omega), hlast]
  have htype : (bs ++ [b]).getD 0 0 = bs.getD 0 0 := List.getD_append _ _ _ _ (by omega)
  have hpayload : ((bs ++ [b]).drop 2).take (field (bs ++ [b]) 1 1) = body.drop 2 := by
    rw [field_len_append (by omega), List.drop_take]
    congr 1
    omega
  refine ⟨fun hbad => ?_, fun hgood => ?_, ?_⟩
  · rw [hexec, State.frameComplete_of_bad (mt hok.mp hbad)]
  · refine ⟨_, hexec, ?_⟩
    rw [State.frameComplete_of_ok (hok.mpr hgood), State.holderHandOn_linkOf, State.holderHandOn_lif]
    obtain ⟨hrx', hgap, hlive, hsince, hsilence⟩ := s.frameTaken_linkOf l (bs ++ [b])
    refine ⟨hrx', hgap, hlive, hsince, hsilence, ?_, ?_, ?_, ?_, ?_⟩
    · rw [← htype]
      exact State.frameTaken_of_high hnil
    · rw [← htype]
      intro hreq hfull
      obtain ⟨hbuffer, hcounters, hflag⟩ := State.frameTaken_of_full hnil hreq hfull
      exact ⟨hbuffer, hcounters, State.holderHandOn_flags hflag _⟩
    · rw [← htype, ← hpayload]
      exact State.frameTaken_of_room hnil
    · exact State.frameTaken_of_not_takesOver
    · refine fun hpass ht hsel hdefer => ⟨fun hidle => ?_, fun ⟨k, hk⟩ => State.frameTaken_of_serving hpass ht hsel hk⟩
      have h := State.frameTaken_of_idle (bs := bs ++ [b]) hpass ht hsel hdefer hidle
      exact ⟨h.holder, h.prio, h.pass, State.holderHandOn_flags h.handover _⟩
  · rw [hexec, exec_byteReceived hrun, State.receive_completes hrx hlen htotal]

/-! ### The bytes of a request frame, one by one (R187, R199) -/

section Bytes
variable {s : State} {l : Link} {b : Byte} {bs more : List Byte} {rest : List Instr}

/-- The commands by which bytes arrive on a link without a stop-bit error. -/
def arrivals (l : Link) (bs : List Byte) : List Instr := bs.map fun b => .byteReceived l b false

/-- The part with these commands waiting, and the frame in progress on the link that of these bytes (R187). -/
def State.midFrame (l : Link) (bs : List Byte) (rest : List Instr) (s : State) : State :=
  { s with pending := rest }.inFrameWith l bs

theorem State.midFrame_linkOf (s : State) (l : Link) (bs : List Byte) (rest : List Instr) : (s.midFrame l bs rest).linkOf l =
    { s.linkOf l with rx := .inFrame bs, gap := some 2000 } := State.linkOf_updLink _ _ _

/-- A byte at the front of the queue is received on the state with the rest of the queue. -/
theorem step_byteReceived (hrun : s.inReset = false) (hp : s.pending = .byteReceived l b false :: rest) :
    step s = .next ({ s with pending := rest }.receive l b) := by
  simp only [step, hp]
  exact exec_byteReceived (s := { s with pending := rest }) hrun

/-- A byte stored takes one step. -/
theorem State.midFrame_after_succ (hrun : s.inReset = false) (hnext : StoredNext bs b) (n : Nat) :
    State.after (n + 1) (s.midFrame l bs (.byteReceived l b false :: rest)) = State.after n (s.midFrame l (bs ++ [b]) rest) := by
  have hrx : ((s.midFrame l bs rest).linkOf l).rx = .inFrame bs := by rw [State.midFrame_linkOf]
  have hstored : (s.midFrame l bs rest).receive l b = s.midFrame l (bs ++ [b]) rest :=
    (State.receive_stores hrx hnext).trans
      (State.updLink_updLink _ l (fun x => { x with rx := .inFrame bs, gap := some 2000 })
        fun x => { x with rx := .inFrame (bs ++ [b]), gap := some 2000 })
  rw [State.after, step_byteReceived (rest := rest) (s := s.midFrame l bs (.byteReceived l b false :: rest)) hrun rfl]
  exact congrArg (State.after n) hstored

/-- The bytes behind LEN, short of the last one, are stored one by one. -/
theorem State.midFrame_after (hrun : s.inReset = false) (hlen : 2 ≤ bs.length)
    (hmore : bs.length + more.length ≤ (bs.getD 1 0).toNat + 3) (n : Nat) :
    State.after (more.length + n) (s.midFrame l bs (arrivals l more ++ rest)) = State.after n (s.midFrame l (bs ++ more) rest) := by
  induction more generalizing bs with
  | nil => rw [List.append_nil, List.length_nil, Nat.zero_add]; rfl
  | cons b more ih =>
    rw [List.length_cons] at hmore
    have hkeeps : (bs ++ [b]).getD 1 0 = bs.getD 1 0 := List.getD_append _ _ _ _ hlen
    have hlength : (bs ++ [b]).length = bs.length + 1 := by simp
    have hstep := State.midFrame_after_succ (rest := arrivals l more ++ rest) (l := l) (b := b) hrun
      (.inr (.inr ⟨hlen, by omega⟩)) (more.length + n)
    rw [List.length_cons, Nat.add_right_comm, List.append_cons bs b more, ← ih (by omega) (by rw [hkeeps]; omega)]
    exact hstep

/-- SYNC begins a frame at a hunting receiver (R187). -/
theorem State.after_sync (hrun : s.inReset = false) (hrx : (s.linkOf l).rx = .hunting)
    (hp : s.pending = .byteReceived l 0xA5#8 false :: rest) (n : Nat) :
    State.after (n + 1) s = State.after n (s.midFrame l [] rest) := by
  have hbegun : State.receive l 0xA5#8 { s with pending := rest } = s.midFrame l [] rest :=
    (State.receive_of_hunting (s := { s with pending := rest }) hrx).trans (if_pos rfl)
  rw [State.after, step_byteReceived hrun hp]
  exact congrArg (State.after n) hbegun

/-- The last check byte completes it. -/
theorem State.midFrame_after_last (hrun : s.inReset = false) (hlen : 3 ≤ bs.length) (htotal : bs.length = (bs.getD 1 0).toNat + 3) :
    State.after 1 (s.midFrame l bs (.byteReceived l b false :: rest)) = some ((s.midFrame l bs rest).frameComplete l (bs ++ [b])) := by
  have hrx : ((s.midFrame l bs rest).linkOf l).rx = .inFrame bs := by rw [State.midFrame_linkOf]
  rw [State.after, step_byteReceived (rest := rest) (s := s.midFrame l bs (.byteReceived l b false :: rest)) hrun rfl]
  exact congrArg some (State.receive_completes hrx hlen htotal)

end Bytes

section RequestFrame
variable {code : Nat} {p : List Byte}

/-- The bytes of a frame from TYPE through the last payload byte (R188, R199). -/
def frameBody (code : Nat) (p : List Byte) : List Byte := byte code :: byte p.length :: p

/-- The first and the second byte of a frame's check (R188, R199). -/
def checkHigh (bs : List Byte) : Byte := byte ((check bs).toNat / 256)

def checkLow (bs : List Byte) : Byte := byte (check bs).toNat

theorem mkFrame_eq (code : Nat) (p : List Byte) : mkFrame code p =
    0xA5#8 :: byte code :: byte p.length :: (p ++ [checkHigh (frameBody code p)] ++ [checkLow (frameBody code p)]) := by
  simp [mkFrame, toBE, frameBody, checkHigh, checkLow]

/-- The two check bytes spell the check (R188). -/
theorem be_check (bs : List Byte) : be [checkHigh bs, checkLow bs] = (check bs).toNat := by
  have hlt := (check bs).isLt
  simp only [be, checkHigh, checkLow, BitVec.toNat_ofNat, List.length_cons, List.length_nil]
  omega

theorem checkOk_frame (code : Nat) (p : List Byte) :
    checkOk (frameBody code p ++ [checkHigh (frameBody code p)] ++ [checkLow (frameBody code p)]) = true := by
  generalize frameBody code p = body
  rw [List.append_assoc, List.singleton_append, checkOk_iff (by simp), List.length_append]
  simpa using be_check body

/-- A payload of at most 56 bytes has its length in the LEN byte (R199). -/
theorem frameBody_len (hp : p.length ≤ 56) (code : Nat) (bs : List Byte) :
    (((frameBody code p ++ bs).getD 1 0)).toNat = p.length := by
  simp only [frameBody, List.cons_append, List.getD_cons_succ, List.getD_cons_zero, BitVec.toNat_ofNat]
  omega

/-- The commands of a frame's bytes lead to the frame complete (R187, R199). -/
theorem State.after_frame {s : State} {l : Link} {rest : List Instr} (hrun : s.inReset = false) (hrx : (s.linkOf l).rx = .hunting)
    (hp : p.length ≤ 56) (hpending : s.pending = arrivals l (mkFrame code p) ++ rest) :
    State.after (p.length + 5) s =
      some ((s.midFrame l (frameBody code p ++ [checkHigh (frameBody code p)]) rest).frameComplete l
        (frameBody code p ++ [checkHigh (frameBody code p)] ++ [checkLow (frameBody code p)])) := by
  have hbytes : s.pending = .byteReceived l 0xA5#8 false :: .byteReceived l (byte code) false :: .byteReceived l (byte p.length) false ::
      (arrivals l (p ++ [checkHigh (frameBody code p)]) ++ .byteReceived l (checkLow (frameBody code p)) false :: rest) := by
    rw [hpending, mkFrame_eq]
    simp [arrivals]
  have hfirst : (byte p.length).toNat = p.length := frameBody_len hp code []
  have hcount : p.length + 2 = (p ++ [checkHigh (frameBody code p)]).length + 1 := by simp
  have hlen := frameBody_len hp code [checkHigh (frameBody code p)]
  have hlength : (frameBody code p ++ [checkHigh (frameBody code p)]).length = p.length + 3 := by simp [frameBody]
  rw [State.after_sync hrun hrx hbytes, State.midFrame_after_succ hrun (.inl rfl),
    State.midFrame_after_succ hrun (.inr (.inl ⟨rfl, hfirst.trans_le hp⟩)), hcount,
    State.midFrame_after hrun le_rfl (by simp [hfirst]; omega)]
  exact State.midFrame_after_last (bs := frameBody code p ++ [checkHigh (frameBody code p)]) hrun (by omega) (by omega)

/-- The request that a frame's bytes carry (R189, R199). -/
theorem frame_request (hcode : code < 0x80) (hp : p.length ≤ 56) (c d : Byte) :
    ((frameBody code p ++ [c] ++ [d]).getD 0 0).toNat = code ∧
      ((frameBody code p ++ [c] ++ [d]).drop 2).take (field (frameBody code p ++ [c] ++ [d]) 1 1) = p := by
  have hlen := frameBody_len hp code ([c] ++ [d])
  rw [← List.append_assoc] at hlen
  rw [field_len (by simp [frameBody]), hlen]
  constructor
  · simp only [frameBody, List.cons_append, List.getD_cons_zero, BitVec.toNat_ofNat]
    omega
  · simp [frameBody]

end RequestFrame

@[simp] theorem State.holderHandOn_pending (s : State) (h : Option Link) : (s.holderHandOn h).pending = s.pending := by
  unfold State.holderHandOn
  split <;> simp

/-- Settles O6: the bytes lead to the frame complete, whose check matches and whose request finds room. -/
theorem frameBytesReachTheBuffer : Obligations.FrameBytesReachTheBuffer := by
  intro s l code p rest hrun hrx hroom hcode hp hpending
  refine ⟨_, State.after_frame hrun hrx hp hpending, ?_⟩
  rw [State.frameComplete_of_ok (checkOk_frame code p), State.holderHandOn_linkOf, State.holderHandOn_pending]
  obtain ⟨htype, hpayload⟩ := frame_request hcode hp (checkHigh (frameBody code p)) (checkLow (frameBody code p))
  generalize hbs : frameBody code p ++ [checkHigh (frameBody code p)] ++ [checkLow (frameBody code p)] = bs at htype hpayload
  have hnil : bs ≠ [] := by simp [← hbs]
  generalize frameBody code p ++ [checkHigh (frameBody code p)] = stored
  have hlink := s.midFrame_linkOf l stored rest
  obtain ⟨hrx', hgap, hlive, hsince, -⟩ := (s.midFrame l stored rest).frameTaken_linkOf l bs
  have htaken := State.frameTaken_of_room (s := s.midFrame l stored rest) hnil (by rw [htype]; exact hcode) (by rw [hlink]; exact hroom)
  rw [htype, hpayload, hlink] at htaken
  obtain ⟨hbuffer, hcounters⟩ := htaken
  exact ⟨by simp [State.frameTaken, State.received, State.midFrame, State.inFrameWith], hbuffer, hrx', hgap, hlive, hsince, hcounters⟩

end Sys2Proof.Machine
end

section
/-! PROOFS. Requests that are refused, requests on the observer link, and GET_STATUS (R189, R190, R192, R195, R200 to R202): O9, O10 and
O15. -/

set_option Elab.async false

namespace Sys2Proof.Machine

/-! ### What a request row serves -/

/-- An owner leaves the state as it is where its link does not hold command. -/
def ReadsOnObserver (l : Link) (owner : List Byte → State → State × Option Answer) : Prop :=
  ∀ (p : List Byte) (u : State), u.lif.holder ≠ some l → ∃ a, owner p u = (u, some a)

/-- A request row serves its request with an owner of its own, and where the request changes no state the owner only reads on the
observer link, but for TAKE_COMMAND and SET_NOTICE_MASK (R189, R200). -/
theorem exec_of_request {c : Instr} {l : Link} {r : Req} (h : c.request? = some (l, r)) :
    ∃ owner, (∀ s, exec c s = .next (whenRunning (fun u => u.serve l r owner) s)) ∧
      ((∀ k, c ≠ .takeCommand k) → (∀ k, c ≠ .setNoticeMask k) → r.changes = true ∨ ReadsOnObserver l owner) := by
  cases c with
  | takeCommand k => cases h; exact ⟨_, fun _ => rfl, fun hno _ => absurd rfl (hno l)⟩
  | setNoticeMask k => cases h; exact ⟨_, fun _ => rfl, fun _ hno => absurd rfl (hno l)⟩
  | readCurrent k => cases h; exact ⟨_, fun _ => rfl, fun _ _ => .inr fun p _ hu => ⟨_, ownReadCurrent_of_ne hu p⟩⟩
  | readPosition | readQueue | readClosed | readLine | readSlot | readRule | readTarget | readBreaker | readPassage | readIce
  | getFlags | getStatus | readParam => cases h; exact ⟨_, fun _ => rfl, fun _ _ => .inr fun _ _ _ => ⟨_, rfl⟩⟩
  | reportPosition | reverse | postEvent | cancelEvent | resumeQueue | setSlot | unlockSlot | setDemand | writeRule | clearTro
  | clearFlags | clearFault | setParam | resetPart => cases h; exact ⟨_, fun _ => rfl, fun _ _ => .inl rfl⟩
  | _ => cases h

/-! ### Refusals (R189) -/

theorem Answer.just_payload (st : Status) : (Answer.just st).payload = [byte st.code] := rfl

section Refused
variable {s : State} {l : Link} {r : Req} {p : List Byte}

theorem State.serve_of_length (h : s.Starts l r p) (hlen : p.length ≠ r.len) (owner : List Byte → State → State × Option Answer) :
    s.serve l r owner = s.answered l r.code [0x03] := by
  have hserve : s.serve l r owner = (s.beginService l).sendReply l r.code (.just .badLength) := by
    simp [State.serve, State.canServe_of_starts h, hlen]
  rw [hserve, State.sendReply_eq_replied, Answer.just_payload]
  rfl

theorem State.serve_of_observer (h : s.Starts l r p) (hlen : p.length = r.len) (hchanges : r.changes = true)
    (hne : s.lif.holder ≠ some l) (owner : List Byte → State → State × Option Answer) :
    s.serve l r owner = s.answered l r.code [0x05] := by
  have hserve : s.serve l r owner = (s.beginService l).sendReply l r.code (.just .notCommanding) := by
    simp [State.serve, State.canServe_of_starts h, hlen, hchanges, hne]
  rw [hserve, State.sendReply_eq_replied, Answer.just_payload]
  rfl

theorem isRequestCode_iff {code : Nat} : isRequestCode code = true ↔ code ∈ requestTable.map Req.code := by
  simp [isRequestCode]

/-- A code of no request (R189, R200). -/
theorem exec_unknownReq {code : Nat} (h : s.Starts l ⟨code, 0, false⟩ p) (hno : code ∉ requestTable.map Req.code) :
    exec (.unknownReq l) s = .next (s.answered l code [0x02]) := by
  have hunknown : ¬ isRequestCode code = true := mt isRequestCode_iff.mp hno
  refine congrArg Host.Outcome.next ((whenRunning_of_running h.running _).trans ?_)
  simp only [State.canServe_of_starts h, hunknown, Bool.false_eq_true, if_false, State.sendReply_eq_replied]
  rfl

end Refused

/-- Settles O9: the code, the length, and the link that asks, tested in that order. -/
theorem refusedRequestsChangeNothing : Obligations.RefusedRequestsChangeNothing := by
  refine ⟨fun s l code p h hno => exec_unknownReq h hno, fun s c l r p hc h => ?_⟩
  obtain ⟨owner, hexec, -⟩ := exec_of_request hc
  rw [hexec, whenRunning_of_running h.running]
  exact ⟨fun hlen => congrArg Host.Outcome.next (State.serve_of_length h hlen owner),
    fun hlen hchanges hne => congrArg Host.Outcome.next (State.serve_of_observer h hlen hchanges hne owner)⟩

/-! ### The observer link (R189) -/

/-- The states differ in the record of one link alone. -/
def State.LinkOnly (l : Link) (s t : State) : Prop := ∃ x, t = s.updLink l fun _ => x

section Observer
variable {s t : State} {l : Link} {r : Req}

theorem State.LinkOnly.refl (s : State) (l : Link) : State.LinkOnly l s s := ⟨s.linkOf l, by cases l <;> rfl⟩

theorem State.LinkOnly.updLink (h : State.LinkOnly l s t) (f : LinkState → LinkState) : State.LinkOnly l s (t.updLink l f) := by
  obtain ⟨x, rfl⟩ := h
  exact ⟨f x, State.updLink_updLink _ _ _ _⟩

theorem State.LinkOnly.sendReply (h : State.LinkOnly l s t) (code : Nat) (a : Answer) :
    State.LinkOnly l s (t.sendReply l code a) := by
  rw [State.sendReply_eq_replied]
  exact h.updLink _

/-- On the observer link a request is refused, or only read for: what changes is the link (R189, R190). -/
theorem State.serve_linkOnly {owner : List Byte → State → State × Option Answer} (hne : s.lif.holder ≠ some l)
    (howner : r.changes = true ∨ ReadsOnObserver l owner) : State.LinkOnly l s (s.serve l r owner) := by
  have hbegun : State.LinkOnly l s (s.beginService l) := (State.LinkOnly.refl s l).updLink _
  unfold State.serve
  split
  · exact .refl s l
  next q _ =>
    split_ifs with hcode hlen hrefused
    · exact .refl s l
    · exact hbegun.sendReply _ _
    · exact hbegun.sendReply _ _
    · obtain hchanges | hreads := howner
      · exact absurd ⟨hchanges, hne⟩ hrefused
      · obtain ⟨a, ha⟩ := hreads q.payload (s.beginService l) hne
        simp only [State.serveOwner, ha]
        exact hbegun.sendReply _ _

theorem State.LinkOnly.eq (h : State.LinkOnly l s t) :
    t = { s with lif := { s.lif with link := t.lif.link } } ∧ t.linkOf l.other = s.linkOf l.other := by
  obtain ⟨x, rfl⟩ := h
  exact ⟨rfl, State.linkOf_updLink_other _ _ _⟩

end Observer

/-- Settles O10: whether the request starts or not, is refused or served. -/
theorem observerLinkChangesNothing : Obligations.ObserverLinkChangesNothing := by
  intro s t c l r hc hne htake hmask hexec
  obtain ⟨owner, hserves, howner⟩ := exec_of_request hc
  rw [hserves] at hexec
  cases hexec
  refine State.LinkOnly.eq ?_
  unfold whenRunning
  split
  · exact .refl s l
  · exact State.serve_linkOnly hne (howner htake hmask)

/-! ### GET_STATUS (R195, R202) -/

@[simp] theorem selCode_mod (x : SelLevel) : selCode x % 4 = selCode x := by cases x <;> rfl

/-- The service of the request itself does not show in the answer. -/
theorem statusAnswer_beginService (s : State) (l : Link) (p : List Byte) :
    statusAnswer l p (s.beginService l) = statusAnswer l p s := by cases l <;> rfl

/-- The items of R195 where no change is pending, packed: the second byte is full, so the code of the pending change begins the third. -/
theorem statusAnswer_payload {s : State} (l : Link) (p : List Byte) (h : s.lif.changeCode = 0) : (statusAnswer l p s).payload =
    [0x00, byte ((if l = .b then 1 else 0) + 2 * selCode s.lif.sel.acc + 8 * holderCode s.lif.holder + 32 * (s.lif.prio.getD 0 % 8)),
      byte (at2 (s.linkOf .a).live 2 + at2 s.fnu.notice.a 3 + at2 (s.linkOf .b).live 4 + at2 s.fnu.notice.b 5)] ++
      linkBytes (s.linkOf .a) ++ linkBytes (s.linkOf .b) ++ summaryBytes s ++
      [byte (s.pe.status.code + 4 * (s.pe.band % 4) + 16 * s.pe.lead.code + at2 s.csu.tro 5 + at2 s.csu.overloadLatch 6)] := by
  have hlink : (if l = .a then 0 else 1) % 2 = if l = .b then 1 else 0 := by cases l <;> rfl
  simp only [statusAnswer, Answer.payload, h]
  simp [pack, Status.code, Item.bool, at2, hlink, holderCode_mod, Nat.mul_comm]

/-- Settles O15: with no change pending the answer packs as given. -/
theorem statusReplyIs34Bytes : Obligations.StatusReplyIs34Bytes := by
  intro s l h link
  have hchange : s.lif.changeCode = 0 := by simp [Lif.changeCode, h.noTake, h.noLevel, h.noPass]
  refine (congrArg Host.Outcome.next (h.served (owner := readOnly (statusAnswer l)) rfl rfl rfl)).trans ?_
  rw [statusAnswer_beginService, statusAnswer_payload l [] hchange]
  simp only [summaryBytes, List.append_assoc]
  rfl

end Sys2Proof.Machine
end

section
/-! PROOFS. A step with a command waiting: O1. -/

set_option Elab.async false

namespace Sys2Proof.Machine

/-- Settles O1: of the two cases of `step`, the command in front selects the one that runs it (log 24). -/
theorem stepRunsFrontCommand : Obligations.StepRunsFrontCommand := by
  intro s c rest hfront
  unfold step
  rw [hfront]

end Sys2Proof.Machine
end
